-- ==== Sys2Proof/Word.lean ====
section
/-! DEFINITION. The byte and word types. -/

namespace Sys2Proof

/-- One byte of memory or of a buffer. -/
abbrev Byte := BitVec 8

/-- One 64-bit word. -/
abbrev Word := BitVec 64

end Sys2Proof
end

