-- ==== Sys2Proof/Syntax.lean ====
section
/-! DEFINITION. The commands of the 8840, one constructor for each row of spec/opcode_table.json, with what their
sender supplies: register values, and what the parties outside answer (hosts, dies, board, sensors, NOR). -/

namespace Sys2Proof

/-- The target of a register write. `master` is a master identity (R315); `inHandler` says that the master's handler of
an earlier bus fault has not returned (R319). -/
inductive WriteTarget where
  | bus (master addr size : Nat) (inHandler : Bool)
  | bar0 (f off size : Nat)
  | bar2 (f off size : Nat)
  | bar4 (f off size : Nat)
  | config (f off size : Nat)
  deriving DecidableEq, Repr

/-- A submission entry as the host wrote it (64 B). -/
structure Sqe where
  opcode : Nat
  fuse : Nat
  psdt : Nat
  cid : Nat
  nsid : Nat
  cdw2 : Nat
  cdw3 : Nat
  mptr : Nat
  dptr1 : Nat
  dptr2 : Nat
  cdw10 : Nat
  cdw11 : Nat
  cdw12 : Nat
  cdw13 : Nat
  cdw14 : Nat
  cdw15 : Nat
  deriving DecidableEq, Repr

/-- A completion TLP: link, tag, EP bit, whether its ECRC check fails, and its data. -/
structure CplTlp where
  link : Nat
  tag : Nat
  ep : Bool
  ecrcBad : Bool
  data : List Byte
  deriving DecidableEq, Repr

/-- What a link negotiated with its partner (R188, R189). -/
structure LinkParams where
  rate : Nat
  width : Nat
  flit : Bool
  reversed : Bool
  polarity : Nat
  deriving DecidableEq, Repr

/-- A range of Dataset Management or Secure Deallocate: context attributes, length in logical blocks, first block. -/
structure DsmRange where
  attrs : Nat
  len : Nat
  slba : Nat
  deriving DecidableEq, Repr

/-- A source range of Copy, descriptor format 0h: first block, number of blocks (zero-based), and the tags that its blocks
are checked against: reference tag, application tag and its mask. -/
structure CopyDesc where
  slba : Nat
  nlb : Nat
  ref : Nat
  app : Nat
  mask : Nat
  deriving DecidableEq, Repr

/-- The host's data of Namespace Management Create (R244). -/
structure NsCreate where
  nsze : Nat
  ncap : Nat
  flbas : Nat
  dps : Nat
  nmic : Nat
  handles : List Nat
  deriving DecidableEq, Repr

/-- A short or an open of a channel line (R68): kind 0 to ground, 1 to VCCQ, 2 to a neighbour, 3 open. -/
structure ContFault where
  kind : Nat
  line : Nat
  partnerCh : Nat
  partnerLine : Nat
  deriving DecidableEq, Repr

/-- What a declared die answers in training step 4 (R65, R66): die-on-channel, whether it responds, Read ID bytes,
the parameter page copy that passed its CRC (empty for none), planes, data bytes and spare bytes of a page. -/
structure DieId where
  d : Nat
  responds : Bool
  id : List Nat
  ppage : List Byte
  planes : Nat
  pageBytes : Nat
  spareBytes : Nat
  deriving DecidableEq, Repr

/-- The outcome of a training step as the board and the dies give it (Table 3.2). -/
inductive TrainOutcome where
  /-- Step 1: the continuity check and its first fault. -/
  | cont (fault : Option ContFault)
  /-- Step 2: every declared LUN was polled ready. -/
  | ready
  /-- Step 3: the bit orders, in the layout of FCH_CH_SWIZZLE.MAP, through which the channel's dies pass both tests of R70, and
  those at whose trial a die drives DQS. -/
  | order (passes drives : List Nat)
  /-- Step 4: the dies' identification. -/
  | ids (l : List DieId)
  /-- Steps 5 and 6. -/
  | result (pass : Bool)
  deriving DecidableEq, Repr

/-- One codeword of a read response: how the hard or soft decode at this level ends (0 pass, 1 fail), the raw 4,608 B that the
die's data phase gives, the decoded payload of bytes 0 to 4,159, corrected bits and 0/1 imbalance. -/
structure CwIn where
  verdict : Nat
  raw : List Byte
  payload : List Byte
  errs : Nat
  imbalance : Int
  deriving DecidableEq, Repr

/-- A die's response: the planes whose status reads FAIL, the codewords of a read, and the bytes of the other operations. -/
structure DieResponse where
  fail : List Nat
  words : List CwIn
  bytes : List Byte
  deriving DecidableEq, Repr

/-- What a mark scan reads of a block: byte 0 of the spare area of page 0, and of page PAGES - 1 (R138). -/
structure MarkRead where
  plane : Nat
  block : Nat
  first : Nat
  last : Nat
  deriving DecidableEq, Repr

/-- An Opal locking range with the lock state that a method gives it (R276, R277). `kind` is 0 for the Global Range, 1 for
a namespace global range, 2 for a range of `count` sectors from `first` within namespace index `ns`. -/
structure OpalRange where
  num : Nat
  kind : Nat
  ns : Nat
  first : Nat
  count : Nat
  readLocked : Bool
  writeLocked : Bool
  lockOnReset : Bool
  deriving DecidableEq, Repr

/-- What the training of a channel that holds a Sett die meets at a start (Table 3.2): the continuity fault, the bit orders that pass
and those at which a die drives DQS, the dies' identification, and whether steps 5 and 6 pass. -/
structure ChanTrain where
  ch : Nat
  fault : Option ContFault
  passes : List Nat
  drives : List Nat
  ids : List DieId
  pass : Bool
  deriving DecidableEq, Repr

/-- The defaults of device firmware as the booted image sets them (R131): FDP with its handles and those of them that are persistently
isolated (R142), RESERVE (R134), the threshold of Available Spare, CONFIRM_HOURS (R366), PSLC_PCT and DIRECT_MIN in MiB (R140), WL_DELTA
(R148), SCRUB_DAYS, REFRESH_C and REFRESH_DAYS (R149), FDP_PAD_MS (R143), and each model's ratings, dense and pSLC (R148). -/
structure ImageDecl where
  fdp : Bool
  fdpHandles : Nat
  persistent : List Nat
  reserve : Nat
  spareThresh : Nat
  confirmHours : Nat
  pslcPct : Nat
  directMin : Nat
  wlDelta : Nat
  scrubDays : Nat
  refreshC : Nat
  refreshDays : Nat
  padMs : Nat
  ratings : List (Nat × Nat)
  deriving DecidableEq, Repr

/-- What a start finds outside the machine: straps (SMBA in bits [2:0], SPI_HIZ in bit 3), VCCQ of each den in millivolts,
whether the OTP digest holds, density (log2 of bits) and 4-byte addressing of the NOR, its two image copies, what the booted
image's firmware records declare, training of the Sett channels and of HBM, the erase of a regression, the package that BOOT_PKG
names, the time to step 11 in ms, and whether the newest checkpoint fails authentication in both Sett copies (R53). -/
structure BootInputs where
  straps : Nat
  vccq : List Nat
  otpOk : Bool
  density : Nat
  addr4 : Bool
  copyA : List Byte
  copyB : List Byte
  decl : ImageDecl
  chans : List ChanTrain
  hbmOk : Bool
  pcFail : List Nat
  eraseOk : Bool
  bootPkg : List Byte
  bootMs : Nat
  ckptBad : Bool
  deriving DecidableEq, Repr

/-- A PCIe vendor-defined message of MCTP (R396): its link, the routing of its TLP (0 to the root complex, 2 by ID), whether the
ID is that of the link's physical function, and the MCTP header and payload. -/
structure VdmPacket where
  link : Nat
  route : Nat
  toPf : Bool
  data : List Byte
  deriving DecidableEq, Repr

/-- The commands of the 8840: one constructor for each row of the table of operations and events. -/
inductive Instr where
  /-- REGISTER_WRITE (R3). -/
  | registerWrite (t : WriteTarget) (value : Nat)
  /-- CLOCK_LOSS (R20). -/
  | clockLoss
  /-- HOLDOVER_END (R20). -/
  | holdoverEnd
  /-- REFCLK_P_LOSS (R21). -/
  | refclkPLoss (port : Nat)
  /-- RAIL_OUT_OF_RANGE (R335). -/
  | railOutOfRange
  /-- START (R335). -/
  | start (b : BootInputs)
  /-- WARM_START (R409). -/
  | warmStart (b : BootInputs)
  /-- FLT_RESTART (R407). -/
  | fltRestart
  /-- AUTO_WARM_START (R417). -/
  | autoWarmStart
  /-- SETT_ONLY_CLEAR (R346). -/
  | settOnlyClear
  /-- ADVANCE_SECVER (R350). -/
  | advanceSecver (progOk : Bool)
  /-- REVOKE_KEY (R350). -/
  | revokeKey (progOk : Bool)
  /-- BURN_REMAP (R350). -/
  | burnRemap (progOk : Bool)
  /-- SPI_CMD (R355). -/
  | spiCmd (norData : List Byte)
  /-- SPI_STATUS_POLL (R355). -/
  | spiStatusPoll (bank : Nat) (status : Nat)
  /-- NOR_WINDOW_READ (R355). -/
  | norWindowRead (master : Nat) (addr : Nat) (size : Nat) (inHandler : Bool) (norData : Nat)
  /-- HIF_ENABLE (R199). -/
  | hifEnable
  /-- LINK_UP (R188). -/
  | linkUp (link : Nat) (p : LinkParams)
  /-- PERST_N_ASSERT (R191). -/
  | perstNAssert (port : Nat)
  /-- PERST_N_DEASSERT (R191). -/
  | perstNDeassert (port : Nat)
  /-- HOT_RESET (R191). -/
  | hotReset (link : Nat)
  /-- LINK_DOWN (R191). -/
  | linkDown (link : Nat)
  /-- BUS_MASTER_ENABLE_CLEAR (R209). -/
  | busMasterEnableClear (f : Nat)
  /-- BUS_MASTER_ENABLE_SET (R209). -/
  | busMasterEnableSet (f : Nat)
  /-- INITIATE_FUNCTION_LEVEL_RESET (R210). -/
  | initiateFunctionLevelReset (f : Nat)
  /-- FUNCTION_LEVEL_RESET_DONE (R210). -/
  | functionLevelResetDone (f : Nat)
  /-- VF_ENABLE_SET (R193). -/
  | vfEnableSet (link : Nat)
  /-- VF_ENABLE_CLEAR (R193). -/
  | vfEnableClear (link : Nat)
  /-- D3HOT_ENTRY (R195). -/
  | d3hotEntry (f : Nat)
  /-- D0_RETURN (R195). -/
  | d0Return (f : Nat)
  /-- MSIX_UNMASK (R200). -/
  | msixUnmask (f : Nat) (vector : Nat)
  /-- COMPLETION_RECEIVED (R207). -/
  | completionReceived (c : CplTlp)
  /-- COMPLETION_TIMEOUT (R206). -/
  | completionTimeout (link : Nat) (tag : Nat)
  /-- QUARANTINE_END (R207). -/
  | quarantineEnd (link : Nat) (tag : Nat)
  /-- CC_ENABLE (R214). -/
  | ccEnable (f : Nat) (cc : Nat)
  /-- CONTROLLER_RESET (R236). -/
  | controllerReset (f : Nat)
  /-- NORMAL_SHUTDOWN (R237). -/
  | normalShutdown (f : Nat)
  /-- ABRUPT_SHUTDOWN (R237). -/
  | abruptShutdown (f : Nat)
  /-- SHUTDOWN_COMPLETE (R237). -/
  | shutdownComplete (f : Nat)
  /-- SQ_TAIL_DOORBELL (R217). -/
  | sqTailDoorbell (f : Nat) (q : Nat) (v : Nat)
  /-- CQ_HEAD_DOORBELL (R217). -/
  | cqHeadDoorbell (f : Nat) (q : Nat) (v : Nat)
  /-- SUBMISSION_FETCH (R218). -/
  | submissionFetch
  /-- SUBMISSION_ENTRIES_ARRIVE (R219). -/
  | submissionEntriesArrive (link : Nat) (tag : Nat) (entries : List Sqe)
  /-- LOCK_GRANT (R227). -/
  | lockGrant (ctx : Nat) (recB : Bool)
  /-- COMMIT (R221). -/
  | commit (ctx : Nat)
  /-- COMPLETION_POST (R223). -/
  | completionPost (f : Nat) (cq : Nat)
  /-- INTERRUPT_COALESCING_TIMER (R224). -/
  | interruptCoalescingTimer (f : Nat) (cq : Nat)
  /-- FIRMWARE_RING_TAKE (R222). -/
  | firmwareRingTake (head : Nat)
  /-- FWCPL_GO (R222). -/
  | fwcplGo
  /-- ACQUIRE (R240). -/
  | acquire (slot : Nat)
  /-- RELEASE (R240). -/
  | release (slot : Nat)
  /-- CANCEL (R240). -/
  | cancel (slot : Nat)
  /-- CMD_ENABLE (R239). -/
  | cmdEnable
  /-- PAUSE (R238). -/
  | pause
  /-- DRAINED (R238). -/
  | drained
  /-- RESUME (R238). -/
  | resume
  /-- READ (R12). -/
  | read (ctx : Nat)
  /-- WRITE (R169). -/
  | write (ctx : Nat)
  /-- WRITE_ADMISSION (R170). -/
  | writeAdmission
  /-- PARTIAL_SECTOR_MERGE (R168). -/
  | partialSectorMerge (ctx : Nat) (sector : Nat)
  /-- STAGING_RELEASE (R167). -/
  | stagingRelease (sector : Nat)
  /-- FLUSH (R235). -/
  | flush (ctx : Nat)
  /-- COMPARE (R246). -/
  | compare (ctx : Nat)
  /-- VERIFY (R246). -/
  | verify (ctx : Nat)
  /-- WRITE_ZEROES (R247). -/
  | writeZeroes (ctx : Nat)
  /-- WRITE_UNCORRECTABLE (R247). -/
  | writeUncorrectable (ctx : Nat)
  /-- DATASET_MANAGEMENT (R248). -/
  | datasetManagement (ctx : Nat) (ranges : List DsmRange)
  /-- COPY (R246). -/
  | copy (ctx : Nat) (descs : List CopyDesc)
  /-- IO_MANAGEMENT_SEND (R252). -/
  | ioManagementSend (ctx : Nat) (phs : List Nat)
  /-- IO_MANAGEMENT_RECEIVE (R252). -/
  | ioManagementReceive (ctx : Nat)
  /-- FENCE (R234). -/
  | fence (ctx : Nat)
  /-- FENCE_COMMIT (R234). -/
  | fenceCommit (ctx : Nat)
  /-- BURROW_ADVISE_PREFETCH (R255). -/
  | burrowAdvisePrefetch (ctx : Nat)
  /-- BURROW_ADVISE_PIN (R255). -/
  | burrowAdvisePin (ctx : Nat)
  /-- BURROW_ADVISE_UNPIN (R255). -/
  | burrowAdviseUnpin (ctx : Nat)
  /-- SECURE_DEALLOCATE (R256). -/
  | secureDeallocate (ctx : Nat) (ranges : List DsmRange)
  /-- COMPRESS (R257). -/
  | compress (ctx : Nat) (src : List Byte) (verifyOk : Bool)
  /-- DECOMPRESS (R257). -/
  | decompress (ctx : Nat) (src : List Byte)
  /-- CREATE_IO_COMPLETION_QUEUE (R216). -/
  | createIoCompletionQueue (ctx : Nat)
  /-- CREATE_IO_SUBMISSION_QUEUE (R216). -/
  | createIoSubmissionQueue (ctx : Nat)
  /-- DELETE_IO_COMPLETION_QUEUE (R216). -/
  | deleteIoCompletionQueue (ctx : Nat)
  /-- DELETE_IO_SUBMISSION_QUEUE (R236). -/
  | deleteIoSubmissionQueue (ctx : Nat)
  /-- IDENTIFY (R242). -/
  | identify (ctx : Nat)
  /-- GET_LOG_PAGE (R250). -/
  | getLogPage (ctx : Nat)
  /-- ABORT (R231). -/
  | abort (ctx : Nat)
  /-- SET_FEATURES (R249). -/
  | setFeatures (ctx : Nat) (data : List Byte)
  /-- SET_FEATURES_NUMBER_OF_QUEUES (R215). -/
  | setFeaturesNumberOfQueues (ctx : Nat)
  /-- SET_FEATURES_POWER_MANAGEMENT (R381). -/
  | setFeaturesPowerManagement (ctx : Nat)
  /-- SET_FEATURES_VOLATILE_WRITE_CACHE (R171). -/
  | setFeaturesVolatileWriteCache (ctx : Nat)
  /-- SET_FEATURES_TEMPERATURE_THRESHOLD (R385). -/
  | setFeaturesTemperatureThreshold (ctx : Nat)
  /-- SET_FEATURES_HCTM (R386). -/
  | setFeaturesHctm (ctx : Nat)
  /-- GET_FEATURES (R249). -/
  | getFeatures (ctx : Nat)
  /-- ASYNCHRONOUS_EVENT_REQUEST (R250). -/
  | asynchronousEventRequest (ctx : Nat)
  /-- ASYNC_EVENT_POST (R250). -/
  | asyncEventPost (f : Nat)
  /-- NAMESPACE_CREATE (R244). -/
  | namespaceCreate (ctx : Nat) (d : NsCreate)
  /-- NAMESPACE_DELETE (R244). -/
  | namespaceDelete (ctx : Nat)
  /-- NAMESPACE_ATTACH (R244). -/
  | namespaceAttach (ctx : Nat) (ctrls : List Nat)
  /-- NAMESPACE_DETACH (R244). -/
  | namespaceDetach (ctx : Nat) (ctrls : List Nat)
  /-- FIRMWARE_IMAGE_DOWNLOAD (R361). -/
  | firmwareImageDownload (ctx : Nat) (data : List Byte)
  /-- FIRMWARE_COMMIT_REPLACE (R362). -/
  | firmwareCommitReplace (ctx : Nat)
  /-- FIRMWARE_COMMIT_REPLACE_ACTIVATE_RESET (R362). -/
  | firmwareCommitReplaceActivateReset (ctx : Nat)
  /-- FIRMWARE_COMMIT_ACTIVATE_RESET (R362). -/
  | firmwareCommitActivateReset (ctx : Nat)
  /-- FIRMWARE_COMMIT_ACTIVATE_NOW (R364). -/
  | firmwareCommitActivateNow (ctx : Nat)
  /-- DIRECTIVE_SEND (R245). -/
  | directiveSend (ctx : Nat) (data : List Byte)
  /-- DIRECTIVE_RECEIVE (R245). -/
  | directiveReceive (ctx : Nat)
  /-- NVME_MI_SEND (R245). -/
  | nvmeMiSend (ctx : Nat) (m : List Byte)
  /-- NVME_MI_RECEIVE (R245). -/
  | nvmeMiReceive (ctx : Nat)
  /-- FORMAT_NVM (R370). -/
  | formatNvm (ctx : Nat)
  /-- FORMAT_NVM_BLOCK_ERASE (R370). -/
  | formatNvmBlockErase (ctx : Nat)
  /-- FORMAT_NVM_CRYPTO_ERASE (R370). -/
  | formatNvmCryptoErase (ctx : Nat)
  /-- SECURITY_SEND (R276). -/
  | securitySend (ctx : Nat) (data : List Byte)
  /-- SECURITY_RECEIVE (R276). -/
  | securityReceive (ctx : Nat)
  /-- OPAL_LOCK_STATE_CHANGE (R277). -/
  | opalLockStateChange (r : OpalRange)
  /-- OPAL_GENKEY (R278). -/
  | opalGenkey (range : Nat)
  /-- OPAL_REVERT (R278). -/
  | opalRevert (psid : Bool)
  /-- SANITIZE_BLOCK_ERASE (R374). -/
  | sanitizeBlockErase (ctx : Nat)
  /-- SANITIZE_CRYPTO_ERASE (R374). -/
  | sanitizeCryptoErase (ctx : Nat)
  /-- SANITIZE_EXIT_FAILURE_MODE (R376). -/
  | sanitizeExitFailureMode (ctx : Nat)
  /-- SANITIZE_DESTRUCTIVE_PHASES (R374). -/
  | sanitizeDestructivePhases
  /-- SANITIZE_ENTROPY_FAILURE (R376). -/
  | sanitizeEntropyFailure
  /-- CONFIRM_FIRMWARE (R258). -/
  | confirmFirmware (ctx : Nat)
  /-- AUTO_CONFIRMATION (R367). -/
  | autoConfirmation
  /-- SERVICE_DUMP_CAPTURE (R260). -/
  | serviceDumpCapture (ctx : Nat)
  /-- SERVICE_DUMP_READ (R260). -/
  | serviceDumpRead (ctx : Nat)
  /-- SERVICE_DUMP_RELEASE (R260). -/
  | serviceDumpRelease (ctx : Nat)
  /-- REQUALIFY_DIE (R259). -/
  | requalifyDie (ctx : Nat)
  /-- READ_ONLY_ENTRY (R158). -/
  | readOnlyEntry
  /-- SPARE_BELOW_THRESHOLD (R157). -/
  | spareBelowThreshold
  /-- TELEMETRY_REFRESH (R251). -/
  | telemetryRefresh
  /-- HEALTH_COUNTER_SAVE (R161). -/
  | healthCounterSave
  /-- MAP_ENABLE (R42). -/
  | mapEnable
  /-- WALKER_LOOKUP (R32). -/
  | walkerLookup (ns : Nat) (sector : Nat)
  /-- ROW_RETIRE (R35). -/
  | rowRetire (stripe : Nat) (row : Nat)
  /-- MAP_RERUN_POP (R39). -/
  | mapRerunPop
  /-- RUN_READ (R60). -/
  | runRead (slot : Nat)
  /-- RUN_CAS (R36). -/
  | runCas (slot : Nat)
  /-- EXC_CAS (R36). -/
  | excCas (slot : Nat)
  /-- EXC_DEALLOC (R60). -/
  | excDealloc (slot : Nat)
  /-- EXC_MARK_LOST (R60). -/
  | excMarkLost (slot : Nat)
  /-- RUN_CLEAR (R60). -/
  | runClear (slot : Nat)
  /-- RERUN_OPEN (R40). -/
  | rerunOpen (slot : Nat)
  /-- RERUN_COMMIT (R40). -/
  | rerunCommit (slot : Nat)
  /-- STRIPE_HDR (R24). -/
  | stripeHdr (slot : Nat)
  /-- STRIPE_MEMBER (R111). -/
  | stripeMember (slot : Nat)
  /-- LOOKUP (R60). -/
  | lookup (slot : Nat)
  /-- JNL_APPEND (R45). -/
  | jnlAppend (slot : Nat)
  /-- JNL_SYNC (R45). -/
  | jnlSync (slot : Nat)
  /-- JOURNAL_FLUSH_TIMER (R45). -/
  | journalFlushTimer
  /-- MAP_JNL_SYNC_SYNC (R45). -/
  | mapJnlSyncSync
  /-- MAP_JNL_SYNC_SHUTDOWN (R45). -/
  | mapJnlSyncShutdown
  /-- JOURNAL_PAGE_PROGRAM_DONE (R46). -/
  | journalPageProgramDone (seq : Nat) (copyB : Bool) (media : Nat) (pass : Bool)
  /-- MAP_CKPT_BEGIN_WRITE (R48). -/
  | mapCkptBeginWrite (seq : Nat)
  /-- MAP_REPLAY_GO (R53). -/
  | mapReplayGo
  /-- MAP_REPLAY_SWEEP (R54). -/
  | mapReplaySweep
  /-- MAP_NS_WRITE (R61). -/
  | mapNsWrite (n : Nat) (value : Nat)
  /-- FCH_ENABLE (R67). -/
  | fchEnable
  /-- DEN_ENABLE (R64). -/
  | denEnable (den : Nat)
  /-- TRAINING_STEP_COMPLETE (R67). -/
  | trainingStepComplete (ch : Nat) (o : TrainOutcome)
  /-- CHANNEL_FENCE (R69). -/
  | channelFence (ch : Nat)
  /-- CONT_CHECK (R68). -/
  | contCheck (ch : Nat) (fault : Option ContFault)
  /-- RETRAIN (R67). -/
  | retrain (ch : Nat)
  /-- SCHEDULED_RETRAIN (R72). -/
  | scheduledRetrain (ch : Nat)
  /-- DQS_TIMEOUT (R91). -/
  | dqsTimeout (die : Nat)
  /-- DIE_FENCE (R76). -/
  | dieFence (die : Nat)
  /-- RETIRE (R75). -/
  | retire (die : Nat)
  /-- REQUALIFY (R79). -/
  | requalify (die : Nat)
  /-- REQUALIFY_DONE (R79). -/
  | requalifyDone (die : Nat) (fault : Option ContFault) (id : DieId) (pass : Bool)
  /-- ACTIVATE (R79). -/
  | activate (die : Nat)
  /-- DIE_STATE_RESTORE (R75). -/
  | dieStateRestore (die : Nat) (state : Nat)
  /-- RING_ENABLE (R86). -/
  | ringEnable (den : Nat)
  /-- RING_TAIL_WRITE (R86). -/
  | ringTailWrite (den : Nat) (tail : Nat)
  /-- MEDIA_OPERATION_ISSUE (R81). -/
  | mediaOperationIssue (die : Nat)
  /-- STATUS_POLL (R74). -/
  | statusPoll (die : Nat) (status : Nat)
  /-- POLL_TIMEOUT (R74). -/
  | pollTimeout (die : Nat)
  /-- MEDIA_OPERATION_COMPLETE (R77). -/
  | mediaOperationComplete (die : Nat) (r : DieResponse)
  /-- MEDIA_SUSPEND (R87). -/
  | mediaSuspend (die : Nat)
  /-- MEDIA_RESUME (R88). -/
  | mediaResume (die : Nat)
  /-- AGING_PROMOTION (R81). -/
  | agingPromotion (die : Nat) (op : Nat)
  /-- CDC_ENABLE (R113). -/
  | cdcEnable
  /-- RECONSTRUCTION (R105). -/
  | reconstruction (id : Nat)
  /-- READ_AROUND_RECHECK (R102). -/
  | readAroundRecheck
  /-- RA_BUDGET_TICK (R104). -/
  | raBudgetTick
  /-- ROW_ENCODE (R101). -/
  | rowEncode (stripe : Nat) (row : Nat)
  /-- REBUILD_GO (R109). -/
  | rebuildGo (slot : Nat)
  /-- REBUILD_ROW (R109). -/
  | rebuildRow (slot : Nat)
  /-- REBUILD_ABORT (R110). -/
  | rebuildAbort (slot : Nat)
  /-- PACKED_ROW_COPY (R136). -/
  | packedRowCopy (slot : Nat)
  /-- RUN_ROW_COPY (R136). -/
  | runRowCopy (slot : Nat)
  /-- MARK_SCAN (R138). -/
  | markScan (slot : Nat) (marks : List MarkRead)
  /-- COPY_SLOT_ABORT (R137). -/
  | copySlotAbort (slot : Nat)
  /-- TRK_ENABLE (R129). -/
  | trkEnable
  /-- TH_ENABLE (R118). -/
  | thEnable
  /-- THERMAL_CELL_ENABLE (R127). -/
  | thermalCellEnable (n : Nat)
  /-- FRAME_START (R118). -/
  | frameStart
  /-- SWAP (R123). -/
  | swap
  /-- CELL_READ (R130). -/
  | cellRead (slot : Nat)
  /-- CELL_INIT (R125). -/
  | cellInit (slot : Nat)
  /-- CELL_CLEAR (R130). -/
  | cellClear (slot : Nat)
  /-- CELL_DISABLE (R130). -/
  | cellDisable (slot : Nat)
  /-- AGE_SET (R115). -/
  | ageSet (slot : Nat)
  /-- AGE_GET (R130). -/
  | ageGet (slot : Nat)
  /-- DIE_DISABLE (R130). -/
  | dieDisable (slot : Nat)
  /-- GARBAGE_COLLECTION (R144). -/
  | garbageCollection (stripe : Nat)
  /-- FOLD (R141). -/
  | fold (stripe : Nat)
  /-- SCRUB_PASS (R149). -/
  | scrubPass
  /-- KEYGEN_MIGRATION (R153). -/
  | keygenMigration (key : Nat)
  /-- SECURE_DEALLOCATION_PHASE_2 (R155). -/
  | secureDeallocationPhase2 (id : Nat)
  /-- FDP_PAD_TIMER (R143). -/
  | fdpPadTimer (handle : Nat)
  /-- HBM_ENABLE (R169). -/
  | hbmEnable
  /-- HOLDUP_MEASUREMENT (R172). -/
  | holdupMeasurement (mj : Nat)
  /-- HBM_WINDOW_ENABLE (R165). -/
  | hbmWindowEnable (w : Nat)
  /-- PSEUDO_CHANNEL_TIMEOUT (R183). -/
  | pseudoChannelTimeout (p : Nat)
  /-- BUR_ENABLE (R175). -/
  | burEnable
  /-- SKETCH_AGING (R175). -/
  | sketchAging
  /-- BURROW_FILL_COMPLETE (R176). -/
  | burrowFillComplete (frame : Nat)
  /-- BURROW_READ_DONE (R178). -/
  | burrowReadDone (frame : Nat)
  /-- PREFETCH (R186). -/
  | prefetch (slot : Nat)
  /-- PIN (R182). -/
  | pin (slot : Nat)
  /-- UNPIN (R186). -/
  | unpin (slot : Nat)
  /-- COOL (R186). -/
  | cool (slot : Nat)
  /-- BOOST (R186). -/
  | boost (slot : Nat)
  /-- INVAL (R186). -/
  | inval (slot : Nat)
  /-- ESTIMATE (R186). -/
  | estimate (slot : Nat)
  /-- BPM_ENABLE (R293). -/
  | bpmEnable
  /-- BUFFER_REQUEST (R294). -/
  | bufferRequest (size : Nat) (requester : Nat)
  /-- BPM_POOL_ALLOC_READ (R294). -/
  | bpmPoolAllocRead (pool : Nat)
  /-- BPM_FREE (R296). -/
  | bpmFree (addr : Nat)
  /-- BPM_REBUILD (R297). -/
  | bpmRebuild
  /-- FREE_LIST_REBUILD_DONE (R297). -/
  | freeListRebuildDone (pool : Nat)
  /-- MIN_FREE_READ (R5). -/
  | minFreeRead (pool : Nat)
  /-- CORRECTED_WORD_WRITEBACK (R299). -/
  | correctedWordWriteback
  /-- MERGE_ENTRY_WRITEBACK (R300). -/
  | mergeEntryWriteback (sram : Nat)
  /-- LANE_SWEEP_DONE (R302). -/
  | laneSweepDone (group : Nat)
  /-- UDM_GO (R307). -/
  | udmGo (c : Nat)
  /-- UDM_DESCRIPTOR (R307). -/
  | udmDescriptor (c : Nat) (norData : List Byte)
  /-- UDM_STOP (R311). -/
  | udmStop (c : Nat)
  /-- UDM_RING_BASE_WRITE (R311). -/
  | udmRingBaseWrite (c : Nat) (value : Nat)
  /-- GEN_KEY (R265). -/
  | genKey (reg : Nat)
  /-- ERASE (R265). -/
  | eraseKey (reg : Nat)
  /-- RETIRE_OLD (R265). -/
  | retireOld (reg : Nat)
  /-- EXPORT (R265). -/
  | exportKey (reg : Nat)
  /-- IMPORT (R269). -/
  | importKey (reg : Nat)
  /-- DERIVE (R271). -/
  | deriveKey (reg : Nat)
  /-- DK_CLEAR (R265). -/
  | dkClear (reg : Nat)
  /-- CHANGEOVER_INSTALL (R266). -/
  | changeoverInstall (slot : Nat)
  /-- SEAL (R272). -/
  | sealJob (job : Nat)
  /-- OPEN (R273). -/
  | openJob (job : Nat)
  /-- ENTROPY_HEALTH_FAIL (R275). -/
  | entropyHealthFail (test : Nat)
  /-- ENTROPY_RECOVERY (R275). -/
  | entropyRecovery
  /-- DRBG_RESEED (R274). -/
  | drbgReseed
  /-- COMPRESS_JOB (R288). -/
  | compressJob (slot : Nat)
  /-- DECOMPRESS_JOB (R288). -/
  | decompressJob (slot : Nat)
  /-- CPR_JOB_START (R288). -/
  | cprJobStart (engine : Nat)
  /-- CPR_JOB_END (R289). -/
  | cprJobEnd (engine : Nat) (verifyOk : Bool)
  /-- LOADABLE_TABLE_VALID (R291). -/
  | loadableTableValid (t : Nat)
  /-- MESSAGE_WRITE (R326). -/
  | messageWrite (master : Nat) (c : Nat) (word : Nat)
  /-- MESSAGE_ACK (R327). -/
  | messageAck (master : Nat) (c : Nat) (rcode : Nat)
  /-- MAILBOX_TIMEOUT (R328). -/
  | mailboxTimeout (c : Nat)
  /-- WATCHDOG_WARN (R321). -/
  | watchdogWarn (core : Nat)
  /-- WATCHDOG_EXPIRY (R321). -/
  | watchdogExpiry (core : Nat)
  /-- KICK (R321). -/
  | kick (core : Nat)
  /-- CORE_FAULT (R321). -/
  | coreFault (core : Nat) (cause : Nat) (addr : Nat)
  /-- CORE_IMAGE_LOADED (R321). -/
  | coreImageLoaded (core : Nat)
  /-- CORE_RESTART (R321). -/
  | coreRestart (core : Nat)
  /-- CORE_RETIRE (R323). -/
  | coreRetire (core : Nat)
  /-- CORE_HOLD_CLEAR (R334). -/
  | coreHoldClear (core : Nat)
  /-- POWER_SAMPLE (R382). -/
  | powerSample (mw : Nat)
  /-- SENSOR_FRAME (R384). -/
  | sensorFrame (readings : List Nat)
  /-- ANALOG_THERMAL_TRIP (R388). -/
  | analogThermalTrip
  /-- PFAIL_ASSERT (R389). -/
  | pfailAssert
  /-- FLUSH_MARK (R391). -/
  | flushMark
  /-- FLUSH_DONE (R391). -/
  | flushDone
  /-- FLUSH_LIMIT (R391). -/
  | flushLimit
  /-- SMBUS_PACKET (R396). -/
  | smbusPacket (bytes : List Byte)
  /-- VDM_MESSAGE (R396). -/
  | vdmMessage (p : VdmPacket)
  /-- NVME_MI_MESSAGE (R398). -/
  | nvmeMiMessage (port : Nat)
  /-- SET_ENDPOINT_ID (R396). -/
  | setEndpointId (port : Nat)
  /-- GET_ENDPOINT_ID (R399). -/
  | getEndpointId (port : Nat)
  /-- GET_MCTP_VERSION_SUPPORT (R399). -/
  | getMctpVersionSupport (port : Nat)
  /-- GET_MESSAGE_TYPE_SUPPORT (R399). -/
  | getMessageTypeSupport (port : Nat)
  /-- READ_NVME_MI_DATA_STRUCTURE (R401). -/
  | readNvmeMiDataStructure (slot : Nat)
  /-- NVM_SUBSYSTEM_HEALTH_STATUS_POLL (R401). -/
  | nvmSubsystemHealthStatusPoll (slot : Nat)
  /-- CONTROLLER_HEALTH_STATUS_POLL (R401). -/
  | controllerHealthStatusPoll (slot : Nat)
  /-- CONFIGURATION_GET (R401). -/
  | configurationGet (slot : Nat)
  /-- CONFIGURATION_SET (R403). -/
  | configurationSet (slot : Nat)
  /-- VPD_READ (R401). -/
  | vpdRead (slot : Nat)
  /-- VPD_WRITE (R401). -/
  | vpdWrite (slot : Nat)
  /-- NVME_MI_RESET (R401). -/
  | nvmeMiReset (slot : Nat)
  /-- TUNNELLED_ADMIN_COMMAND (R402). -/
  | tunnelledAdminCommand (slot : Nat)
  /-- BASIC_MANAGEMENT_READ (R400). -/
  | basicManagementRead (start : Nat)
  /-- ALERT_RESPONSE_ADDRESS_READ (R404). -/
  | alertResponseAddressRead (won : Bool)
  /-- SMBUS_CLOCK_LOW_TIMEOUT (R397). -/
  | smbusClockLowTimeout
  /-- SMB_SWAP_DETECT (R405). -/
  | smbSwapDetect
  /-- SMB_SWAP_RESUME (R405). -/
  | smbSwapResume
  /-- FW_READY_WRITE (R399). -/
  | fwReadyWrite (value : Bool)
  /-- FLT_EVENT (R412). -/
  | fltEvent (elem : Nat) (code : Nat) (data : Nat)
  /-- FLT_CLEAR (R415). -/
  | fltClear (elem : Nat)
  /-- FLT_APPEND (R418). -/
  | fltAppend (cause : Nat) (elem : Nat)
  /-- PWR_ELEM_TEMP_MAX_READ (R5). -/
  | pwrElemTempMaxRead (k : Nat)
  /-- TCK_RISING_EDGE (R448). -/
  | tckRisingEdge (tms : Bool) (tdi : Bool) (pins : List Bool)
  /-- TRST_N_ASSERT (R448). -/
  | trstNAssert
  /-- MALFORMED_TLP (R211). -/
  | malformedTlp (link : Nat) (err : Nat) (header : Nat)
  deriving DecidableEq, Repr

end Sys2Proof
end

