-- ==== Sys2Proof/Config.lean ====
section
/-! DEFINITION. What the spec leaves to randomness or to a function that it names without giving: constants with no
body, of which no proof can know a value. -/

namespace Sys2Proof.Config

/-- The number of the capability Physical Layer 128.0 GT/s, which the base specification assigns (R195, log entry 16). -/
opaque capId128 : Nat

/-- A free value: one number for each draw. Every value that the spec leaves open after an operation that goes on is
drawn here with the counter `State.freeCount`. -/
opaque freeValue : Nat → Nat

/-- A free byte: draw, place. DRBG output (R274) and contents that the spec calls undefined. -/
opaque freeByte : Nat → Nat → Byte

/-- A free byte string: draw, length. -/
def freeBytes (draw n : Nat) : List Byte := (List.range n).map (freeByte draw)

/-- The 448 bytes of LDPC parity over a codeword's bytes 0 to 4,159, whose code the spec does not give (R93). -/
opaque ldpcParity : List Byte → List Byte

/-- AES-256-XTS encryption of one data unit (R261, R262): key pair, tweak, plaintext. -/
opaque xtsEnc : List Byte → Nat → List Byte → List Byte

/-- AES-256-XTS decryption of one data unit (R261, R262). -/
opaque xtsDec : List Byte → Nat → List Byte → List Byte

/-- AES-256-GCM encryption (R272): key, nonce, additional data, plaintext; answers the ciphertext. -/
opaque gcmEnc : List Byte → List Byte → List Byte → List Byte → List Byte

/-- AES-256-GCM decryption (R273): key, nonce, additional data, ciphertext; answers the plaintext. -/
opaque gcmDec : List Byte → List Byte → List Byte → List Byte → List Byte

/-- AES-256-GCM tag (R272): key, nonce, additional data, ciphertext. -/
opaque gcmTag : List Byte → List Byte → List Byte → List Byte → List Byte

/-- AES-256 key wrap with padding (R269): wrapping key, plaintext. -/
opaque kwpWrap : List Byte → List Byte → List Byte

/-- AES-256 key unwrap (R269): none when the integrity check fails. -/
opaque kwpUnwrap : List Byte → List Byte → Option (List Byte)

/-- Key derivation of R271: root key, unit ID and label material. -/
opaque deriveKey : List Byte → List Byte → List Byte

/-- The 256-bit root key of the part's OTP, which nothing reads (R270). -/
opaque rootKey : List Byte

/-- SHA-384 of a byte string (R341, R358). -/
opaque sha384 : List Byte → List Byte

/-- The map format version in journal pages and checkpoint manifests, which the spec does not give (Table 2.5). -/
opaque mapVersion : Nat

/-- Whether an ECDSA P-384 signature over a SHA-384 digest verifies (R342): public key, digest, signature. -/
opaque ecdsaVerify : List Byte → List Byte → List Byte → Bool

/-- The OTP contents that the manufacturer writes and the spec does not give (Table 15.7): the unit ID as two 64-bit words,
and the six 64-bit words of each key hash. -/
opaque unitIdWord : Nat → Nat
opaque keyHashWord : Nat → Nat → Nat

/-- What a payload of TCG Opal makes of the authorities' credentials, and of the DataStore table (R276). -/
opaque opalPins : List Byte → List Byte → List Byte
opaque opalStore : List Byte → List Byte → List Byte

/-- Misses of the pipes' key caches among the data units of one operation, from the units encrypted and decrypted before (R263). -/
opaque keyMisses : Nat → Nat → Nat

/-- The 78 lengths of a dynamic table that the encoder builds from residue symbols (R283, R285). -/
opaque dynamicTable : List Nat → List Nat


/-- The effect bits of a standard command in the Commands Supported and Effects log, which the base specification leaves to
the controller: 0 admin or 1 I/O, opcode. -/
opaque commandEffects : Nat → Nat → Nat


end Sys2Proof.Config
end

