-- ==== Sys2Proof/Machine/RegFile.lean ====
section
/-! DEFINITION. How a register and its fields are described (R3, R7). A register's fields are the unit of
state: the register file of `State` holds one number for each field that differs from its reset value. -/

namespace Sys2Proof.Machine

/-- What a bus write does to a field (Table 0.3), and the cases in which the field has a row of its own in the
opcode table, so that the bus write leaves it to that row. -/
inductive Acc where
  /-- RO: a write is ignored. -/
  | ro
  /-- RW: a write sets the field. -/
  | rw
  /-- RWL: a write sets the field while the block's LOCK is 0. -/
  | rwl
  /-- W1C: a 1 clears the bit. -/
  | w1c
  /-- W1S: a 1 sets the bit. -/
  | w1s
  /-- RC: a write is ignored; its read has a row of its own. -/
  | rc
  /-- The field's write has a row of its own in the opcode table. -/
  | own
  /-- RW, but setting the bit is a row of its own; a 0 clears it here. -/
  | rowSet
  /-- As `rowSet`, and locked by LOCK. -/
  | rowSetL
  /-- RW, but clearing the bit is a row of its own; a 1 sets it here. -/
  | rowClr
  /-- A coefficient of a TRK bank: written under R123. -/
  | bank
  /-- A word of a loadable table: written under R291. -/
  | ltab
  deriving DecidableEq, Repr

/-- The values that a field accepts (R7). -/
inductive Chk where
  /-- Every value of the field's width. -/
  | any
  /-- From `lo` to `hi`. -/
  | range (lo hi : Nat)
  /-- A check that depends on other fields or on a multiple (`specialOk` in Ops). -/
  | special
  deriving DecidableEq, Repr

/-- One field: its identity (the address of the register's first copy times 256, plus its low bit), its width, its
reset value, and the reset values by first index where the copies differ. -/
structure Fld where
  id : Nat
  width : Nat
  reset : Nat
  resets : List Nat
  deriving DecidableEq, Repr

/-- A field within its register: low bit, access, accepted values. -/
structure Col where
  lo : Nat
  acc : Acc
  chk : Chk
  fld : Fld
  deriving DecidableEq, Repr

/-- A register or an array of registers with up to two indices: address of the first, width in bytes, the stride and
count of each index, the LOCK field of its block, and its fields. -/
structure Reg where
  name : String
  addr : Nat
  bytes : Nat
  stride1 : Nat
  count1 : Nat
  stride2 : Nat
  count2 : Nat
  lock : Option Fld
  cols : List Col
  deriving DecidableEq, Repr

/-- The reset value of copy `i` of a field. -/
def fldReset (f : Fld) (i : Nat) : Nat := f.resets.getD i f.reset

end Sys2Proof.Machine
end

