-- ==== Sys2Proof/Machine/Reach.lean ====
section
/-! DEFINITION. What the commands of each family reach: the register windows and the pieces of the state that their effects lie
in. A command leaves everything beyond its reach as it was (`confine`); the families follow the chapters of the spec, and each
reach holds all that the meanings of the family write (log entry 34). -/

namespace Sys2Proof.Machine

/-- A piece of the state beside the register file, the timer clock and the queue. -/
inductive Part where
  | phase | mem | out | bus | free | mbx | flt | map | fch | cdc | trk | hbm | bur | hif | cmd | nvm | bpm | udm | cry | sys
  | media | cpr | fw | pwr | oob | tap | latch
  deriving DecidableEq, Repr

/-- Block windows (R316: 0 SYS, 1 HIF, ..., 15 FLT), 16 for the registers of the host's side; and pieces of the state. -/
structure Reach where
  wins : List Nat
  parts : List Part
  deriving DecidableEq, Repr

/-- The window of a register field, from its identity. -/
def windowOf (id : Nat) : Nat := min 16 ((id / 256 - 0x00F000000000) / 0x01000000)

/-- Whether a piece of the state lies in a reach. -/
def Reach.has (r : Reach) (p : Part) : Bool := r.parts.contains p

/-- Whether a register field lies in a reach. -/
def Reach.reg (r : Reach) (id : Nat) : Bool := r.wins.contains (windowOf id)

namespace Reach

/-- A bus write, and the descriptor that may make one: every window, every part but the run state and the TAP. -/
def registers : Reach :=
  ⟨List.range 17,
   [.phase, .mem, .out, .bus, .free, .mbx, .flt, .map, .fch, .cdc, .trk, .hbm, .bur,
    .hif, .cmd, .nvm, .bpm, .udm, .cry, .sys, .media, .cpr, .fw, .pwr, .oob, .latch]⟩

/-- Loss of a port, a link or a function (08). -/
def clock : Reach := ⟨[1, 2, 7, 12, 13, 16], [.out, .mbx, .hbm, .hif, .cmd, .nvm, .oob]⟩

/-- OTP programming (15). -/
def oneTime : Reach := ⟨[0], [.free, .sys]⟩

/-- SPI NOR (15). -/
def nor : Reach := ⟨[0], [.out]⟩

/-- The NOR window (15). -/
def norWindow : Reach := ⟨[0, 2, 7, 12, 14, 15, 16], [.out, .bus, .mbx, .flt, .hbm, .hif, .cmd, .nvm, .oob]⟩

/-- Training, retrains, suspends (03). -/
def training : Reach := ⟨[0, 4], [.out, .fch]⟩

/-- Settings of ports and functions (08). -/
def ports : Reach := ⟨[1, 16], [.out]⟩

/-- Pins of the ports (08). -/
def pins : Reach := ⟨[1], [.out, .free, .hif]⟩

/-- Deferred host transactions run on (08). -/
def masterEnable : Reach :=
  ⟨[1, 2, 3, 7, 14, 15, 16],
   [.mem, .out, .free, .flt, .map, .hbm, .bur, .hif, .cmd, .nvm, .udm, .fw, .oob]⟩

/-- A completion that does not come (08). -/
def completion : Reach := ⟨[1, 2, 7, 16], [.out, .free, .hbm, .hif, .cmd, .nvm]⟩

/-- The end of a function reset (08). -/
def functionDone : Reach := ⟨[1, 13, 16], [.out, .hif, .cmd, .nvm]⟩

/-- Enabling and resetting a controller (10). -/
def controller : Reach := ⟨[2, 7, 10, 13, 14, 16], [.mem, .out, .free, .hbm, .hif, .cmd, .nvm, .udm, .cry, .sys, .fw, .oob]⟩

/-- Shutdowns (10). -/
def shutdown : Reach :=
  ⟨[2, 3, 4, 5, 7, 8, 10, 13, 14, 15, 16],
   [.mem, .out, .free, .flt, .map, .fch, .cdc, .hbm, .bur, .hif, .cmd, .nvm, .bpm, .udm, .cry, .sys, .media, .oob]⟩

/-- Doorbells (09). -/
def doorbells : Reach := ⟨[2, 13, 16], [.out, .free, .hif, .cmd, .nvm]⟩

/-- Fetch requests (09). -/
def fetch : Reach := ⟨[1, 2], [.out, .hif, .cmd]⟩

/-- Fetched entries (09). -/
def entries : Reach := ⟨[1, 2, 3, 7, 14, 15, 16], [.mem, .out, .flt, .map, .hbm, .hif, .cmd, .nvm, .udm, .fw, .oob]⟩

/-- Lock grants (09). -/
def locks : Reach := ⟨[2], [.mem, .hbm, .cmd, .udm]⟩

/-- Commits (09). -/
def commit : Reach := ⟨[2, 7, 8], [.out, .hbm, .cmd, .nvm, .media]⟩

/-- Completion posting (09). -/
def post : Reach := ⟨[2, 16], [.out, .hif, .cmd, .nvm]⟩

/-- The firmware ring and slots (09). -/
def firmwareRing : Reach := ⟨[2, 16], [.cmd, .nvm]⟩

/-- The end of a pause (09, 16). -/
def resume : Reach :=
  ⟨[2, 7, 8, 12, 14, 15, 16],
   [.mem, .out, .free, .mbx, .flt, .hbm, .hif, .cmd, .nvm, .udm, .sys, .fw, .oob]⟩

/-- Commands that reach the media (09). -/
def io : Reach :=
  ⟨[1, 2, 3, 4, 5, 7, 8, 10, 14, 15, 16],
   [.mem, .out, .flt, .map, .fch, .cdc, .hbm, .bur, .hif, .cmd, .nvm, .bpm, .udm, .cry, .media, .oob]⟩

/-- Merges and unpins (07, 09). -/
def merge : Reach := ⟨[2, 3, 7, 14, 15, 16], [.mem, .out, .flt, .map, .hbm, .bur, .hif, .cmd, .nvm, .udm, .media, .oob]⟩

/-- Staging (07). -/
def staging : Reach := ⟨[7], [.hbm]⟩

/-- Flush and Fence (09). -/
def flush : Reach := ⟨[2, 3, 7, 14, 15, 16], [.out, .flt, .map, .hbm, .hif, .cmd, .nvm, .oob]⟩

/-- Placement directives (06). -/
def placement : Reach := ⟨[2], [.out, .cmd, .nvm, .media]⟩

/-- Compression for a host (12). -/
def hostCompress : Reach := ⟨[2, 8, 11, 15], [.mem, .out, .free, .flt, .hbm, .cmd, .nvm, .bpm, .udm, .cpr]⟩

/-- Admin commands (10). -/
def admin : Reach := ⟨[2], [.out, .free, .hif, .cmd, .nvm]⟩

/-- Power features (10). -/
def powerFeature : Reach := ⟨[2, 13], [.cmd, .nvm]⟩

/-- Temperature thresholds (10). -/
def tempFeature : Reach := ⟨[2, 13, 14], [.out, .cmd, .nvm, .pwr, .oob]⟩

/-- Commands given up (09, 10). -/
def abort : Reach := ⟨[2, 7], [.mem, .hbm, .hif, .cmd, .nvm, .udm]⟩

/-- Namespaces (10). -/
def namespaces : Reach :=
  ⟨[2, 3, 7, 8, 10, 14, 15, 16],
   [.mem, .out, .free, .flt, .map, .hbm, .bur, .hif, .cmd, .nvm, .udm, .cry, .sys, .media, .oob]⟩

/-- Firmware images (16). -/
def image : Reach := ⟨[0, 2, 16], [.mem, .out, .free, .hbm, .cmd, .nvm, .udm, .sys, .fw]⟩

/-- Security, directives, service dump (10, 16). -/
def security : Reach := ⟨[2], [.out, .free, .cmd, .nvm, .cry, .fw]⟩

/-- NVMe-MI in band (18). -/
def manage : Reach := ⟨[2], [.out, .cmd, .nvm, .oob]⟩

/-- Format (10). -/
def format : Reach :=
  ⟨[2, 3, 4, 5, 7, 8, 10, 14, 15, 16],
   [.mem, .out, .free, .flt, .map, .fch, .cdc, .hbm, .bur, .hif, .cmd, .nvm, .bpm, .udm, .cry, .sys, .media, .fw, .oob]⟩

/-- Opal (11). -/
def opal : Reach :=
  ⟨[2, 3, 7, 8, 10, 14, 15, 16],
   [.mem, .out, .free, .flt, .map, .hbm, .bur, .hif, .cmd, .nvm, .udm, .cry, .sys, .media, .oob]⟩

/-- Sanitize (10). -/
def sanitize : Reach :=
  ⟨[2, 3, 4, 5, 7, 8, 10, 14, 15, 16],
   [.mem, .out, .free, .flt, .map, .fch, .cdc, .hbm, .bur, .hif, .cmd, .nvm, .udm, .cry, .sys, .media, .fw, .oob]⟩

/-- The state of a sanitize (10). -/
def sanitizeState : Reach := ⟨[], [.fw]⟩

/-- Requalification of a die (06). -/
def requalifyDie : Reach :=
  ⟨[2, 3, 4, 5, 6, 7, 8, 10, 14, 15, 16],
   [.mem, .out, .free, .flt, .map, .fch, .cdc, .trk, .hbm, .bur,
    .hif, .cmd, .nvm, .bpm, .udm, .cry, .sys, .media, .fw, .pwr, .oob]⟩

/-- Health (06, 10). -/
def health : Reach := ⟨[14], [.out, .nvm, .media, .oob]⟩

/-- The walker (02). -/
def mapEnable : Reach := ⟨[3, 7, 8, 15], [.mem, .free, .flt, .map, .hbm, .bpm, .udm, .media]⟩

/-- Map command slots (02). -/
def mapSlots : Reach :=
  ⟨[2, 3, 7, 8, 14, 15, 16],
   [.mem, .out, .free, .flt, .map, .hbm, .hif, .cmd, .nvm, .udm, .sys, .media, .oob]⟩

/-- Retired rows (02). -/
def rowRetire : Reach := ⟨[2, 3, 7, 14, 15, 16], [.mem, .out, .flt, .map, .hbm, .bur, .hif, .cmd, .nvm, .udm, .media, .oob]⟩

/-- The journal (02). -/
def journal : Reach :=
  ⟨[2, 3, 7, 8, 14, 15, 16],
   [.mem, .out, .bus, .free, .flt, .map, .hbm, .bur, .hif, .cmd, .nvm, .udm, .sys, .media, .oob]⟩

/-- Replay (02). -/
def replay : Reach :=
  ⟨[2, 3, 4, 7, 8, 14, 15, 16],
   [.mem, .out, .free, .flt, .map, .fch, .hbm, .hif, .cmd, .nvm, .udm, .sys, .media, .oob]⟩

/-- Journal pages (02). -/
def pageDone : Reach :=
  ⟨[2, 3, 4, 5, 6, 7, 8, 10, 13, 14, 15, 16],
   [.mem, .out, .free, .flt, .map, .fch, .cdc, .trk, .hbm, .bur,
    .hif, .cmd, .nvm, .bpm, .udm, .cry, .sys, .media, .fw, .pwr, .oob]⟩

/-- Channels and rings (03). -/
def channels : Reach := ⟨[4, 7, 8, 15], [.mem, .out, .flt, .fch, .hbm, .udm, .media]⟩

/-- Media events (03, 04). -/
def media : Reach :=
  ⟨[2, 3, 4, 5, 6, 7, 8, 10, 14, 15, 16],
   [.mem, .out, .free, .flt, .map, .fch, .cdc, .trk, .hbm, .bur,
    .hif, .cmd, .nvm, .bpm, .udm, .cry, .sys, .media, .fw, .pwr, .oob]⟩

/-- Dies (03). -/
def dies : Reach := ⟨[4, 6, 7, 8, 15], [.mem, .out, .flt, .fch, .trk, .hbm, .udm, .media]⟩

/-- Codec and copies (04). -/
def codec : Reach :=
  ⟨[2, 3, 4, 5, 7, 8, 10, 14, 15, 16],
   [.mem, .out, .free, .flt, .map, .fch, .cdc, .hbm, .bur, .hif, .cmd, .nvm, .bpm, .udm, .cry, .sys, .media, .fw, .oob]⟩

/-- Read-around (04). -/
def readAround : Reach := ⟨[5], [.fch, .cdc]⟩

/-- Rebuilds (04). -/
def rebuild : Reach := ⟨[4, 5], [.mem, .fch, .cdc, .hbm, .udm, .media]⟩

/-- Tracking (05). -/
def tracking : Reach := ⟨[4, 6, 7, 8], [.mem, .free, .trk, .hbm, .bpm, .udm]⟩

/-- Tracking slots (05). -/
def trackSlots : Reach := ⟨[6, 7], [.mem, .free, .trk, .hbm, .udm]⟩

/-- Background work of device firmware (06). -/
def background : Reach :=
  ⟨[2, 3, 4, 5, 7, 8, 10, 14, 15, 16],
   [.mem, .out, .free, .flt, .map, .fch, .cdc, .hbm, .bur, .hif, .cmd, .nvm, .bpm, .udm, .cry, .sys, .media, .fw, .oob]⟩

/-- The holdup measurement (17). -/
def holdup : Reach := ⟨[7, 13, 14], [.out, .nvm, .media, .oob]⟩

/-- A failed pseudo-channel (07). -/
def pcTimeout : Reach :=
  ⟨[2, 3, 4, 5, 7, 8, 10, 14, 15, 16],
   [.mem, .out, .flt, .map, .fch, .cdc, .hbm, .bur, .hif, .cmd, .nvm, .bpm, .udm, .cry, .media, .oob]⟩

/-- The Burrow (07). -/
def burrow : Reach := ⟨[7, 8], [.mem, .free, .hbm, .bur, .bpm, .udm]⟩

/-- Burrow reads (07). -/
def burrowReads : Reach :=
  ⟨[2, 3, 4, 5, 7, 8, 10, 15],
   [.mem, .flt, .map, .fch, .cdc, .hbm, .bur, .cmd, .bpm, .udm, .cry, .media]⟩

/-- Buffers (13). -/
def buffers : Reach := ⟨[7, 8], [.mem, .bus, .free, .hbm, .bpm, .udm]⟩

/-- UDM channels (13). -/
def dma : Reach := ⟨[9], [.udm]⟩

/-- Keys and entropy (11). -/
def keys : Reach := ⟨[7, 8, 10], [.mem, .free, .hbm, .udm, .cry, .sys]⟩

/-- Sealing jobs (11). -/
def sealing : Reach := ⟨[7, 8, 10], [.mem, .free, .hbm, .bpm, .udm]⟩

/-- Entropy failure (11). -/
def entropy : Reach := ⟨[10, 15], [.flt, .nvm, .cry]⟩

/-- Compression jobs (12). -/
def compression : Reach := ⟨[8, 11], [.mem, .free, .hbm, .bpm, .udm, .cpr]⟩

/-- The end of a job (12). -/
def compressionEnd : Reach := ⟨[7, 8, 11, 15], [.mem, .free, .flt, .hbm, .nvm, .bpm, .udm, .cpr]⟩

/-- Mailboxes and cores (14). -/
def mailbox : Reach := ⟨[7, 8, 12, 15, 16], [.mem, .out, .mbx, .flt, .hbm, .udm]⟩

/-- Core faults (14). -/
def coreFault : Reach := ⟨[2, 7, 12, 14, 15, 16], [.out, .mbx, .flt, .hbm, .hif, .cmd, .nvm, .oob]⟩

/-- Out-of-band management (18). -/
def oob : Reach := ⟨[2, 14], [.out, .free, .cmd, .oob]⟩

/-- Tunnelled commands (18). -/
def tunnel : Reach := ⟨[2, 14], [.mem, .out, .hbm, .cmd, .nvm, .udm, .fw, .oob]⟩

/-- Fault events (19). -/
def fltEvent : Reach :=
  ⟨[2, 3, 4, 5, 6, 7, 8, 10, 11, 12, 14, 15, 16],
   [.mem, .out, .free, .mbx, .flt, .map, .fch, .cdc, .trk, .hbm, .bur,
    .hif, .cmd, .nvm, .bpm, .udm, .cry, .sys, .media, .cpr, .pwr, .oob]⟩

/-- Fault monitor writes (19). -/
def fltClear : Reach := ⟨[15], [.flt]⟩

/-- Temperature maxima (17). -/
def elemMax : Reach := ⟨[13], [.bus]⟩

/-- The power of a frame (17). -/
def govern : Reach := ⟨[4, 13], [.pwr]⟩

/-- The analog trip (17). -/
def trip : Reach := ⟨[], [.out, .pwr]⟩

/-- The start of a power-fail flush (17). -/
def flushStart : Reach :=
  ⟨[0, 2, 3, 4, 5, 7, 8, 10, 13, 14, 15, 16],
   [.mem, .out, .free, .flt, .map, .fch, .cdc, .hbm, .bur, .hif, .cmd, .nvm, .bpm, .udm, .cry, .media, .fw, .pwr, .oob]⟩

/-- A start, a hold, the loss of a rail, and what may end in one: all but the TAP (15, 17, 19). -/
def reset : Reach :=
  ⟨List.range 17,
   [.phase, .mem, .out, .bus, .free, .mbx, .flt, .map, .fch, .cdc, .trk, .hbm, .bur,
    .hif, .cmd, .nvm, .bpm, .udm, .cry, .sys, .media, .cpr, .fw, .pwr, .oob, .latch]⟩

/-- The TAP (21). -/
def tap : Reach := ⟨[], [.out, .free, .tap]⟩

end Reach

end Sys2Proof.Machine
end

