-- ==== Sys2Proof/Machine/RegTabA.lean ====
section
/-! DEFINITION. The register tables of SYS (R357), HIF (R212), CMD (R239, R240) and MBX (R334), transcribed from the
field tables of the spec: one `Fld` for every field that is not reserved, one `Reg` for every register. -/

namespace Sys2Proof.Machine

/-! Block SYS: the fields of its register tables. -/

def SYS_CTRL_LOCK : Fld := ⟨0xf00000000000, 1, 0, []⟩
def SYS_CTRL_SETT_ONLY : Fld := ⟨0xf00000000001, 1, 1, []⟩
def SYS_STATUS_CLK_LOSS : Fld := ⟨0xf00000000400, 1, 0, []⟩
def SYS_STATUS_SPI_BUSY_FAULT : Fld := ⟨0xf00000000401, 1, 0, []⟩
def SYS_STATUS_SPI_PROTECTED : Fld := ⟨0xf00000000402, 1, 0, []⟩
def SYS_STATUS_OTP_FAIL : Fld := ⟨0xf00000000403, 1, 0, []⟩
def SYS_STATUS_SPI_DONE : Fld := ⟨0xf00000000404, 1, 0, []⟩
def SYS_STATUS_OTP_DONE : Fld := ⟨0xf00000000405, 1, 0, []⟩
def SYS_INT_EN_EN : Fld := ⟨0xf00000000800, 6, 0, []⟩
def SYS_BOOT_STAGE : Fld := ⟨0xf00000001000, 4, 0, []⟩
def SYS_BOOT_ERR : Fld := ⟨0xf00000001004, 4, 0, []⟩
def SYS_BOOT_COPY : Fld := ⟨0xf00000001008, 1, 0, []⟩
def SYS_BOOT_COPY_FALLBACK : Fld := ⟨0xf00000001009, 1, 0, []⟩
def SYS_BOOT_SLOT : Fld := ⟨0xf0000000100a, 2, 0, []⟩
def SYS_BOOT_SLOT_FALLBACK : Fld := ⟨0xf0000000100c, 1, 0, []⟩
def SYS_BOOT_RECOVERY_PKG : Fld := ⟨0xf0000000100d, 1, 0, []⟩
def SYS_BOOT_REGRESSED : Fld := ⟨0xf0000000100e, 1, 0, []⟩
def SYS_BOOT_SETT_DEGRADED : Fld := ⟨0xf0000000100f, 1, 0, []⟩
def SYS_BOOT_BOOT_MS : Fld := ⟨0xf00000001010, 16, 0, []⟩
def SYS_PROT_LEVEL : Fld := ⟨0xf00000001400, 2, 0, []⟩
def SYS_PROT_IMAGE_LEVEL : Fld := ⟨0xf00000001402, 2, 0, []⟩
def SYS_PROT_FUSE_L2 : Fld := ⟨0xf00000001404, 1, 0, []⟩
def SYS_STRAP_SMBA : Fld := ⟨0xf00000001800, 3, 0, []⟩
def SYS_STRAP_SPI_HIZ : Fld := ⟨0xf00000001803, 1, 0, []⟩
def SYS_OTP_STATE_SECVER : Fld := ⟨0xf00000004000, 9, 0, []⟩
def SYS_OTP_STATE_KEYUSE : Fld := ⟨0xf00000004010, 16, 0, []⟩
def SYS_OTP_CMD_OP : Fld := ⟨0xf00000005000, 4, 0, []⟩
def SYS_OTP_CMD_GO : Fld := ⟨0xf00000005004, 1, 0, []⟩
def SYS_OTP_CMD_RESULT : Fld := ⟨0xf00000005008, 4, 0, []⟩
def SYS_OTP_CMD_DONE : Fld := ⟨0xf0000000500c, 1, 0, []⟩
def SYS_SPI_CFG_RWW : Fld := ⟨0xf00000008000, 1, 0, []⟩
def SYS_SPI_CFG_CLK_DIV : Fld := ⟨0xf00000008001, 3, 0, []⟩
def SYS_SPI_CFG_ADDR4 : Fld := ⟨0xf00000008004, 1, 0, []⟩
def SYS_SPI_CFG_DENSITY : Fld := ⟨0xf00000008005, 8, 0, []⟩
def SYS_SPI_WIN_BASE : Fld := ⟨0xf00000008800, 8, 0, []⟩
def SYS_SPI_CMD_OPCODE : Fld := ⟨0xf00000009000, 8, 0, []⟩
def SYS_SPI_CMD_ADDR_EN : Fld := ⟨0xf00000009008, 1, 0, []⟩
def SYS_SPI_CMD_PROG : Fld := ⟨0xf00000009009, 1, 0, []⟩
def SYS_SPI_CMD_LEN : Fld := ⟨0xf0000000900a, 9, 0, []⟩
def SYS_SPI_CMD_DIR : Fld := ⟨0xf00000009013, 1, 0, []⟩
def SYS_SPI_CMD_GO : Fld := ⟨0xf00000009014, 1, 0, []⟩
def SYS_SPI_CMD_RESULT : Fld := ⟨0xf00000009018, 4, 0, []⟩
def SYS_SPI_CMD_DONE : Fld := ⟨0xf0000000901c, 1, 0, []⟩
def SYS_SPI_STAT_BUSY0 : Fld := ⟨0xf00000009800, 1, 0, []⟩
def SYS_SPI_STAT_BUSY1 : Fld := ⟨0xf00000009801, 1, 0, []⟩
def SYS_SPI_STAT_BOOT_BANK : Fld := ⟨0xf00000009802, 1, 0, []⟩
def SYS_SETT_CHi_MASK : Fld := ⟨0xf00000020000, 64, 0, []⟩
def SYS_UNIT_ID_V : Fld := ⟨0xf00000002000, 64, 0, []⟩
def SYS_HWTYPE_V : Fld := ⟨0xf00000003000, 32, 0, []⟩
def SYS_IMG_SEQ_V : Fld := ⟨0xf00000003800, 64, 0, []⟩
def SYS_KEYHASHk_V : Fld := ⟨0xf00000040000, 64, 0, []⟩
def SYS_OTP_ARG_V : Fld := ⟨0xf00000005800, 64, 0, []⟩
def SYS_SPI_ADDR_V : Fld := ⟨0xf00000009400, 32, 0, []⟩
def SYS_SPI_DATA_V : Fld := ⟨0xf00000010000, 64, 0, []⟩

/-! Block HIF: the fields of its register tables. -/

def HIF_CTRL_ENABLE : Fld := ⟨0xf00100000000, 1, 0, []⟩
def HIF_CTRL_LOCK : Fld := ⟨0xf00100000001, 1, 0, []⟩
def HIF_STATUS_CFG_ERR : Fld := ⟨0xf00100000400, 1, 0, []⟩
def HIF_STATUS_LINK_DOWN : Fld := ⟨0xf00100000401, 1, 0, []⟩
def HIF_STATUS_CTO : Fld := ⟨0xf00100000402, 1, 0, []⟩
def HIF_STATUS_UNEXP_CPL : Fld := ⟨0xf00100000403, 1, 0, []⟩
def HIF_STATUS_FLR : Fld := ⟨0xf00100000404, 1, 0, []⟩
def HIF_STATUS_POISON : Fld := ⟨0xf00100000405, 1, 0, []⟩
def HIF_STATUS_TAG_LOW : Fld := ⟨0xf00100000406, 1, 0, []⟩
def HIF_STATUS_SLOW_LINK : Fld := ⟨0xf00100000407, 1, 0, []⟩
def HIF_INT_EN_EN : Fld := ⟨0xf00100000800, 8, 0, []⟩
def HIF_PORTp_CFG_ENABLE : Fld := ⟨0xf00100010000, 1, 0, []⟩
def HIF_PORTp_CFG_BIFURCATE : Fld := ⟨0xf00100010001, 1, 0, []⟩
def HIF_PORTp_CFG_SRIS : Fld := ⟨0xf00100010002, 1, 0, []⟩
def HIF_PORTp_CFG_RATE_LIMIT : Fld := ⟨0xf00100010003, 3, 6, []⟩
def HIF_PORTp_CFG_FLIT_EN : Fld := ⟨0xf00100010006, 1, 1, []⟩
def HIF_LINKl_CFG_TOTAL_VFS : Fld := ⟨0xf00100020000, 7, 63, []⟩
def HIF_LINKl_CFG_MSIX_PF : Fld := ⟨0xf00100020008, 12, 0x800, []⟩
def HIF_LINKl_CFG_MSIX_VF : Fld := ⟨0xf00100020014, 12, 0x1e0, []⟩
def HIF_LINKl_CFG_BAR0_SIZE : Fld := ⟨0xf00100020020, 4, 10, []⟩
def HIF_LINKl_STATUS_UP : Fld := ⟨0xf00100020800, 1, 0, []⟩
def HIF_LINKl_STATUS_RATE : Fld := ⟨0xf00100020801, 3, 0, []⟩
def HIF_LINKl_STATUS_WIDTH : Fld := ⟨0xf00100020804, 5, 0, []⟩
def HIF_LINKl_STATUS_FLIT : Fld := ⟨0xf00100020809, 1, 0, []⟩
def HIF_LINKl_STATUS_REVERSED : Fld := ⟨0xf0010002080a, 1, 0, []⟩
def HIF_LINKl_STATUS_SRIS : Fld := ⟨0xf0010002080b, 1, 0, []⟩
def HIF_LINKl_STATUS_POLARITY : Fld := ⟨0xf00100020810, 16, 0, []⟩
def HIF_LINKl_CNT_CTO_CNT : Fld := ⟨0xf00100021000, 16, 0, []⟩
def HIF_LINKl_CNT_UNEXP_CNT : Fld := ⟨0xf00100021010, 16, 0, []⟩
def HIF_LINKl_CNT_LINK_DOWN_CNT : Fld := ⟨0xf00100021020, 16, 0, []⟩
def HIF_LINKl_CNT_QUAR_NOW : Fld := ⟨0xf00100021030, 16, 0, []⟩
def HIF_FNf_STATE_PRESENT : Fld := ⟨0xf00100100000, 1, 0, []⟩
def HIF_FNf_STATE_MSE : Fld := ⟨0xf00100100001, 1, 0, []⟩
def HIF_FNf_STATE_BME : Fld := ⟨0xf00100100002, 1, 0, []⟩
def HIF_FNf_STATE_PAUSED : Fld := ⟨0xf00100100003, 1, 0, []⟩
def HIF_FNf_STATE_FLR_BUSY : Fld := ⟨0xf00100100004, 1, 0, []⟩
def HIF_FNf_STATE_D3HOT : Fld := ⟨0xf00100100005, 1, 0, []⟩
def HIF_FNf_STATE_OUT_READS : Fld := ⟨0xf00100100010, 14, 0, []⟩

/-! Block CMD: the fields of its register tables. -/

def CMD_CTRL_ENABLE : Fld := ⟨0xf00200000000, 1, 0, []⟩
def CMD_CTRL_LOCK : Fld := ⟨0xf00200000001, 1, 0, []⟩
def CMD_STATUS_CFG_ERR : Fld := ⟨0xf00200000400, 1, 0, []⟩
def CMD_STATUS_CTX_EMPTY : Fld := ⟨0xf00200000401, 1, 0, []⟩
def CMD_STATUS_BAD_DB : Fld := ⟨0xf00200000402, 1, 0, []⟩
def CMD_STATUS_CQ_FULL : Fld := ⟨0xf00200000403, 1, 0, []⟩
def CMD_STATUS_SQ_WAIT : Fld := ⟨0xf00200000404, 1, 0, []⟩
def CMD_STATUS_ACT_DRAINED : Fld := ⟨0xf00200000405, 1, 0, []⟩
def CMD_STATUS_FWQ_FULL : Fld := ⟨0xf00200000406, 1, 0, []⟩
def CMD_STATUS_FWQ_POSTED : Fld := ⟨0xf00200000407, 1, 0, []⟩
def CMD_STATUS_CFS : Fld := ⟨0xf00200000408, 1, 0, []⟩
def CMD_INT_EN_EN : Fld := ⟨0xf00200000800, 9, 0, []⟩
def CMD_CTX_FREE_COUNT : Fld := ⟨0xf00200001000, 19, 0x4fbf8, []⟩
def CMD_LOCK_CFG_SQ_WAIT_MAX : Fld := ⟨0xf00200001c00, 16, 0x400, []⟩
def CMD_ACT_CTL_PAUSE : Fld := ⟨0xf00200002000, 1, 0, []⟩
def CMD_ACT_CTL_RESUME : Fld := ⟨0xf00200002001, 1, 0, []⟩
def CMD_ACT_CTL_DRAINED : Fld := ⟨0xf00200002002, 1, 0, []⟩
def CMD_ACT_CTL_DRAIN_MS : Fld := ⟨0xf00200002010, 16, 0x1f4, []⟩
def CMD_FWQ_BASE_BASE : Fld := ⟨0xf0020000400c, 36, 0, []⟩
def CMD_FWQ_CFG_SIZE_LOG2 : Fld := ⟨0xf00200004800, 5, 12, []⟩
def CMD_FWQ_CFG_ENABLE : Fld := ⟨0xf00200004805, 1, 0, []⟩
def CMD_FWQ_TAIL_INDEX : Fld := ⟨0xf00200004c00, 16, 0, []⟩
def CMD_FWCPL_STS_SF : Fld := ⟨0xf00200006800, 15, 0, []⟩
def CMD_FWCPL_CTL_CTX : Fld := ⟨0xf00200006c00, 19, 0, []⟩
def CMD_FWCPL_CTL_GO : Fld := ⟨0xf00200006c13, 1, 0, []⟩
def CMD_FWCPL_CTL_RESULT : Fld := ⟨0xf00200006c14, 4, 0, []⟩
def CMD_FWCPL_CTL_DONE : Fld := ⟨0xf00200006c18, 1, 0, []⟩
def CMD_CNTn_COUNT : Fld := ⟨0xf00200010000, 64, 0, []⟩
def CMD_FNf_CFG0_QMIN : Fld := ⟨0xf00200100000, 16, 0x200, []⟩
def CMD_FNf_CFG0_QMAX : Fld := ⟨0xf00200100010, 16, 0xffff, []⟩
def CMD_FNf_CFG0_CTX_MIN : Fld := ⟨0xf00200100020, 16, 0x100, []⟩
def CMD_FNf_CFG0_WEIGHT : Fld := ⟨0xf00200100030, 8, 16, []⟩
def CMD_FNf_CFG1_CTX_MAX : Fld := ⟨0xf00200100800, 19, 0x10000, []⟩
def CMD_FNf_STATE_QALLOC : Fld := ⟨0xf00200101000, 16, 0, []⟩
def CMD_FNf_STATE_CTX_USED : Fld := ⟨0xf00200101010, 19, 0, []⟩
def CMD_FNf_STATE_LOCK_WAIT : Fld := ⟨0xf00200101023, 19, 0, []⟩
def CMD_LKn_CTL_OP : Fld := ⟨0xf00200080000, 2, 0, []⟩
def CMD_LKn_CTL_GO : Fld := ⟨0xf00200080002, 1, 0, []⟩
def CMD_LKn_CTL_CANCEL : Fld := ⟨0xf00200080003, 1, 0, []⟩
def CMD_LKn_CTL_RESULT : Fld := ⟨0xf00200080004, 4, 0, []⟩
def CMD_LKn_CTL_DONE : Fld := ⟨0xf00200080008, 1, 0, []⟩
def CMD_LKn_ARG0_CTX : Fld := ⟨0xf00200080800, 19, 0, []⟩
def CMD_LKn_ARG0_REC : Fld := ⟨0xf00200080813, 1, 0, []⟩
def CMD_LKn_ARG0_EXCL : Fld := ⟨0xf00200080814, 1, 0, []⟩
def CMD_LKn_ARG0_WHOLE : Fld := ⟨0xf00200080815, 1, 0, []⟩
def CMD_LKn_ARG0_NS : Fld := ⟨0xf00200080816, 12, 0, []⟩
def CMD_LKn_ARG0_COUNT : Fld := ⟨0xf00200080822, 10, 0, []⟩
def CMD_LKn_ARG1_FIRST : Fld := ⟨0xf00200081000, 38, 0, []⟩
def CMD_LKn_ARG2_FIRST_B : Fld := ⟨0xf00200081800, 38, 0, []⟩
def CMD_LKn_ARG2_COUNT_B : Fld := ⟨0xf00200081826, 10, 0, []⟩
def CMD_LKn_ARG2_EXCL_B : Fld := ⟨0xf00200081830, 1, 0, []⟩
def CMD_LKn_ARG2_NS_B : Fld := ⟨0xf00200081831, 12, 0, []⟩
def CMD_LKn_ARG2_VALID_B : Fld := ⟨0xf0020008183d, 1, 0, []⟩
def CMD_QPOOL_FREE_COUNT : Fld := ⟨0xf00200001400, 19, 0x40000, []⟩
def CMD_FWQ_HEAD_INDEX : Fld := ⟨0xf00200005000, 16, 0, []⟩
def CMD_FWCPL_DW0_V : Fld := ⟨0xf00200006000, 32, 0, []⟩
def CMD_FWCPL_DW1_V : Fld := ⟨0xf00200006400, 32, 0, []⟩

/-! Block MBX: the fields of its register tables. -/

def MBX_CTRL_ENABLE : Fld := ⟨0xf00c00000000, 1, 0, []⟩
def MBX_CTRL_LOCK : Fld := ⟨0xf00c00000001, 1, 0, []⟩
def MBX_STATUS_BIND_VIOL : Fld := ⟨0xf00c00000400, 1, 0, []⟩
def MBX_STATUS_TIMEOUT : Fld := ⟨0xf00c00000401, 1, 0, []⟩
def MBX_STATUS_CORE_FAULT : Fld := ⟨0xf00c00000402, 1, 0, []⟩
def MBX_STATUS_CORE_RETIRED : Fld := ⟨0xf00c00000403, 1, 0, []⟩
def MBX_STATUS_ROUTE_NONE : Fld := ⟨0xf00c00000404, 1, 0, []⟩
def MBX_INT_EN_EN : Fld := ⟨0xf00c00000800, 5, 0, []⟩
def MBX_CNTn_COUNT : Fld := ⟨0xf00c00010000, 64, 0, []⟩
def MBX_ROUTEi_CORE : Fld := ⟨0xf00c00040000, 6, 0, []⟩
def MBX_ROUTEi_EN : Fld := ⟨0xf00c00040006, 1, 0, []⟩
def MBX_COREn_CTL_HOLD : Fld := ⟨0xf00c00100000, 1, 1, []⟩
def MBX_COREn_CTL_RESTART : Fld := ⟨0xf00c00100001, 1, 0, []⟩
def MBX_COREn_CTL_STATE : Fld := ⟨0xf00c00100002, 2, 0, []⟩
def MBX_COREn_CTL_RETIRE : Fld := ⟨0xf00c00100004, 1, 0, []⟩
def MBX_COREn_IMAGE_BASE : Fld := ⟨0xf00c0010080c, 36, 0, []⟩
def MBX_COREn_WDOG_PERIOD : Fld := ⟨0xf00c00101000, 20, 0, []⟩
def MBX_COREn_WDOG_KICK : Fld := ⟨0xf00c0010101f, 1, 0, []⟩
def MBX_COREn_FAULT_ADDR : Fld := ⟨0xf00c00101800, 48, 0, []⟩
def MBX_COREn_FAULT_CAUSE : Fld := ⟨0xf00c00101830, 4, 0, []⟩
def MBX_COREn_CNT_RESTART_CNT : Fld := ⟨0xf00c00102000, 16, 0, []⟩
def MBX_COREn_PEND_PEND : Fld := ⟨0xf00c00102800, 64, 0, []⟩
def MBX_COREn_LOCAL_DB : Fld := ⟨0xf00c00103000, 1, 0, []⟩
def MBX_COREn_LOCAL_WDOG_WARN : Fld := ⟨0xf00c00103001, 1, 0, []⟩
def MBX_COREn_LOCAL_FAILOVER : Fld := ⟨0xf00c00103002, 1, 0, []⟩
def MBX_COREn_LOCAL_FROM : Fld := ⟨0xf00c00103003, 6, 0, []⟩
def MBX_DBr_DB : Fld := ⟨0xf00c00200000, 32, 0, []⟩
def MBX_BINDc_SENDER : Fld := ⟨0xf00c00400000, 10, 0, []⟩
def MBX_BINDc_RECEIVER : Fld := ⟨0xf00c0040000a, 10, 0, []⟩
def MBX_BINDc_DB_BIT : Fld := ⟨0xf00c00400014, 5, 0, []⟩
def MBX_BINDc_ACK_BIT : Fld := ⟨0xf00c00400019, 5, 0, []⟩
def MBX_BINDc_ACK_DB_EN : Fld := ⟨0xf00c0040001e, 1, 0, []⟩
def MBX_BINDc_VALID : Fld := ⟨0xf00c0040001f, 1, 0, []⟩
def MBX_BINDc_TMO : Fld := ⟨0xf00c00400020, 16, 0, []⟩
def MBX_CHc_MSG_MSG : Fld := ⟨0xf00c00800000, 32, 0, []⟩
def MBX_CHc_ACK_RCODE : Fld := ⟨0xf00c00800400, 16, 0, []⟩
def MBX_CHc_STATE_FULL : Fld := ⟨0xf00c00800800, 1, 0, []⟩
def MBX_CHc_STATE_ACK_VALID : Fld := ⟨0xf00c00800801, 1, 0, []⟩
def MBX_CHc_STATE_TIMEOUT : Fld := ⟨0xf00c00800802, 1, 0, []⟩
def MBX_CHc_STATE_REJECT : Fld := ⟨0xf00c00800803, 1, 0, []⟩
def MBX_CHc_STATE_ACK_IGN : Fld := ⟨0xf00c00800804, 1, 0, []⟩
def MBX_CHc_STATE_RCODE : Fld := ⟨0xf00c00800810, 16, 0, []⟩
def MBX_DBMASKr_MASK : Fld := ⟨0xf00c00200400, 32, 0xffffffff, []⟩

def SYS_CTRLReg : Reg := ⟨"SYS_CTRL", 0xf000000000, 4, 0, 1, 0, 1, (some SYS_CTRL_LOCK), [⟨0, .w1s, .any, SYS_CTRL_LOCK⟩,
  ⟨1, .rowClr, .any, SYS_CTRL_SETT_ONLY⟩]⟩
def SYS_STATUSReg : Reg := ⟨"SYS_STATUS", 0xf000000004, 4, 0, 1, 0, 1, (some SYS_CTRL_LOCK), [⟨0, .w1c, .any, SYS_STATUS_CLK_LOSS⟩,
  ⟨1, .w1c, .any, SYS_STATUS_SPI_BUSY_FAULT⟩,
  ⟨2, .w1c, .any, SYS_STATUS_SPI_PROTECTED⟩,
  ⟨3, .w1c, .any, SYS_STATUS_OTP_FAIL⟩,
  ⟨4, .w1c, .any, SYS_STATUS_SPI_DONE⟩,
  ⟨5, .w1c, .any, SYS_STATUS_OTP_DONE⟩]⟩
def SYS_INT_ENReg : Reg := ⟨"SYS_INT_EN", 0xf000000008, 4, 0, 1, 0, 1, (some SYS_CTRL_LOCK), [⟨0, .rw, .any, SYS_INT_EN_EN⟩]⟩
def SYS_BOOTReg : Reg := ⟨"SYS_BOOT", 0xf000000010, 4, 0, 1, 0, 1, (some SYS_CTRL_LOCK), [⟨0, .ro, .any, SYS_BOOT_STAGE⟩,
  ⟨4, .ro, .any, SYS_BOOT_ERR⟩,
  ⟨8, .ro, .any, SYS_BOOT_COPY⟩,
  ⟨9, .ro, .any, SYS_BOOT_COPY_FALLBACK⟩,
  ⟨10, .ro, .any, SYS_BOOT_SLOT⟩,
  ⟨12, .ro, .any, SYS_BOOT_SLOT_FALLBACK⟩,
  ⟨13, .ro, .any, SYS_BOOT_RECOVERY_PKG⟩,
  ⟨14, .ro, .any, SYS_BOOT_REGRESSED⟩,
  ⟨15, .ro, .any, SYS_BOOT_SETT_DEGRADED⟩,
  ⟨16, .ro, .any, SYS_BOOT_BOOT_MS⟩]⟩
def SYS_PROTReg : Reg := ⟨"SYS_PROT", 0xf000000014, 4, 0, 1, 0, 1, (some SYS_CTRL_LOCK), [⟨0, .ro, .any, SYS_PROT_LEVEL⟩,
  ⟨2, .ro, .any, SYS_PROT_IMAGE_LEVEL⟩,
  ⟨4, .ro, .any, SYS_PROT_FUSE_L2⟩]⟩
def SYS_STRAPReg : Reg := ⟨"SYS_STRAP", 0xf000000018, 4, 0, 1, 0, 1, (some SYS_CTRL_LOCK), [⟨0, .ro, .any, SYS_STRAP_SMBA⟩,
  ⟨3, .ro, .any, SYS_STRAP_SPI_HIZ⟩]⟩
def SYS_OTP_STATEReg : Reg := ⟨"SYS_OTP_STATE", 0xf000000040, 4, 0, 1, 0, 1, (some SYS_CTRL_LOCK), [⟨0, .ro, .any, SYS_OTP_STATE_SECVER⟩,
  ⟨16, .ro, .any, SYS_OTP_STATE_KEYUSE⟩]⟩
def SYS_OTP_CMDReg : Reg := ⟨"SYS_OTP_CMD", 0xf000000050, 4, 0, 1, 0, 1, (some SYS_CTRL_LOCK), [⟨0, .rw, .range 1 3, SYS_OTP_CMD_OP⟩,
  ⟨4, .own, .any, SYS_OTP_CMD_GO⟩,
  ⟨8, .ro, .any, SYS_OTP_CMD_RESULT⟩,
  ⟨12, .w1c, .any, SYS_OTP_CMD_DONE⟩]⟩
def SYS_SPI_CFGReg : Reg := ⟨"SYS_SPI_CFG", 0xf000000080, 4, 0, 1, 0, 1, (some SYS_CTRL_LOCK), [⟨0, .rwl, .any, SYS_SPI_CFG_RWW⟩,
  ⟨1, .rwl, .any, SYS_SPI_CFG_CLK_DIV⟩,
  ⟨4, .ro, .any, SYS_SPI_CFG_ADDR4⟩,
  ⟨5, .ro, .any, SYS_SPI_CFG_DENSITY⟩]⟩
def SYS_SPI_WINReg : Reg := ⟨"SYS_SPI_WIN", 0xf000000088, 4, 0, 1, 0, 1, (some SYS_CTRL_LOCK), [⟨0, .rw, .any, SYS_SPI_WIN_BASE⟩]⟩
def SYS_SPI_CMDReg : Reg := ⟨"SYS_SPI_CMD", 0xf000000090, 4, 0, 1, 0, 1, (some SYS_CTRL_LOCK), [⟨0, .rw, .any, SYS_SPI_CMD_OPCODE⟩,
  ⟨8, .rw, .any, SYS_SPI_CMD_ADDR_EN⟩,
  ⟨9, .rw, .any, SYS_SPI_CMD_PROG⟩,
  ⟨10, .rw, .range 0 256, SYS_SPI_CMD_LEN⟩,
  ⟨19, .rw, .any, SYS_SPI_CMD_DIR⟩,
  ⟨20, .own, .any, SYS_SPI_CMD_GO⟩,
  ⟨24, .ro, .any, SYS_SPI_CMD_RESULT⟩,
  ⟨28, .w1c, .any, SYS_SPI_CMD_DONE⟩]⟩
def SYS_SPI_STATReg : Reg := ⟨"SYS_SPI_STAT", 0xf000000098, 4, 0, 1, 0, 1, (some SYS_CTRL_LOCK), [⟨0, .ro, .any, SYS_SPI_STAT_BUSY0⟩,
  ⟨1, .ro, .any, SYS_SPI_STAT_BUSY1⟩,
  ⟨2, .ro, .any, SYS_SPI_STAT_BOOT_BANK⟩]⟩
def SYS_SETT_CHiReg : Reg := ⟨"SYS_SETT_CHi", 0xf000000200, 8, 8, 4, 0, 1, (some SYS_CTRL_LOCK), [⟨0, .rwl, .any, SYS_SETT_CHi_MASK⟩]⟩
def SYS_UNIT_IDReg : Reg := ⟨"SYS_UNIT_ID", 0xf000000020, 8, 0, 1, 8, 2, (some SYS_CTRL_LOCK), [⟨0, .ro, .any, SYS_UNIT_ID_V⟩]⟩
def SYS_HWTYPEReg : Reg := ⟨"SYS_HWTYPE", 0xf000000030, 4, 0, 1, 0, 1, (some SYS_CTRL_LOCK), [⟨0, .ro, .any, SYS_HWTYPE_V⟩]⟩
def SYS_IMG_SEQReg : Reg := ⟨"SYS_IMG_SEQ", 0xf000000038, 8, 0, 1, 0, 1, (some SYS_CTRL_LOCK), [⟨0, .ro, .any, SYS_IMG_SEQ_V⟩]⟩
def SYS_KEYHASHkReg : Reg := ⟨"SYS_KEYHASHk", 0xf000000400, 8, 64, 4, 8, 6, (some SYS_CTRL_LOCK), [⟨0, .ro, .any, SYS_KEYHASHk_V⟩]⟩
def SYS_OTP_ARGReg : Reg := ⟨"SYS_OTP_ARG", 0xf000000058, 8, 0, 1, 0, 1, (some SYS_CTRL_LOCK), [⟨0, .rw, .any, SYS_OTP_ARG_V⟩]⟩
def SYS_SPI_ADDRReg : Reg := ⟨"SYS_SPI_ADDR", 0xf000000094, 4, 0, 1, 0, 1, (some SYS_CTRL_LOCK), [⟨0, .rw, .any, SYS_SPI_ADDR_V⟩]⟩
def SYS_SPI_DATAReg : Reg := ⟨"SYS_SPI_DATA", 0xf000000100, 8, 8, 32, 0, 1, (some SYS_CTRL_LOCK), [⟨0, .rw, .any, SYS_SPI_DATA_V⟩]⟩
def HIF_CTRLReg : Reg := ⟨"HIF_CTRL", 0xf001000000, 4, 0, 1, 0, 1, (some HIF_CTRL_LOCK), [⟨0, .rowSet, .any, HIF_CTRL_ENABLE⟩,
  ⟨1, .w1s, .any, HIF_CTRL_LOCK⟩]⟩
def HIF_STATUSReg : Reg := ⟨"HIF_STATUS", 0xf001000004, 4, 0, 1, 0, 1, (some HIF_CTRL_LOCK), [⟨0, .w1c, .any, HIF_STATUS_CFG_ERR⟩,
  ⟨1, .w1c, .any, HIF_STATUS_LINK_DOWN⟩,
  ⟨2, .w1c, .any, HIF_STATUS_CTO⟩,
  ⟨3, .w1c, .any, HIF_STATUS_UNEXP_CPL⟩,
  ⟨4, .w1c, .any, HIF_STATUS_FLR⟩,
  ⟨5, .w1c, .any, HIF_STATUS_POISON⟩,
  ⟨6, .w1c, .any, HIF_STATUS_TAG_LOW⟩,
  ⟨7, .w1c, .any, HIF_STATUS_SLOW_LINK⟩]⟩
def HIF_INT_ENReg : Reg := ⟨"HIF_INT_EN", 0xf001000008, 4, 0, 1, 0, 1, (some HIF_CTRL_LOCK), [⟨0, .rw, .any, HIF_INT_EN_EN⟩]⟩
def HIF_PORTp_CFGReg : Reg := ⟨"HIF_PORTp_CFG", 0xf001000100, 4, 16, 4, 0, 1, (some HIF_CTRL_LOCK), [⟨0, .rwl, .any, HIF_PORTp_CFG_ENABLE⟩,
  ⟨1, .rwl, .any, HIF_PORTp_CFG_BIFURCATE⟩,
  ⟨2, .rwl, .any, HIF_PORTp_CFG_SRIS⟩,
  ⟨3, .rwl, .range 0 6, HIF_PORTp_CFG_RATE_LIMIT⟩,
  ⟨6, .rwl, .any, HIF_PORTp_CFG_FLIT_EN⟩]⟩
def HIF_LINKl_CFGReg : Reg := ⟨"HIF_LINKl_CFG", 0xf001000200, 8, 32, 8, 0, 1, (some HIF_CTRL_LOCK), [⟨0, .rwl, .any, HIF_LINKl_CFG_TOTAL_VFS⟩,
  ⟨8, .rwl, .range 1 2048, HIF_LINKl_CFG_MSIX_PF⟩,
  ⟨20, .rwl, .range 1 2048, HIF_LINKl_CFG_MSIX_VF⟩,
  ⟨32, .rwl, .range 4 10, HIF_LINKl_CFG_BAR0_SIZE⟩]⟩
def HIF_LINKl_STATUSReg : Reg := ⟨"HIF_LINKl_STATUS", 0xf001000208, 4, 32, 8, 0, 1, (some HIF_CTRL_LOCK), [⟨0, .ro, .any, HIF_LINKl_STATUS_UP⟩,
  ⟨1, .ro, .any, HIF_LINKl_STATUS_RATE⟩,
  ⟨4, .ro, .any, HIF_LINKl_STATUS_WIDTH⟩,
  ⟨9, .ro, .any, HIF_LINKl_STATUS_FLIT⟩,
  ⟨10, .ro, .any, HIF_LINKl_STATUS_REVERSED⟩,
  ⟨11, .ro, .any, HIF_LINKl_STATUS_SRIS⟩,
  ⟨16, .ro, .any, HIF_LINKl_STATUS_POLARITY⟩]⟩
def HIF_LINKl_CNTReg : Reg := ⟨"HIF_LINKl_CNT", 0xf001000210, 8, 32, 8, 0, 1, (some HIF_CTRL_LOCK), [⟨0, .ro, .any, HIF_LINKl_CNT_CTO_CNT⟩,
  ⟨16, .ro, .any, HIF_LINKl_CNT_UNEXP_CNT⟩,
  ⟨32, .ro, .any, HIF_LINKl_CNT_LINK_DOWN_CNT⟩,
  ⟨48, .ro, .any, HIF_LINKl_CNT_QUAR_NOW⟩]⟩
def HIF_FNf_STATEReg : Reg := ⟨"HIF_FNf_STATE", 0xf001001000, 4, 8, 256, 0, 1, (some HIF_CTRL_LOCK), [⟨0, .ro, .any, HIF_FNf_STATE_PRESENT⟩,
  ⟨1, .ro, .any, HIF_FNf_STATE_MSE⟩,
  ⟨2, .ro, .any, HIF_FNf_STATE_BME⟩,
  ⟨3, .ro, .any, HIF_FNf_STATE_PAUSED⟩,
  ⟨4, .ro, .any, HIF_FNf_STATE_FLR_BUSY⟩,
  ⟨5, .ro, .any, HIF_FNf_STATE_D3HOT⟩,
  ⟨16, .ro, .any, HIF_FNf_STATE_OUT_READS⟩]⟩
def CMD_CTRLReg : Reg := ⟨"CMD_CTRL", 0xf002000000, 4, 0, 1, 0, 1, (some CMD_CTRL_LOCK), [⟨0, .rowSet, .any, CMD_CTRL_ENABLE⟩,
  ⟨1, .w1s, .any, CMD_CTRL_LOCK⟩]⟩
def CMD_STATUSReg : Reg := ⟨"CMD_STATUS", 0xf002000004, 4, 0, 1, 0, 1, (some CMD_CTRL_LOCK), [⟨0, .w1c, .any, CMD_STATUS_CFG_ERR⟩,
  ⟨1, .w1c, .any, CMD_STATUS_CTX_EMPTY⟩,
  ⟨2, .w1c, .any, CMD_STATUS_BAD_DB⟩,
  ⟨3, .w1c, .any, CMD_STATUS_CQ_FULL⟩,
  ⟨4, .w1c, .any, CMD_STATUS_SQ_WAIT⟩,
  ⟨5, .w1c, .any, CMD_STATUS_ACT_DRAINED⟩,
  ⟨6, .w1c, .any, CMD_STATUS_FWQ_FULL⟩,
  ⟨7, .w1c, .any, CMD_STATUS_FWQ_POSTED⟩,
  ⟨8, .w1c, .any, CMD_STATUS_CFS⟩]⟩
def CMD_INT_ENReg : Reg := ⟨"CMD_INT_EN", 0xf002000008, 4, 0, 1, 0, 1, (some CMD_CTRL_LOCK), [⟨0, .rw, .any, CMD_INT_EN_EN⟩]⟩
def CMD_CTX_FREEReg : Reg := ⟨"CMD_CTX_FREE", 0xf002000010, 4, 0, 1, 0, 1, (some CMD_CTRL_LOCK), [⟨0, .ro, .any, CMD_CTX_FREE_COUNT⟩]⟩
def CMD_LOCK_CFGReg : Reg := ⟨"CMD_LOCK_CFG", 0xf00200001c, 4, 0, 1, 0, 1, (some CMD_CTRL_LOCK), [⟨0, .rw, .range 1 65535, CMD_LOCK_CFG_SQ_WAIT_MAX⟩]⟩
def CMD_ACT_CTLReg : Reg := ⟨"CMD_ACT_CTL", 0xf002000020, 4, 0, 1, 0, 1, (some CMD_CTRL_LOCK), [⟨0, .own, .any, CMD_ACT_CTL_PAUSE⟩,
  ⟨1, .own, .any, CMD_ACT_CTL_RESUME⟩,
  ⟨2, .ro, .any, CMD_ACT_CTL_DRAINED⟩,
  ⟨16, .rw, .range 1 800, CMD_ACT_CTL_DRAIN_MS⟩]⟩
def CMD_FWQ_BASEReg : Reg := ⟨"CMD_FWQ_BASE", 0xf002000040, 8, 0, 1, 0, 1, (some CMD_CTRL_LOCK), [⟨12, .rwl, .any, CMD_FWQ_BASE_BASE⟩]⟩
def CMD_FWQ_CFGReg : Reg := ⟨"CMD_FWQ_CFG", 0xf002000048, 4, 0, 1, 0, 1, (some CMD_CTRL_LOCK), [⟨0, .rwl, .range 8 16, CMD_FWQ_CFG_SIZE_LOG2⟩,
  ⟨5, .rw, .any, CMD_FWQ_CFG_ENABLE⟩]⟩
def CMD_FWQ_TAILReg : Reg := ⟨"CMD_FWQ_TAIL", 0xf00200004c, 4, 0, 1, 0, 1, (some CMD_CTRL_LOCK), [⟨0, .ro, .any, CMD_FWQ_TAIL_INDEX⟩]⟩
def CMD_FWCPL_STSReg : Reg := ⟨"CMD_FWCPL_STS", 0xf002000068, 4, 0, 1, 0, 1, (some CMD_CTRL_LOCK), [⟨0, .rw, .any, CMD_FWCPL_STS_SF⟩]⟩
def CMD_FWCPL_CTLReg : Reg := ⟨"CMD_FWCPL_CTL", 0xf00200006c, 4, 0, 1, 0, 1, (some CMD_CTRL_LOCK), [⟨0, .rw, .any, CMD_FWCPL_CTL_CTX⟩,
  ⟨19, .own, .any, CMD_FWCPL_CTL_GO⟩,
  ⟨20, .ro, .any, CMD_FWCPL_CTL_RESULT⟩,
  ⟨24, .w1c, .any, CMD_FWCPL_CTL_DONE⟩]⟩
def CMD_CNTnReg : Reg := ⟨"CMD_CNTn", 0xf002000100, 8, 8, 10, 0, 1, (some CMD_CTRL_LOCK), [⟨0, .ro, .any, CMD_CNTn_COUNT⟩]⟩
def CMD_FNf_CFG0Reg : Reg := ⟨"CMD_FNf_CFG0", 0xf002001000, 8, 32, 256, 0, 1, (some CMD_CTRL_LOCK), [⟨0, .rwl, .range 1 65535, CMD_FNf_CFG0_QMIN⟩,
  ⟨16, .rwl, .range 1 65535, CMD_FNf_CFG0_QMAX⟩,
  ⟨32, .rwl, .any, CMD_FNf_CFG0_CTX_MIN⟩,
  ⟨48, .rw, .range 1 255, CMD_FNf_CFG0_WEIGHT⟩]⟩
def CMD_FNf_CFG1Reg : Reg := ⟨"CMD_FNf_CFG1", 0xf002001008, 8, 32, 256, 0, 1, (some CMD_CTRL_LOCK), [⟨0, .rwl, .range 1 326648, CMD_FNf_CFG1_CTX_MAX⟩]⟩
def CMD_FNf_STATEReg : Reg := ⟨"CMD_FNf_STATE", 0xf002001010, 8, 32, 256, 0, 1, (some CMD_CTRL_LOCK), [⟨0, .ro, .any, CMD_FNf_STATE_QALLOC⟩,
  ⟨16, .ro, .any, CMD_FNf_STATE_CTX_USED⟩,
  ⟨35, .ro, .any, CMD_FNf_STATE_LOCK_WAIT⟩]⟩
def CMD_LKn_CTLReg : Reg := ⟨"CMD_LKn_CTL", 0xf002000800, 4, 32, 16, 0, 1, (some CMD_CTRL_LOCK), [⟨0, .rw, .range 1 2, CMD_LKn_CTL_OP⟩,
  ⟨2, .own, .any, CMD_LKn_CTL_GO⟩,
  ⟨3, .own, .any, CMD_LKn_CTL_CANCEL⟩,
  ⟨4, .ro, .any, CMD_LKn_CTL_RESULT⟩,
  ⟨8, .w1c, .any, CMD_LKn_CTL_DONE⟩]⟩
def CMD_LKn_ARG0Reg : Reg := ⟨"CMD_LKn_ARG0", 0xf002000808, 8, 32, 16, 0, 1, (some CMD_CTRL_LOCK), [⟨0, .rw, .any, CMD_LKn_ARG0_CTX⟩,
  ⟨19, .rw, .any, CMD_LKn_ARG0_REC⟩,
  ⟨20, .rw, .any, CMD_LKn_ARG0_EXCL⟩,
  ⟨21, .rw, .any, CMD_LKn_ARG0_WHOLE⟩,
  ⟨22, .rw, .any, CMD_LKn_ARG0_NS⟩,
  ⟨34, .rw, .any, CMD_LKn_ARG0_COUNT⟩]⟩
def CMD_LKn_ARG1Reg : Reg := ⟨"CMD_LKn_ARG1", 0xf002000810, 8, 32, 16, 0, 1, (some CMD_CTRL_LOCK), [⟨0, .rw, .any, CMD_LKn_ARG1_FIRST⟩]⟩
def CMD_LKn_ARG2Reg : Reg := ⟨"CMD_LKn_ARG2", 0xf002000818, 8, 32, 16, 0, 1, (some CMD_CTRL_LOCK), [⟨0, .rw, .any, CMD_LKn_ARG2_FIRST_B⟩,
  ⟨38, .rw, .range 0 512, CMD_LKn_ARG2_COUNT_B⟩,
  ⟨48, .rw, .any, CMD_LKn_ARG2_EXCL_B⟩,
  ⟨49, .rw, .any, CMD_LKn_ARG2_NS_B⟩,
  ⟨61, .rw, .any, CMD_LKn_ARG2_VALID_B⟩]⟩
def CMD_QPOOL_FREEReg : Reg := ⟨"CMD_QPOOL_FREE", 0xf002000014, 4, 0, 1, 0, 1, (some CMD_CTRL_LOCK), [⟨0, .ro, .any, CMD_QPOOL_FREE_COUNT⟩]⟩
def CMD_FWQ_HEADReg : Reg := ⟨"CMD_FWQ_HEAD", 0xf002000050, 4, 0, 1, 0, 1, (some CMD_CTRL_LOCK), [⟨0, .own, .any, CMD_FWQ_HEAD_INDEX⟩]⟩
def CMD_FWCPL_DW0Reg : Reg := ⟨"CMD_FWCPL_DW0", 0xf002000060, 4, 0, 1, 0, 1, (some CMD_CTRL_LOCK), [⟨0, .rw, .any, CMD_FWCPL_DW0_V⟩]⟩
def CMD_FWCPL_DW1Reg : Reg := ⟨"CMD_FWCPL_DW1", 0xf002000064, 4, 0, 1, 0, 1, (some CMD_CTRL_LOCK), [⟨0, .rw, .any, CMD_FWCPL_DW1_V⟩]⟩
def MBX_CTRLReg : Reg := ⟨"MBX_CTRL", 0xf00c000000, 4, 0, 1, 0, 1, (some MBX_CTRL_LOCK), [⟨0, .rw, .any, MBX_CTRL_ENABLE⟩,
  ⟨1, .w1s, .any, MBX_CTRL_LOCK⟩]⟩
def MBX_STATUSReg : Reg := ⟨"MBX_STATUS", 0xf00c000004, 4, 0, 1, 0, 1, (some MBX_CTRL_LOCK), [⟨0, .w1c, .any, MBX_STATUS_BIND_VIOL⟩,
  ⟨1, .w1c, .any, MBX_STATUS_TIMEOUT⟩,
  ⟨2, .w1c, .any, MBX_STATUS_CORE_FAULT⟩,
  ⟨3, .w1c, .any, MBX_STATUS_CORE_RETIRED⟩,
  ⟨4, .w1c, .any, MBX_STATUS_ROUTE_NONE⟩]⟩
def MBX_INT_ENReg : Reg := ⟨"MBX_INT_EN", 0xf00c000008, 4, 0, 1, 0, 1, (some MBX_CTRL_LOCK), [⟨0, .rw, .any, MBX_INT_EN_EN⟩]⟩
def MBX_CNTnReg : Reg := ⟨"MBX_CNTn", 0xf00c000100, 8, 8, 4, 0, 1, (some MBX_CTRL_LOCK), [⟨0, .ro, .any, MBX_CNTn_COUNT⟩]⟩
def MBX_ROUTEiReg : Reg := ⟨"MBX_ROUTEi", 0xf00c000400, 4, 4, 64, 0, 1, (some MBX_CTRL_LOCK), [⟨0, .rw, .any, MBX_ROUTEi_CORE⟩,
  ⟨6, .rw, .any, MBX_ROUTEi_EN⟩]⟩
def MBX_COREn_CTLReg : Reg := ⟨"MBX_COREn_CTL", 0xf00c001000, 4, 64, 64, 0, 1, (some MBX_CTRL_LOCK), [⟨0, .rowClr, .any, MBX_COREn_CTL_HOLD⟩,
  ⟨1, .own, .any, MBX_COREn_CTL_RESTART⟩,
  ⟨2, .ro, .any, MBX_COREn_CTL_STATE⟩,
  ⟨4, .own, .any, MBX_COREn_CTL_RETIRE⟩]⟩
def MBX_COREn_IMAGEReg : Reg := ⟨"MBX_COREn_IMAGE", 0xf00c001008, 8, 64, 64, 0, 1, (some MBX_CTRL_LOCK), [⟨12, .rw, .any, MBX_COREn_IMAGE_BASE⟩]⟩
def MBX_COREn_WDOGReg : Reg := ⟨"MBX_COREn_WDOG", 0xf00c001010, 4, 64, 64, 0, 1, (some MBX_CTRL_LOCK), [⟨0, .rw, .range 0 1000000, MBX_COREn_WDOG_PERIOD⟩,
  ⟨31, .own, .any, MBX_COREn_WDOG_KICK⟩]⟩
def MBX_COREn_FAULTReg : Reg := ⟨"MBX_COREn_FAULT", 0xf00c001018, 8, 64, 64, 0, 1, (some MBX_CTRL_LOCK), [⟨0, .ro, .any, MBX_COREn_FAULT_ADDR⟩,
  ⟨48, .ro, .any, MBX_COREn_FAULT_CAUSE⟩]⟩
def MBX_COREn_CNTReg : Reg := ⟨"MBX_COREn_CNT", 0xf00c001020, 4, 64, 64, 0, 1, (some MBX_CTRL_LOCK), [⟨0, .ro, .any, MBX_COREn_CNT_RESTART_CNT⟩]⟩
def MBX_COREn_PENDReg : Reg := ⟨"MBX_COREn_PEND", 0xf00c001028, 8, 64, 64, 0, 1, (some MBX_CTRL_LOCK), [⟨0, .ro, .any, MBX_COREn_PEND_PEND⟩]⟩
def MBX_COREn_LOCALReg : Reg := ⟨"MBX_COREn_LOCAL", 0xf00c001030, 4, 64, 64, 0, 1, (some MBX_CTRL_LOCK), [⟨0, .ro, .any, MBX_COREn_LOCAL_DB⟩,
  ⟨1, .w1c, .any, MBX_COREn_LOCAL_WDOG_WARN⟩,
  ⟨2, .w1c, .any, MBX_COREn_LOCAL_FAILOVER⟩,
  ⟨3, .ro, .any, MBX_COREn_LOCAL_FROM⟩]⟩
def MBX_DBrReg : Reg := ⟨"MBX_DBr", 0xf00c002000, 4, 8, 66, 0, 1, (some MBX_CTRL_LOCK), [⟨0, .w1c, .any, MBX_DBr_DB⟩]⟩
def MBX_BINDcReg : Reg := ⟨"MBX_BINDc", 0xf00c004000, 8, 8, 256, 0, 1, (some MBX_CTRL_LOCK), [⟨0, .rwl, .any, MBX_BINDc_SENDER⟩,
  ⟨10, .rwl, .any, MBX_BINDc_RECEIVER⟩,
  ⟨20, .rwl, .any, MBX_BINDc_DB_BIT⟩,
  ⟨25, .rwl, .any, MBX_BINDc_ACK_BIT⟩,
  ⟨30, .rwl, .any, MBX_BINDc_ACK_DB_EN⟩,
  ⟨31, .rwl, .any, MBX_BINDc_VALID⟩,
  ⟨32, .rwl, .range 1 65535, MBX_BINDc_TMO⟩]⟩
def MBX_CHc_MSGReg : Reg := ⟨"MBX_CHc_MSG", 0xf00c008000, 4, 16, 256, 0, 1, (some MBX_CTRL_LOCK), [⟨0, .own, .any, MBX_CHc_MSG_MSG⟩]⟩
def MBX_CHc_ACKReg : Reg := ⟨"MBX_CHc_ACK", 0xf00c008004, 4, 16, 256, 0, 1, (some MBX_CTRL_LOCK), [⟨0, .own, .any, MBX_CHc_ACK_RCODE⟩]⟩
def MBX_CHc_STATEReg : Reg := ⟨"MBX_CHc_STATE", 0xf00c008008, 4, 16, 256, 0, 1, (some MBX_CTRL_LOCK), [⟨0, .ro, .any, MBX_CHc_STATE_FULL⟩,
  ⟨1, .w1c, .any, MBX_CHc_STATE_ACK_VALID⟩,
  ⟨2, .w1c, .any, MBX_CHc_STATE_TIMEOUT⟩,
  ⟨3, .w1c, .any, MBX_CHc_STATE_REJECT⟩,
  ⟨4, .w1c, .any, MBX_CHc_STATE_ACK_IGN⟩,
  ⟨16, .ro, .any, MBX_CHc_STATE_RCODE⟩]⟩
def MBX_DBMASKrReg : Reg := ⟨"MBX_DBMASKr", 0xf00c002004, 4, 8, 66, 0, 1, (some MBX_CTRL_LOCK), [⟨0, .rw, .any, MBX_DBMASKr_MASK⟩]⟩

/-- The registers of block SYS. -/
def regsSYS : List Reg := [
  SYS_CTRLReg, SYS_STATUSReg, SYS_INT_ENReg, SYS_BOOTReg, SYS_PROTReg,
  SYS_STRAPReg, SYS_OTP_STATEReg, SYS_OTP_CMDReg, SYS_SPI_CFGReg, SYS_SPI_WINReg,
  SYS_SPI_CMDReg, SYS_SPI_STATReg, SYS_SETT_CHiReg, SYS_UNIT_IDReg, SYS_HWTYPEReg,
  SYS_IMG_SEQReg, SYS_KEYHASHkReg, SYS_OTP_ARGReg, SYS_SPI_ADDRReg, SYS_SPI_DATAReg]

/-- The registers of block HIF. -/
def regsHIF : List Reg := [
  HIF_CTRLReg, HIF_STATUSReg, HIF_INT_ENReg, HIF_PORTp_CFGReg, HIF_LINKl_CFGReg,
  HIF_LINKl_STATUSReg, HIF_LINKl_CNTReg, HIF_FNf_STATEReg]

/-- The registers of block CMD. -/
def regsCMD : List Reg := [
  CMD_CTRLReg, CMD_STATUSReg, CMD_INT_ENReg, CMD_CTX_FREEReg, CMD_LOCK_CFGReg,
  CMD_ACT_CTLReg, CMD_FWQ_BASEReg, CMD_FWQ_CFGReg, CMD_FWQ_TAILReg, CMD_FWCPL_STSReg,
  CMD_FWCPL_CTLReg, CMD_CNTnReg, CMD_FNf_CFG0Reg, CMD_FNf_CFG1Reg, CMD_FNf_STATEReg,
  CMD_LKn_CTLReg, CMD_LKn_ARG0Reg, CMD_LKn_ARG1Reg, CMD_LKn_ARG2Reg, CMD_QPOOL_FREEReg,
  CMD_FWQ_HEADReg, CMD_FWCPL_DW0Reg, CMD_FWCPL_DW1Reg]

/-- The registers of block MBX. -/
def regsMBX : List Reg := [
  MBX_CTRLReg, MBX_STATUSReg, MBX_INT_ENReg, MBX_CNTnReg, MBX_ROUTEiReg,
  MBX_COREn_CTLReg, MBX_COREn_IMAGEReg, MBX_COREn_WDOGReg, MBX_COREn_FAULTReg, MBX_COREn_CNTReg,
  MBX_COREn_PENDReg, MBX_COREn_LOCALReg, MBX_DBrReg, MBX_BINDcReg, MBX_CHc_MSGReg,
  MBX_CHc_ACKReg, MBX_CHc_STATEReg, MBX_DBMASKrReg]

end Sys2Proof.Machine
end

