-- ==== Sys2Proof/Machine/RegTabB.lean ====
section
/-! DEFINITION. The register tables of MAP (R59 to R61), FCH (R92) and CDC (R113, R139), transcribed from the
field tables of the spec: one `Fld` for every field that is not reserved, one `Reg` for every register. -/

namespace Sys2Proof.Machine

/-! Block MAP: the fields of its register tables. -/

def MAP_CTRL_ENABLE : Fld := ⟨0xf00300000000, 1, 0, []⟩
def MAP_CTRL_LOCK : Fld := ⟨0xf00300000001, 1, 0, []⟩
def MAP_CTRL_REPLAY : Fld := ⟨0xf00300000002, 1, 0, []⟩
def MAP_STATUS_READY : Fld := ⟨0xf00300000400, 1, 0, []⟩
def MAP_STATUS_JNL_LIMIT : Fld := ⟨0xf00300000401, 1, 0, []⟩
def MAP_STATUS_JNL_HARD : Fld := ⟨0xf00300000402, 1, 0, []⟩
def MAP_STATUS_POOL_HIGH : Fld := ⟨0xf00300000403, 1, 0, []⟩
def MAP_STATUS_POOL_FULL : Fld := ⟨0xf00300000404, 1, 0, []⟩
def MAP_STATUS_PROBE_FAIL : Fld := ⟨0xf00300000405, 1, 0, []⟩
def MAP_STATUS_STG_PROBE_FAIL : Fld := ⟨0xf00300000406, 1, 0, []⟩
def MAP_STATUS_CORRUPT : Fld := ⟨0xf00300000407, 1, 0, []⟩
def MAP_STATUS_INVALID_ADDR : Fld := ⟨0xf00300000408, 1, 0, []⟩
def MAP_STATUS_NS_OVERLAP : Fld := ⟨0xf00300000409, 1, 0, []⟩
def MAP_STATUS_RERUN_FULL : Fld := ⟨0xf0030000040a, 1, 0, []⟩
def MAP_STATUS_SETT_DEGRADED : Fld := ⟨0xf0030000040b, 1, 0, []⟩
def MAP_STATUS_UPD_STALL : Fld := ⟨0xf00300000410, 1, 0, []⟩
def MAP_INT_EN_EN : Fld := ⟨0xf00300000801, 11, 0, []⟩
def MAP_RUN_BASE_BASE : Fld := ⟨0xf0030000100c, 36, 0, []⟩
def MAP_RUN_LIMIT_RUN_COUNT : Fld := ⟨0xf00300001800, 29, 0, []⟩
def MAP_EXC_CFG_PRIM_LOG2 : Fld := ⟨0xf00300002800, 5, 26, []⟩
def MAP_EXC_CFG_HIGH_WATER : Fld := ⟨0xf00300002808, 8, 75, []⟩
def MAP_EXC_TOTAL_TOTAL : Fld := ⟨0xf00300002c00, 28, 0x8000000, []⟩
def MAP_EXC_USED_USED : Fld := ⟨0xf00300003000, 28, 0, []⟩
def MAP_RERUN_CFG_EXC_THRESHOLD : Fld := ⟨0xf00300003400, 10, 64, []⟩
def MAP_RERUN_CFG_EXC_THRESHOLD_HIGH : Fld := ⟨0xf00300003410, 10, 8, []⟩
def MAP_RERUN_POP_RUN : Fld := ⟨0xf00300003800, 29, 0, []⟩
def MAP_RERUN_POP_REASON : Fld := ⟨0xf0030000381d, 2, 0, []⟩
def MAP_RERUN_POP_VALID : Fld := ⟨0xf0030000381f, 1, 0, []⟩
def MAP_RERUN_DEPTH_DEPTH : Fld := ⟨0xf00300003c00, 13, 0, []⟩
def MAP_STG_CFG_STG_LOG2 : Fld := ⟨0xf00300004800, 5, 20, []⟩
def MAP_STRIPE_COUNT_COUNT : Fld := ⟨0xf00300005800, 21, 0x100000, []⟩
def MAP_JNL_CFG_FLUSH_MS : Fld := ⟨0xf00300006000, 8, 5, []⟩
def MAP_JNL_CFG_CKPT_LIMIT : Fld := ⟨0xf00300006008, 8, 16, []⟩
def MAP_JNL_SEQ_SEQ : Fld := ⟨0xf00300006800, 64, 1, []⟩
def MAP_JNL_DURABLE_SEQ : Fld := ⟨0xf00300007000, 64, 0, []⟩
def MAP_CKPT_BEGIN_SEQ : Fld := ⟨0xf00300007800, 64, 0, []⟩
def MAP_JNL_SYNC_SYNC : Fld := ⟨0xf00300008000, 1, 0, []⟩
def MAP_JNL_SYNC_SHUTDOWN : Fld := ⟨0xf00300008001, 1, 0, []⟩
def MAP_LOOKUP_CNT_COUNT : Fld := ⟨0xf0030000a000, 64, 0, []⟩
def MAP_CORRUPT_CNT_COUNT : Fld := ⟨0xf0030000b000, 32, 0, []⟩
def MAP_REPLAY_ADDR_ADDR : Fld := ⟨0xf0030000c010, 32, 0, []⟩
def MAP_REPLAY_CTL_GO : Fld := ⟨0xf0030000c800, 1, 0, []⟩
def MAP_REPLAY_CTL_DONE : Fld := ⟨0xf0030000c801, 1, 0, []⟩
def MAP_REPLAY_CTL_ERR : Fld := ⟨0xf0030000c802, 1, 0, []⟩
def MAP_REPLAY_CTL_SWEEP : Fld := ⟨0xf0030000c803, 1, 0, []⟩
def MAP_REPLAY_CTL_SWEEP_DONE : Fld := ⟨0xf0030000c804, 1, 0, []⟩
def MAP_CMDn_CTL_OP : Fld := ⟨0xf00300100000, 8, 0, []⟩
def MAP_CMDn_CTL_GO : Fld := ⟨0xf00300100008, 1, 0, []⟩
def MAP_CMDn_CTL_RESULT : Fld := ⟨0xf0030010000c, 4, 0, []⟩
def MAP_CMDn_CTL_DONE : Fld := ⟨0xf00300100010, 1, 0, []⟩
def MAP_NSn_BASE_RUN : Fld := ⟨0xf00310000000, 29, 0, []⟩
def MAP_NSn_RUN_COUNT : Fld := ⟨0xf00310000020, 29, 0, []⟩
def MAP_NSn_KEY_SLOT : Fld := ⟨0xf00310000040, 12, 0, []⟩
def MAP_NSn_LBA_4K : Fld := ⟨0xf0031000004c, 1, 0, []⟩
def MAP_NSn_VALID : Fld := ⟨0xf0031000004d, 1, 0, []⟩
def MAP_EXC_BASE_BASE : Fld := ⟨0xf0030000200c, 36, 0, []⟩
def MAP_STG_BASE_BASE : Fld := ⟨0xf0030000400c, 36, 0, []⟩
def MAP_STRIPE_BASE_BASE : Fld := ⟨0xf0030000500c, 36, 0, []⟩
def MAP_OWNER_BASE_BASE : Fld := ⟨0xf0030000900c, 36, 0, []⟩
def MAP_MULTI_CNT_COUNT : Fld := ⟨0xf0030000a800, 64, 0, []⟩
def MAP_CMDn_ARG0_V : Fld := ⟨0xf00300100800, 64, 0, []⟩
def MAP_CMDn_ARG1_V : Fld := ⟨0xf00300101000, 64, 0, []⟩
def MAP_CMDn_ARG2_V : Fld := ⟨0xf00300101800, 64, 0, []⟩
def MAP_CMDn_OUT0_V : Fld := ⟨0xf00300102000, 64, 0, []⟩
def MAP_CMDn_OUT1_V : Fld := ⟨0xf00300102800, 64, 0, []⟩

/-! Block FCH: the fields of its register tables. -/

def FCH_GCTRL_ENABLE : Fld := ⟨0xf00400c00000, 1, 0, []⟩
def FCH_GCTRL_LOCK : Fld := ⟨0xf00400c00001, 1, 0, []⟩
def FCH_MODELm_ID_ID : Fld := ⟨0xf00400c10000, 48, 0, []⟩
def FCH_MODELm_ID_BYTE_EN : Fld := ⟨0xf00400c10030, 6, 0, []⟩
def FCH_MODELm_ID_VALID : Fld := ⟨0xf00400c1003f, 1, 0, []⟩
def FCH_MODELm_GEOM_BLOCKS : Fld := ⟨0xf00400c10800, 15, 0, []⟩
def FCH_MODELm_GEOM_PAGES : Fld := ⟨0xf00400c10810, 14, 0, []⟩
def FCH_MODELm_GEOM_CELL : Fld := ⟨0xf00400c1081e, 2, 0, []⟩
def FCH_MODELm_GEOM_PSUSP : Fld := ⟨0xf00400c10820, 1, 0, []⟩
def FCH_MODELm_GEOM_ESUSP : Fld := ⟨0xf00400c10821, 1, 0, []⟩
def FCH_MODELm_GEOM_DECL_OFFSET : Fld := ⟨0xf00400c10822, 8, 0, []⟩
def FCH_MODELm_GEOM_DECL_BIT : Fld := ⟨0xf00400c1082a, 3, 0, []⟩
def FCH_MODELm_GEOM_DECL_EN : Fld := ⟨0xf00400c1082d, 1, 0, []⟩
def FCH_MODELm_GEOM_DRV : Fld := ⟨0xf00400c1082e, 2, 0, []⟩
def FCH_MODELm_GEOM_ODT : Fld := ⟨0xf00400c10830, 3, 0, []⟩
def FCH_MODELm_TIME0_T_R_SLC : Fld := ⟨0xf00400c11000, 16, 0, []⟩
def FCH_MODELm_TIME0_T_R : Fld := ⟨0xf00400c11010, 16, 0, []⟩
def FCH_MODELm_TIME0_T_PROG_SLC : Fld := ⟨0xf00400c11020, 16, 0, []⟩
def FCH_MODELm_TIME0_T_PROG : Fld := ⟨0xf00400c11030, 16, 0, []⟩
def FCH_MODELm_TIME1_T_BERS : Fld := ⟨0xf00400c11800, 16, 0, []⟩
def FCH_MODELm_TIME1_T_SUSP_P : Fld := ⟨0xf00400c11810, 16, 0, []⟩
def FCH_MODELm_TIME1_T_SUSP_E : Fld := ⟨0xf00400c11820, 16, 0, []⟩
def FCH_DEN_CFG_RATE_LIMIT : Fld := ⟨0xf00400800000, 3, 5, []⟩
def FCH_DEN_CFG_FLOOR : Fld := ⟨0xf00400800003, 3, 3, []⟩
def FCH_DEN_CFG_FALLBACK : Fld := ⟨0xf00400800006, 1, 1, []⟩
def FCH_DEN_CFG_VCCQ_SEL : Fld := ⟨0xf00400800007, 1, 0, []⟩
def FCH_DEN_CFG_ENABLE : Fld := ⟨0xf00400800008, 1, 0, []⟩
def FCH_DEN_STATUS_RATE : Fld := ⟨0xf00400800400, 3, 0, []⟩
def FCH_DEN_STATUS_ACTIVE : Fld := ⟨0xf00400800403, 1, 0, []⟩
def FCH_DEN_STATUS_VCCQ_MISMATCH : Fld := ⟨0xf00400800408, 1, 0, []⟩
def FCH_DEN_STATUS_STEPPED : Fld := ⟨0xf00400800409, 1, 0, []⟩
def FCH_DEN_STATUS_RING_ERR : Fld := ⟨0xf0040080040a, 1, 0, []⟩
def FCH_DEN_STATUS_RING_DONE : Fld := ⟨0xf0040080040b, 1, 0, []⟩
def FCH_DEN_INT_EN_EN : Fld := ⟨0xf00400800808, 4, 0, []⟩
def FCH_DEN_TOKENS_BUDGET : Fld := ⟨0xf00400801000, 10, 0x200, []⟩
def FCH_DEN_TOKENS_COST_READ : Fld := ⟨0xf0040080100a, 4, 1, []⟩
def FCH_DEN_TOKENS_COST_PROG : Fld := ⟨0xf0040080100e, 4, 2, []⟩
def FCH_DEN_TOKENS_COST_ERASE : Fld := ⟨0xf00400801012, 4, 2, []⟩
def FCH_DEN_TOKENS_THROTTLE : Fld := ⟨0xf00400801016, 3, 0, []⟩
def FCH_DEN_SUSP_PROG_MIN_REMAIN : Fld := ⟨0xf00400801800, 16, 150, []⟩
def FCH_DEN_SUSP_PROG_MIN_RUN : Fld := ⟨0xf00400801810, 16, 100, []⟩
def FCH_DEN_SUSP_ERASE_MIN_REMAIN : Fld := ⟨0xf00400801820, 16, 0x3e8, []⟩
def FCH_DEN_SUSP_ERASE_MIN_RUN : Fld := ⟨0xf00400801830, 16, 0x1f4, []⟩
def FCH_DEN_SUSP2_PROG_MAX : Fld := ⟨0xf00400802000, 4, 4, []⟩
def FCH_DEN_SUSP2_ERASE_MAX : Fld := ⟨0xf00400802004, 5, 16, []⟩
def FCH_DEN_SUSP2_MAX_READS : Fld := ⟨0xf00400802009, 5, 16, []⟩
def FCH_DEN_POLL_FIRST_PCT : Fld := ⟨0xf00400802800, 7, 90, []⟩
def FCH_DEN_POLL_INT_READ : Fld := ⟨0xf00400802808, 8, 1, []⟩
def FCH_DEN_POLL_INT_PROG : Fld := ⟨0xf00400802810, 8, 10, []⟩
def FCH_DEN_POLL_INT_ERASE : Fld := ⟨0xf00400802818, 8, 50, []⟩
def FCH_DEN_POLL_TO_READ : Fld := ⟨0xf00400802820, 8, 1, []⟩
def FCH_DEN_POLL_TO_PROG : Fld := ⟨0xf00400802828, 8, 10, []⟩
def FCH_DEN_POLL_TO_ERASE : Fld := ⟨0xf00400802830, 8, 50, []⟩
def FCH_DEN_POLL_TO_RESET : Fld := ⟨0xf00400802838, 8, 10, []⟩
def FCH_DEN_AGE_AGE_PROG : Fld := ⟨0xf00400803000, 8, 2, []⟩
def FCH_DEN_AGE_AGE_BGREAD : Fld := ⟨0xf00400803008, 8, 20, []⟩
def FCH_DEN_AGE_AGE_ERASE : Fld := ⟨0xf00400803010, 8, 50, []⟩
def FCH_DEN_RING_BASE_BASE : Fld := ⟨0xf0040080400c, 36, 0, []⟩
def FCH_DEN_RING_CFG_SIZE_LOG2 : Fld := ⟨0xf00400804800, 4, 0, []⟩
def FCH_DEN_RING_CFG_ENABLE : Fld := ⟨0xf00400804804, 1, 0, []⟩
def FCH_DEN_RING_TAIL_INDEX : Fld := ⟨0xf00400804c00, 15, 0, []⟩
def FCH_CH_CTRL_FENCE : Fld := ⟨0xf00400000000, 1, 0, []⟩
def FCH_CH_CTRL_CONT_CHECK : Fld := ⟨0xf00400000001, 1, 0, []⟩
def FCH_CH_CTRL_RETRAIN : Fld := ⟨0xf00400000002, 1, 0, []⟩
def FCH_CH_STATUS_TRAINED : Fld := ⟨0xf00400000400, 1, 0, []⟩
def FCH_CH_STATUS_FENCED : Fld := ⟨0xf00400000401, 1, 0, []⟩
def FCH_CH_STATUS_SHORT_GND : Fld := ⟨0xf00400000402, 1, 0, []⟩
def FCH_CH_STATUS_SHORT_VCCQ : Fld := ⟨0xf00400000403, 1, 0, []⟩
def FCH_CH_STATUS_SHORT_NEIGH : Fld := ⟨0xf00400000404, 1, 0, []⟩
def FCH_CH_STATUS_OPEN : Fld := ⟨0xf00400000405, 1, 0, []⟩
def FCH_CH_STATUS_ORDER_FAIL : Fld := ⟨0xf00400000406, 1, 0, []⟩
def FCH_CH_STATUS_TRAIN_FAIL : Fld := ⟨0xf00400000407, 1, 0, []⟩
def FCH_CH_STATUS_DQS_TIMEOUT : Fld := ⟨0xf00400000408, 1, 0, []⟩
def FCH_CH_STATUS_CONT_DONE : Fld := ⟨0xf00400000409, 1, 0, []⟩
def FCH_CH_STATUS_RETRAIN_DONE : Fld := ⟨0xf0040000040a, 1, 0, []⟩
def FCH_CH_STATUS_UNKNOWN_DIE : Fld := ⟨0xf0040000040b, 1, 0, []⟩
def FCH_CH_STATUS_DIE_MISSING : Fld := ⟨0xf0040000040c, 1, 0, []⟩
def FCH_CH_INT_EN_EN : Fld := ⟨0xf00400000802, 11, 0, []⟩
def FCH_CH_FAULT_LINE : Fld := ⟨0xf00400000c00, 5, 0, []⟩
def FCH_CH_FAULT_PARTNER_CH : Fld := ⟨0xf00400000c08, 8, 0, []⟩
def FCH_CH_FAULT_PARTNER_LINE : Fld := ⟨0xf00400000c10, 5, 0, []⟩
def FCH_CH_SWIZZLE_MAP : Fld := ⟨0xf00400001000, 24, 0xfac688, []⟩
def FCH_CH_CNT_DQS_TIMEOUT_CNT : Fld := ⟨0xf00400002000, 16, 0, []⟩
def FCH_CH_CNT_RETRAIN_CNT : Fld := ⟨0xf00400002010, 16, 0, []⟩
def FCH_CH_CNT_RETRAIN_FAIL_CNT : Fld := ⟨0xf00400002020, 16, 0, []⟩
def FCH_CH_CNT_CONT_FAIL_CNT : Fld := ⟨0xf00400002030, 16, 0, []⟩
def FCH_DIEd_STATE : Fld := ⟨0xf00400010000, 3, 0, []⟩
def FCH_DIEd_MODEL : Fld := ⟨0xf00400010003, 3, 0, []⟩
def FCH_DIEd_RATE_6400 : Fld := ⟨0xf00400010006, 1, 0, []⟩
def FCH_DIEd_SUSPENDED : Fld := ⟨0xf00400010007, 1, 0, []⟩
def FCH_DIEd_QDEPTH : Fld := ⟨0xf00400010008, 8, 0, []⟩
def FCH_DIEd_EPOCH : Fld := ⟨0xf00400010010, 16, 0, []⟩
def FCH_DIEd_PRED_WAIT : Fld := ⟨0xf00400010020, 16, 0, []⟩
def FCH_DIEd_CNT_POLL_TIMEOUT_CNT : Fld := ⟨0xf00400010800, 16, 0, []⟩
def FCH_DIEd_CNT_STATUS_FAIL_CNT : Fld := ⟨0xf00400010810, 16, 0, []⟩
def FCH_DIEd_CNT_EPOCH_DISCARD_CNT : Fld := ⟨0xf00400010820, 16, 0, []⟩
def FCH_DIEd_CNT_SUSPEND_CNT : Fld := ⟨0xf00400010830, 16, 0, []⟩
def FCH_DIEd_CMD_OP : Fld := ⟨0xf00400011000, 3, 0, []⟩
def FCH_DIEd_CMD_STS_RESULT : Fld := ⟨0xf00400011400, 4, 0, []⟩
def FCH_DIEd_CMD_STS_DONE : Fld := ⟨0xf00400011404, 1, 0, []⟩
def FCH_DEN_RING_HEAD_INDEX : Fld := ⟨0xf00400805000, 15, 0, []⟩

/-! Block CDC: the fields of its register tables. -/

def CDC_CTRL_ENABLE : Fld := ⟨0xf00500000000, 1, 0, []⟩
def CDC_CTRL_LOCK : Fld := ⟨0xf00500000001, 1, 0, []⟩
def CDC_STATUS_UNCORR : Fld := ⟨0xf00500000400, 1, 0, []⟩
def CDC_STATUS_RECON_FAIL : Fld := ⟨0xf00500000401, 1, 0, []⟩
def CDC_STATUS_MISDIRECT : Fld := ⟨0xf00500000402, 1, 0, []⟩
def CDC_STATUS_BUDGET_EMPTY : Fld := ⟨0xf00500000403, 1, 0, []⟩
def CDC_STATUS_BUDGET_DEBT : Fld := ⟨0xf00500000404, 1, 0, []⟩
def CDC_STATUS_RB_DONE : Fld := ⟨0xf00500000405, 1, 0, []⟩
def CDC_STATUS_RB_ERR : Fld := ⟨0xf00500000406, 1, 0, []⟩
def CDC_STATUS_ACC_STALL : Fld := ⟨0xf00500000407, 1, 0, []⟩
def CDC_INT_EN_EN : Fld := ⟨0xf00500000800, 8, 0, []⟩
def CDC_DEC_CFG_HARD_ITER : Fld := ⟨0xf00500001000, 6, 20, []⟩
def CDC_DEC_CFG_SOFT_ITER : Fld := ⟨0xf00500001008, 7, 50, []⟩
def CDC_DEC_CFG_RETRY_MAX : Fld := ⟨0xf00500001010, 4, 4, []⟩
def CDC_DEC_CFG_SOFT_EN : Fld := ⟨0xf00500001014, 1, 1, []⟩
def CDC_DEC_CFG_EARLY_RA : Fld := ⟨0xf00500001015, 1, 1, []⟩
def CDC_DEC_CFG_SOFT_DELTA : Fld := ⟨0xf00500001018, 5, 6, []⟩
def CDC_RA_CFG_ENABLE : Fld := ⟨0xf00500001800, 1, 1, []⟩
def CDC_RA_CFG_THRESHOLD : Fld := ⟨0xf00500001804, 12, 200, []⟩
def CDC_RA_CFG_MARGIN : Fld := ⟨0xf00500001810, 8, 20, []⟩
def CDC_RA_CFG_RECHECK : Fld := ⟨0xf00500001818, 8, 50, []⟩
def CDC_RA_BUDGET_PERMILLE : Fld := ⟨0xf00500001c00, 10, 30, []⟩
def CDC_RA_BUDGET_DEPTH : Fld := ⟨0xf00500001c10, 16, 0x1000, []⟩
def CDC_RA_LEVEL_LEVEL : Fld := ⟨0xf00500002000, 32, 0x1000, []⟩
def CDC_RA_RATE_RATE : Fld := ⟨0xf00500002400, 24, 0, []⟩
def CDC_RA_CFG2_OVERRUN_PCT : Fld := ⟨0xf00500002800, 8, 150, []⟩
def CDC_RB_CFG_MAX_ROWS : Fld := ⟨0xf00500003000, 6, 16, []⟩
def CDC_CNTn_COUNT : Fld := ⟨0xf00500010000, 64, 0, []⟩
def CDC_RBn_CTL_GO : Fld := ⟨0xf00500200000, 1, 0, []⟩
def CDC_RBn_CTL_ABORT : Fld := ⟨0xf00500200001, 1, 0, []⟩
def CDC_RBn_CTL_RESULT : Fld := ⟨0xf00500200004, 4, 0, []⟩
def CDC_RBn_CTL_DONE : Fld := ⟨0xf00500200008, 1, 0, []⟩
def CDC_RBn_CTL_ROW : Fld := ⟨0xf00500200010, 13, 0, []⟩
def CDC_RBn_LOST_LOST : Fld := ⟨0xf00500200400, 14, 0, []⟩
def CDC_RBn_SRC_STRIPE : Fld := ⟨0xf00500200800, 20, 0, []⟩
def CDC_RBn_SRC_POSITION : Fld := ⟨0xf00500200814, 6, 0, []⟩
def CDC_RBn_DST_DIE : Fld := ⟨0xf00500201000, 11, 0, []⟩
def CDC_RBn_DST_BLOCK : Fld := ⟨0xf0050020100b, 14, 0, []⟩
def CDC_RBn_ROWS_FIRST : Fld := ⟨0xf00500201800, 13, 0, []⟩
def CDC_RBn_ROWS_COUNT : Fld := ⟨0xf00500201810, 14, 0, []⟩
def CDC_CPn_CTL_GO : Fld := ⟨0xf00500300000, 1, 0, []⟩
def CDC_CPn_CTL_ABORT : Fld := ⟨0xf00500300001, 1, 0, []⟩
def CDC_CPn_CTL_KIND : Fld := ⟨0xf00500300002, 2, 0, []⟩
def CDC_CPn_CTL_RECRYPT : Fld := ⟨0xf00500300004, 1, 0, []⟩
def CDC_CPn_CTL_DST_KEYGEN : Fld := ⟨0xf00500300005, 1, 0, []⟩
def CDC_CPn_CTL_RESULT : Fld := ⟨0xf00500300008, 4, 0, []⟩
def CDC_CPn_CTL_FAIL_POS : Fld := ⟨0xf0050030000c, 6, 63, []⟩
def CDC_CPn_LIST_ADDR : Fld := ⟨0xf00500300806, 42, 0, []⟩
def CDC_CPn_COUNT_COUNT : Fld := ⟨0xf00500301000, 10, 0, []⟩
def CDC_CPn_DST_STRIPE : Fld := ⟨0xf00500301800, 20, 0, []⟩
def CDC_CPn_DST_ROW : Fld := ⟨0xf00500301814, 13, 0, []⟩
def CDC_CPn_PROG_READ : Fld := ⟨0xf00500302000, 10, 0, []⟩
def CDC_CPn_PROG_LOST : Fld := ⟨0xf0050030200a, 10, 0, []⟩
def CDC_CPn_PROG_MISMATCH : Fld := ⟨0xf00500302014, 10, 0, []⟩
def CDC_CP_DONE_DONE : Fld := ⟨0xf00500380000, 32, 0, []⟩
def CDC_CP_INT_EN_EN : Fld := ⟨0xf00500380800, 32, 0, []⟩
def CDC_RETRY_OFFSET : Fld := ⟨0xf00501000000, 120, 0, []⟩

def MAP_CTRLReg : Reg := ⟨"MAP_CTRL", 0xf003000000, 4, 0, 1, 0, 1, (some MAP_CTRL_LOCK), [⟨0, .rowSet, .any, MAP_CTRL_ENABLE⟩,
  ⟨1, .w1s, .any, MAP_CTRL_LOCK⟩,
  ⟨2, .rw, .any, MAP_CTRL_REPLAY⟩]⟩
def MAP_STATUSReg : Reg := ⟨"MAP_STATUS", 0xf003000004, 4, 0, 1, 0, 1, (some MAP_CTRL_LOCK), [⟨0, .ro, .any, MAP_STATUS_READY⟩,
  ⟨1, .w1c, .any, MAP_STATUS_JNL_LIMIT⟩,
  ⟨2, .w1c, .any, MAP_STATUS_JNL_HARD⟩,
  ⟨3, .w1c, .any, MAP_STATUS_POOL_HIGH⟩,
  ⟨4, .w1c, .any, MAP_STATUS_POOL_FULL⟩,
  ⟨5, .w1c, .any, MAP_STATUS_PROBE_FAIL⟩,
  ⟨6, .w1c, .any, MAP_STATUS_STG_PROBE_FAIL⟩,
  ⟨7, .w1c, .any, MAP_STATUS_CORRUPT⟩,
  ⟨8, .w1c, .any, MAP_STATUS_INVALID_ADDR⟩,
  ⟨9, .w1c, .any, MAP_STATUS_NS_OVERLAP⟩,
  ⟨10, .w1c, .any, MAP_STATUS_RERUN_FULL⟩,
  ⟨11, .w1c, .any, MAP_STATUS_SETT_DEGRADED⟩,
  ⟨16, .ro, .any, MAP_STATUS_UPD_STALL⟩]⟩
def MAP_INT_ENReg : Reg := ⟨"MAP_INT_EN", 0xf003000008, 4, 0, 1, 0, 1, (some MAP_CTRL_LOCK), [⟨1, .rw, .any, MAP_INT_EN_EN⟩]⟩
def MAP_RUN_BASEReg : Reg := ⟨"MAP_RUN_BASE", 0xf003000010, 8, 0, 1, 0, 1, (some MAP_CTRL_LOCK), [⟨12, .rwl, .any, MAP_RUN_BASE_BASE⟩]⟩
def MAP_RUN_LIMITReg : Reg := ⟨"MAP_RUN_LIMIT", 0xf003000018, 4, 0, 1, 0, 1, (some MAP_CTRL_LOCK), [⟨0, .rwl, .range 0 483183616, MAP_RUN_LIMIT_RUN_COUNT⟩]⟩
def MAP_EXC_CFGReg : Reg := ⟨"MAP_EXC_CFG", 0xf003000028, 4, 0, 1, 0, 1, (some MAP_CTRL_LOCK), [⟨0, .rwl, .range 16 26, MAP_EXC_CFG_PRIM_LOG2⟩,
  ⟨8, .rwl, .range 50 95, MAP_EXC_CFG_HIGH_WATER⟩]⟩
def MAP_EXC_TOTALReg : Reg := ⟨"MAP_EXC_TOTAL", 0xf00300002c, 4, 0, 1, 0, 1, (some MAP_CTRL_LOCK), [⟨0, .rwl, .special, MAP_EXC_TOTAL_TOTAL⟩]⟩
def MAP_EXC_USEDReg : Reg := ⟨"MAP_EXC_USED", 0xf003000030, 4, 0, 1, 0, 1, (some MAP_CTRL_LOCK), [⟨0, .ro, .any, MAP_EXC_USED_USED⟩]⟩
def MAP_RERUN_CFGReg : Reg := ⟨"MAP_RERUN_CFG", 0xf003000034, 4, 0, 1, 0, 1, (some MAP_CTRL_LOCK), [⟨0, .rw, .range 1 512, MAP_RERUN_CFG_EXC_THRESHOLD⟩,
  ⟨16, .rw, .range 1 512, MAP_RERUN_CFG_EXC_THRESHOLD_HIGH⟩]⟩
def MAP_RERUN_POPReg : Reg := ⟨"MAP_RERUN_POP", 0xf003000038, 4, 0, 1, 0, 1, (some MAP_CTRL_LOCK), [⟨0, .rc, .any, MAP_RERUN_POP_RUN⟩,
  ⟨29, .rc, .any, MAP_RERUN_POP_REASON⟩,
  ⟨31, .rc, .any, MAP_RERUN_POP_VALID⟩]⟩
def MAP_RERUN_DEPTHReg : Reg := ⟨"MAP_RERUN_DEPTH", 0xf00300003c, 4, 0, 1, 0, 1, (some MAP_CTRL_LOCK), [⟨0, .ro, .any, MAP_RERUN_DEPTH_DEPTH⟩]⟩
def MAP_STG_CFGReg : Reg := ⟨"MAP_STG_CFG", 0xf003000048, 4, 0, 1, 0, 1, (some MAP_CTRL_LOCK), [⟨0, .rwl, .range 12 20, MAP_STG_CFG_STG_LOG2⟩]⟩
def MAP_STRIPE_COUNTReg : Reg := ⟨"MAP_STRIPE_COUNT", 0xf003000058, 4, 0, 1, 0, 1, (some MAP_CTRL_LOCK), [⟨0, .rwl, .range 1 1048576, MAP_STRIPE_COUNT_COUNT⟩]⟩
def MAP_JNL_CFGReg : Reg := ⟨"MAP_JNL_CFG", 0xf003000060, 4, 0, 1, 0, 1, (some MAP_CTRL_LOCK), [⟨0, .rw, .any, MAP_JNL_CFG_FLUSH_MS⟩,
  ⟨8, .rw, .range 1 32, MAP_JNL_CFG_CKPT_LIMIT⟩]⟩
def MAP_JNL_SEQReg : Reg := ⟨"MAP_JNL_SEQ", 0xf003000068, 8, 0, 1, 0, 1, (some MAP_CTRL_LOCK), [⟨0, .rwl, .any, MAP_JNL_SEQ_SEQ⟩]⟩
def MAP_JNL_DURABLEReg : Reg := ⟨"MAP_JNL_DURABLE", 0xf003000070, 8, 0, 1, 0, 1, (some MAP_CTRL_LOCK), [⟨0, .ro, .any, MAP_JNL_DURABLE_SEQ⟩]⟩
def MAP_CKPT_BEGINReg : Reg := ⟨"MAP_CKPT_BEGIN", 0xf003000078, 8, 0, 1, 0, 1, (some MAP_CTRL_LOCK), [⟨0, .own, .any, MAP_CKPT_BEGIN_SEQ⟩]⟩
def MAP_JNL_SYNCReg : Reg := ⟨"MAP_JNL_SYNC", 0xf003000080, 4, 0, 1, 0, 1, (some MAP_CTRL_LOCK), [⟨0, .own, .any, MAP_JNL_SYNC_SYNC⟩,
  ⟨1, .own, .any, MAP_JNL_SYNC_SHUTDOWN⟩]⟩
def MAP_LOOKUP_CNTReg : Reg := ⟨"MAP_LOOKUP_CNT", 0xf0030000a0, 8, 0, 1, 0, 1, (some MAP_CTRL_LOCK), [⟨0, .ro, .any, MAP_LOOKUP_CNT_COUNT⟩]⟩
def MAP_CORRUPT_CNTReg : Reg := ⟨"MAP_CORRUPT_CNT", 0xf0030000b0, 4, 0, 1, 0, 1, (some MAP_CTRL_LOCK), [⟨0, .ro, .any, MAP_CORRUPT_CNT_COUNT⟩]⟩
def MAP_REPLAY_ADDRReg : Reg := ⟨"MAP_REPLAY_ADDR", 0xf0030000c0, 8, 0, 1, 0, 1, (some MAP_CTRL_LOCK), [⟨16, .rw, .any, MAP_REPLAY_ADDR_ADDR⟩]⟩
def MAP_REPLAY_CTLReg : Reg := ⟨"MAP_REPLAY_CTL", 0xf0030000c8, 4, 0, 1, 0, 1, (some MAP_CTRL_LOCK), [⟨0, .own, .any, MAP_REPLAY_CTL_GO⟩,
  ⟨1, .w1c, .any, MAP_REPLAY_CTL_DONE⟩,
  ⟨2, .w1c, .any, MAP_REPLAY_CTL_ERR⟩,
  ⟨3, .own, .any, MAP_REPLAY_CTL_SWEEP⟩,
  ⟨4, .w1c, .any, MAP_REPLAY_CTL_SWEEP_DONE⟩]⟩
def MAP_CMDn_CTLReg : Reg := ⟨"MAP_CMDn_CTL", 0xf003001000, 4, 64, 64, 0, 1, (some MAP_CTRL_LOCK), [⟨0, .rw, .any, MAP_CMDn_CTL_OP⟩,
  ⟨8, .own, .any, MAP_CMDn_CTL_GO⟩,
  ⟨12, .ro, .any, MAP_CMDn_CTL_RESULT⟩,
  ⟨16, .w1c, .any, MAP_CMDn_CTL_DONE⟩]⟩
def MAP_NSnReg : Reg := ⟨"MAP_NSn", 0xf003100000, 16, 16, 4096, 0, 1, (some MAP_CTRL_LOCK), [⟨0, .own, .any, MAP_NSn_BASE_RUN⟩,
  ⟨32, .own, .any, MAP_NSn_RUN_COUNT⟩,
  ⟨64, .own, .any, MAP_NSn_KEY_SLOT⟩,
  ⟨76, .own, .any, MAP_NSn_LBA_4K⟩,
  ⟨77, .own, .any, MAP_NSn_VALID⟩]⟩
def MAP_EXC_BASEReg : Reg := ⟨"MAP_EXC_BASE", 0xf003000020, 8, 0, 1, 0, 1, (some MAP_CTRL_LOCK), [⟨12, .rwl, .any, MAP_EXC_BASE_BASE⟩]⟩
def MAP_STG_BASEReg : Reg := ⟨"MAP_STG_BASE", 0xf003000040, 8, 0, 1, 0, 1, (some MAP_CTRL_LOCK), [⟨12, .rwl, .any, MAP_STG_BASE_BASE⟩]⟩
def MAP_STRIPE_BASEReg : Reg := ⟨"MAP_STRIPE_BASE", 0xf003000050, 8, 0, 1, 0, 1, (some MAP_CTRL_LOCK), [⟨12, .rwl, .any, MAP_STRIPE_BASE_BASE⟩]⟩
def MAP_OWNER_BASEReg : Reg := ⟨"MAP_OWNER_BASE", 0xf003000090, 8, 0, 1, 0, 1, (some MAP_CTRL_LOCK), [⟨12, .rwl, .any, MAP_OWNER_BASE_BASE⟩]⟩
def MAP_MULTI_CNTReg : Reg := ⟨"MAP_MULTI_CNT", 0xf0030000a8, 8, 0, 1, 0, 1, (some MAP_CTRL_LOCK), [⟨0, .ro, .any, MAP_MULTI_CNT_COUNT⟩]⟩
def MAP_CMDn_ARG0Reg : Reg := ⟨"MAP_CMDn_ARG0", 0xf003001008, 8, 64, 64, 0, 1, (some MAP_CTRL_LOCK), [⟨0, .rw, .any, MAP_CMDn_ARG0_V⟩]⟩
def MAP_CMDn_ARG1Reg : Reg := ⟨"MAP_CMDn_ARG1", 0xf003001010, 8, 64, 64, 0, 1, (some MAP_CTRL_LOCK), [⟨0, .rw, .any, MAP_CMDn_ARG1_V⟩]⟩
def MAP_CMDn_ARG2Reg : Reg := ⟨"MAP_CMDn_ARG2", 0xf003001018, 8, 64, 64, 0, 1, (some MAP_CTRL_LOCK), [⟨0, .rw, .any, MAP_CMDn_ARG2_V⟩]⟩
def MAP_CMDn_OUT0Reg : Reg := ⟨"MAP_CMDn_OUT0", 0xf003001020, 8, 64, 64, 0, 1, (some MAP_CTRL_LOCK), [⟨0, .ro, .any, MAP_CMDn_OUT0_V⟩]⟩
def MAP_CMDn_OUT1Reg : Reg := ⟨"MAP_CMDn_OUT1", 0xf003001028, 8, 64, 64, 0, 1, (some MAP_CTRL_LOCK), [⟨0, .ro, .any, MAP_CMDn_OUT1_V⟩]⟩
def FCH_GCTRLReg : Reg := ⟨"FCH_GCTRL", 0xf00400c000, 4, 0, 1, 0, 1, (some FCH_GCTRL_LOCK), [⟨0, .rowSet, .any, FCH_GCTRL_ENABLE⟩,
  ⟨1, .w1s, .any, FCH_GCTRL_LOCK⟩]⟩
def FCH_MODELm_IDReg : Reg := ⟨"FCH_MODELm_ID", 0xf00400c100, 8, 32, 8, 0, 1, (some FCH_GCTRL_LOCK), [⟨0, .rwl, .any, FCH_MODELm_ID_ID⟩,
  ⟨48, .rwl, .any, FCH_MODELm_ID_BYTE_EN⟩,
  ⟨63, .rwl, .any, FCH_MODELm_ID_VALID⟩]⟩
def FCH_MODELm_GEOMReg : Reg := ⟨"FCH_MODELm_GEOM", 0xf00400c108, 8, 32, 8, 0, 1, (some FCH_GCTRL_LOCK), [⟨0, .rwl, .range 1 16384, FCH_MODELm_GEOM_BLOCKS⟩,
  ⟨16, .rwl, .range 1 8192, FCH_MODELm_GEOM_PAGES⟩,
  ⟨30, .rwl, .range 1 2, FCH_MODELm_GEOM_CELL⟩,
  ⟨32, .rwl, .any, FCH_MODELm_GEOM_PSUSP⟩,
  ⟨33, .rwl, .any, FCH_MODELm_GEOM_ESUSP⟩,
  ⟨34, .rwl, .any, FCH_MODELm_GEOM_DECL_OFFSET⟩,
  ⟨42, .rwl, .any, FCH_MODELm_GEOM_DECL_BIT⟩,
  ⟨45, .rwl, .any, FCH_MODELm_GEOM_DECL_EN⟩,
  ⟨46, .rwl, .range 0 2, FCH_MODELm_GEOM_DRV⟩,
  ⟨48, .rwl, .range 0 4, FCH_MODELm_GEOM_ODT⟩]⟩
def FCH_MODELm_TIME0Reg : Reg := ⟨"FCH_MODELm_TIME0", 0xf00400c110, 8, 32, 8, 0, 1, (some FCH_GCTRL_LOCK), [⟨0, .rwl, .any, FCH_MODELm_TIME0_T_R_SLC⟩,
  ⟨16, .rwl, .any, FCH_MODELm_TIME0_T_R⟩,
  ⟨32, .rwl, .any, FCH_MODELm_TIME0_T_PROG_SLC⟩,
  ⟨48, .rwl, .any, FCH_MODELm_TIME0_T_PROG⟩]⟩
def FCH_MODELm_TIME1Reg : Reg := ⟨"FCH_MODELm_TIME1", 0xf00400c118, 8, 32, 8, 0, 1, (some FCH_GCTRL_LOCK), [⟨0, .rwl, .any, FCH_MODELm_TIME1_T_BERS⟩,
  ⟨16, .rwl, .any, FCH_MODELm_TIME1_T_SUSP_P⟩,
  ⟨32, .rwl, .any, FCH_MODELm_TIME1_T_SUSP_E⟩]⟩
def FCH_DEN_CFGReg : Reg := ⟨"FCH_DEN_CFG", 0xf004008000, 4, 0x100000, 16, 0, 1, (some FCH_GCTRL_LOCK), [⟨0, .rwl, .range 0 5, FCH_DEN_CFG_RATE_LIMIT⟩,
  ⟨3, .rwl, .range 0 5, FCH_DEN_CFG_FLOOR⟩,
  ⟨6, .rwl, .any, FCH_DEN_CFG_FALLBACK⟩,
  ⟨7, .rwl, .any, FCH_DEN_CFG_VCCQ_SEL⟩,
  ⟨8, .rowSet, .any, FCH_DEN_CFG_ENABLE⟩]⟩
def FCH_DEN_STATUSReg : Reg := ⟨"FCH_DEN_STATUS", 0xf004008004, 4, 0x100000, 16, 0, 1, (some FCH_GCTRL_LOCK), [⟨0, .ro, .any, FCH_DEN_STATUS_RATE⟩,
  ⟨3, .ro, .any, FCH_DEN_STATUS_ACTIVE⟩,
  ⟨8, .w1c, .any, FCH_DEN_STATUS_VCCQ_MISMATCH⟩,
  ⟨9, .w1c, .any, FCH_DEN_STATUS_STEPPED⟩,
  ⟨10, .w1c, .any, FCH_DEN_STATUS_RING_ERR⟩,
  ⟨11, .w1c, .any, FCH_DEN_STATUS_RING_DONE⟩]⟩
def FCH_DEN_INT_ENReg : Reg := ⟨"FCH_DEN_INT_EN", 0xf004008008, 4, 0x100000, 16, 0, 1, (some FCH_GCTRL_LOCK), [⟨8, .rw, .any, FCH_DEN_INT_EN_EN⟩]⟩
def FCH_DEN_TOKENSReg : Reg := ⟨"FCH_DEN_TOKENS", 0xf004008010, 4, 0x100000, 16, 0, 1, (some FCH_GCTRL_LOCK), [⟨0, .rw, .any, FCH_DEN_TOKENS_BUDGET⟩,
  ⟨10, .rw, .any, FCH_DEN_TOKENS_COST_READ⟩,
  ⟨14, .rw, .any, FCH_DEN_TOKENS_COST_PROG⟩,
  ⟨18, .rw, .any, FCH_DEN_TOKENS_COST_ERASE⟩,
  ⟨22, .ro, .any, FCH_DEN_TOKENS_THROTTLE⟩]⟩
def FCH_DEN_SUSPReg : Reg := ⟨"FCH_DEN_SUSP", 0xf004008018, 8, 0x100000, 16, 0, 1, (some FCH_GCTRL_LOCK), [⟨0, .rw, .any, FCH_DEN_SUSP_PROG_MIN_REMAIN⟩,
  ⟨16, .rw, .any, FCH_DEN_SUSP_PROG_MIN_RUN⟩,
  ⟨32, .rw, .any, FCH_DEN_SUSP_ERASE_MIN_REMAIN⟩,
  ⟨48, .rw, .any, FCH_DEN_SUSP_ERASE_MIN_RUN⟩]⟩
def FCH_DEN_SUSP2Reg : Reg := ⟨"FCH_DEN_SUSP2", 0xf004008020, 4, 0x100000, 16, 0, 1, (some FCH_GCTRL_LOCK), [⟨0, .rw, .any, FCH_DEN_SUSP2_PROG_MAX⟩,
  ⟨4, .rw, .any, FCH_DEN_SUSP2_ERASE_MAX⟩,
  ⟨9, .rw, .range 1 31, FCH_DEN_SUSP2_MAX_READS⟩]⟩
def FCH_DEN_POLLReg : Reg := ⟨"FCH_DEN_POLL", 0xf004008028, 8, 0x100000, 16, 0, 1, (some FCH_GCTRL_LOCK), [⟨0, .rw, .range 10 100, FCH_DEN_POLL_FIRST_PCT⟩,
  ⟨8, .rw, .any, FCH_DEN_POLL_INT_READ⟩,
  ⟨16, .rw, .any, FCH_DEN_POLL_INT_PROG⟩,
  ⟨24, .rw, .any, FCH_DEN_POLL_INT_ERASE⟩,
  ⟨32, .rw, .any, FCH_DEN_POLL_TO_READ⟩,
  ⟨40, .rw, .any, FCH_DEN_POLL_TO_PROG⟩,
  ⟨48, .rw, .any, FCH_DEN_POLL_TO_ERASE⟩,
  ⟨56, .rw, .any, FCH_DEN_POLL_TO_RESET⟩]⟩
def FCH_DEN_AGEReg : Reg := ⟨"FCH_DEN_AGE", 0xf004008030, 4, 0x100000, 16, 0, 1, (some FCH_GCTRL_LOCK), [⟨0, .rw, .any, FCH_DEN_AGE_AGE_PROG⟩,
  ⟨8, .rw, .any, FCH_DEN_AGE_AGE_BGREAD⟩,
  ⟨16, .rw, .any, FCH_DEN_AGE_AGE_ERASE⟩]⟩
def FCH_DEN_RING_BASEReg : Reg := ⟨"FCH_DEN_RING_BASE", 0xf004008040, 8, 0x100000, 16, 0, 1, (some FCH_GCTRL_LOCK), [⟨12, .rw, .any, FCH_DEN_RING_BASE_BASE⟩]⟩
def FCH_DEN_RING_CFGReg : Reg := ⟨"FCH_DEN_RING_CFG", 0xf004008048, 4, 0x100000, 16, 0, 1, (some FCH_GCTRL_LOCK), [⟨0, .rw, .range 6 15, FCH_DEN_RING_CFG_SIZE_LOG2⟩,
  ⟨4, .rowSet, .any, FCH_DEN_RING_CFG_ENABLE⟩]⟩
def FCH_DEN_RING_TAILReg : Reg := ⟨"FCH_DEN_RING_TAIL", 0xf00400804c, 4, 0x100000, 16, 0, 1, (some FCH_GCTRL_LOCK), [⟨0, .own, .any, FCH_DEN_RING_TAIL_INDEX⟩]⟩
def FCH_CH_CTRLReg : Reg := ⟨"FCH_CH_CTRL", 0xf004000000, 4, 0x10000, 256, 0, 1, (some FCH_GCTRL_LOCK), [⟨0, .own, .any, FCH_CH_CTRL_FENCE⟩,
  ⟨1, .own, .any, FCH_CH_CTRL_CONT_CHECK⟩,
  ⟨2, .own, .any, FCH_CH_CTRL_RETRAIN⟩]⟩
def FCH_CH_STATUSReg : Reg := ⟨"FCH_CH_STATUS", 0xf004000004, 4, 0x10000, 256, 0, 1, (some FCH_GCTRL_LOCK), [⟨0, .ro, .any, FCH_CH_STATUS_TRAINED⟩,
  ⟨1, .ro, .any, FCH_CH_STATUS_FENCED⟩,
  ⟨2, .w1c, .any, FCH_CH_STATUS_SHORT_GND⟩,
  ⟨3, .w1c, .any, FCH_CH_STATUS_SHORT_VCCQ⟩,
  ⟨4, .w1c, .any, FCH_CH_STATUS_SHORT_NEIGH⟩,
  ⟨5, .w1c, .any, FCH_CH_STATUS_OPEN⟩,
  ⟨6, .w1c, .any, FCH_CH_STATUS_ORDER_FAIL⟩,
  ⟨7, .w1c, .any, FCH_CH_STATUS_TRAIN_FAIL⟩,
  ⟨8, .w1c, .any, FCH_CH_STATUS_DQS_TIMEOUT⟩,
  ⟨9, .w1c, .any, FCH_CH_STATUS_CONT_DONE⟩,
  ⟨10, .w1c, .any, FCH_CH_STATUS_RETRAIN_DONE⟩,
  ⟨11, .w1c, .any, FCH_CH_STATUS_UNKNOWN_DIE⟩,
  ⟨12, .w1c, .any, FCH_CH_STATUS_DIE_MISSING⟩]⟩
def FCH_CH_INT_ENReg : Reg := ⟨"FCH_CH_INT_EN", 0xf004000008, 4, 0x10000, 256, 0, 1, (some FCH_GCTRL_LOCK), [⟨2, .rw, .any, FCH_CH_INT_EN_EN⟩]⟩
def FCH_CH_FAULTReg : Reg := ⟨"FCH_CH_FAULT", 0xf00400000c, 4, 0x10000, 256, 0, 1, (some FCH_GCTRL_LOCK), [⟨0, .ro, .any, FCH_CH_FAULT_LINE⟩,
  ⟨8, .ro, .any, FCH_CH_FAULT_PARTNER_CH⟩,
  ⟨16, .ro, .any, FCH_CH_FAULT_PARTNER_LINE⟩]⟩
def FCH_CH_SWIZZLEReg : Reg := ⟨"FCH_CH_SWIZZLE", 0xf004000010, 4, 0x10000, 256, 0, 1, (some FCH_GCTRL_LOCK), [⟨0, .rwl, .any, FCH_CH_SWIZZLE_MAP⟩]⟩
def FCH_CH_CNTReg : Reg := ⟨"FCH_CH_CNT", 0xf004000020, 8, 0x10000, 256, 0, 1, (some FCH_GCTRL_LOCK), [⟨0, .ro, .any, FCH_CH_CNT_DQS_TIMEOUT_CNT⟩,
  ⟨16, .ro, .any, FCH_CH_CNT_RETRAIN_CNT⟩,
  ⟨32, .ro, .any, FCH_CH_CNT_RETRAIN_FAIL_CNT⟩,
  ⟨48, .ro, .any, FCH_CH_CNT_CONT_FAIL_CNT⟩]⟩
def FCH_DIEdReg : Reg := ⟨"FCH_DIEd", 0xf004000100, 8, 0x10000, 256, 32, 8, (some FCH_GCTRL_LOCK), [⟨0, .own, .any, FCH_DIEd_STATE⟩,
  ⟨3, .ro, .any, FCH_DIEd_MODEL⟩,
  ⟨6, .ro, .any, FCH_DIEd_RATE_6400⟩,
  ⟨7, .ro, .any, FCH_DIEd_SUSPENDED⟩,
  ⟨8, .ro, .any, FCH_DIEd_QDEPTH⟩,
  ⟨16, .rwl, .any, FCH_DIEd_EPOCH⟩,
  ⟨32, .ro, .any, FCH_DIEd_PRED_WAIT⟩]⟩
def FCH_DIEd_CNTReg : Reg := ⟨"FCH_DIEd_CNT", 0xf004000108, 8, 0x10000, 256, 32, 8, (some FCH_GCTRL_LOCK), [⟨0, .ro, .any, FCH_DIEd_CNT_POLL_TIMEOUT_CNT⟩,
  ⟨16, .ro, .any, FCH_DIEd_CNT_STATUS_FAIL_CNT⟩,
  ⟨32, .ro, .any, FCH_DIEd_CNT_EPOCH_DISCARD_CNT⟩,
  ⟨48, .ro, .any, FCH_DIEd_CNT_SUSPEND_CNT⟩]⟩
def FCH_DIEd_CMDReg : Reg := ⟨"FCH_DIEd_CMD", 0xf004000110, 4, 0x10000, 256, 32, 8, (some FCH_GCTRL_LOCK), [⟨0, .own, .any, FCH_DIEd_CMD_OP⟩]⟩
def FCH_DIEd_CMD_STSReg : Reg := ⟨"FCH_DIEd_CMD_STS", 0xf004000114, 4, 0x10000, 256, 32, 8, (some FCH_GCTRL_LOCK), [⟨0, .ro, .any, FCH_DIEd_CMD_STS_RESULT⟩,
  ⟨4, .w1c, .any, FCH_DIEd_CMD_STS_DONE⟩]⟩
def FCH_DEN_RING_HEADReg : Reg := ⟨"FCH_DEN_RING_HEAD", 0xf004008050, 4, 0x100000, 16, 0, 1, (some FCH_GCTRL_LOCK), [⟨0, .ro, .any, FCH_DEN_RING_HEAD_INDEX⟩]⟩
def CDC_CTRLReg : Reg := ⟨"CDC_CTRL", 0xf005000000, 4, 0, 1, 0, 1, (some CDC_CTRL_LOCK), [⟨0, .rowSet, .any, CDC_CTRL_ENABLE⟩,
  ⟨1, .w1s, .any, CDC_CTRL_LOCK⟩]⟩
def CDC_STATUSReg : Reg := ⟨"CDC_STATUS", 0xf005000004, 4, 0, 1, 0, 1, (some CDC_CTRL_LOCK), [⟨0, .w1c, .any, CDC_STATUS_UNCORR⟩,
  ⟨1, .w1c, .any, CDC_STATUS_RECON_FAIL⟩,
  ⟨2, .w1c, .any, CDC_STATUS_MISDIRECT⟩,
  ⟨3, .w1c, .any, CDC_STATUS_BUDGET_EMPTY⟩,
  ⟨4, .w1c, .any, CDC_STATUS_BUDGET_DEBT⟩,
  ⟨5, .w1c, .any, CDC_STATUS_RB_DONE⟩,
  ⟨6, .w1c, .any, CDC_STATUS_RB_ERR⟩,
  ⟨7, .w1c, .any, CDC_STATUS_ACC_STALL⟩]⟩
def CDC_INT_ENReg : Reg := ⟨"CDC_INT_EN", 0xf005000008, 4, 0, 1, 0, 1, (some CDC_CTRL_LOCK), [⟨0, .rw, .any, CDC_INT_EN_EN⟩]⟩
def CDC_DEC_CFGReg : Reg := ⟨"CDC_DEC_CFG", 0xf005000010, 4, 0, 1, 0, 1, (some CDC_CTRL_LOCK), [⟨0, .rw, .range 1 63, CDC_DEC_CFG_HARD_ITER⟩,
  ⟨8, .rw, .range 1 127, CDC_DEC_CFG_SOFT_ITER⟩,
  ⟨16, .rw, .any, CDC_DEC_CFG_RETRY_MAX⟩,
  ⟨20, .rw, .any, CDC_DEC_CFG_SOFT_EN⟩,
  ⟨21, .rw, .any, CDC_DEC_CFG_EARLY_RA⟩,
  ⟨24, .rw, .range 1 31, CDC_DEC_CFG_SOFT_DELTA⟩]⟩
def CDC_RA_CFGReg : Reg := ⟨"CDC_RA_CFG", 0xf005000018, 4, 0, 1, 0, 1, (some CDC_CTRL_LOCK), [⟨0, .rw, .any, CDC_RA_CFG_ENABLE⟩,
  ⟨4, .rw, .range 20 4095, CDC_RA_CFG_THRESHOLD⟩,
  ⟨16, .rw, .any, CDC_RA_CFG_MARGIN⟩,
  ⟨24, .rw, .any, CDC_RA_CFG_RECHECK⟩]⟩
def CDC_RA_BUDGETReg : Reg := ⟨"CDC_RA_BUDGET", 0xf00500001c, 4, 0, 1, 0, 1, (some CDC_CTRL_LOCK), [⟨0, .rw, .range 0 1000, CDC_RA_BUDGET_PERMILLE⟩,
  ⟨16, .rw, .range 32 65535, CDC_RA_BUDGET_DEPTH⟩]⟩
def CDC_RA_LEVELReg : Reg := ⟨"CDC_RA_LEVEL", 0xf005000020, 4, 0, 1, 0, 1, (some CDC_CTRL_LOCK), [⟨0, .ro, .any, CDC_RA_LEVEL_LEVEL⟩]⟩
def CDC_RA_RATEReg : Reg := ⟨"CDC_RA_RATE", 0xf005000024, 4, 0, 1, 0, 1, (some CDC_CTRL_LOCK), [⟨0, .ro, .any, CDC_RA_RATE_RATE⟩]⟩
def CDC_RA_CFG2Reg : Reg := ⟨"CDC_RA_CFG2", 0xf005000028, 4, 0, 1, 0, 1, (some CDC_CTRL_LOCK), [⟨0, .rw, .range 100 255, CDC_RA_CFG2_OVERRUN_PCT⟩]⟩
def CDC_RB_CFGReg : Reg := ⟨"CDC_RB_CFG", 0xf005000030, 4, 0, 1, 0, 1, (some CDC_CTRL_LOCK), [⟨0, .rw, .range 1 63, CDC_RB_CFG_MAX_ROWS⟩]⟩
def CDC_CNTnReg : Reg := ⟨"CDC_CNTn", 0xf005000100, 8, 8, 12, 0, 1, (some CDC_CTRL_LOCK), [⟨0, .ro, .any, CDC_CNTn_COUNT⟩]⟩
def CDC_RBn_CTLReg : Reg := ⟨"CDC_RBn_CTL", 0xf005002000, 4, 32, 16, 0, 1, (some CDC_CTRL_LOCK), [⟨0, .own, .any, CDC_RBn_CTL_GO⟩,
  ⟨1, .own, .any, CDC_RBn_CTL_ABORT⟩,
  ⟨4, .ro, .any, CDC_RBn_CTL_RESULT⟩,
  ⟨8, .w1c, .any, CDC_RBn_CTL_DONE⟩,
  ⟨16, .ro, .any, CDC_RBn_CTL_ROW⟩]⟩
def CDC_RBn_LOSTReg : Reg := ⟨"CDC_RBn_LOST", 0xf005002004, 4, 32, 16, 0, 1, (some CDC_CTRL_LOCK), [⟨0, .ro, .any, CDC_RBn_LOST_LOST⟩]⟩
def CDC_RBn_SRCReg : Reg := ⟨"CDC_RBn_SRC", 0xf005002008, 8, 32, 16, 0, 1, (some CDC_CTRL_LOCK), [⟨0, .rw, .any, CDC_RBn_SRC_STRIPE⟩,
  ⟨20, .rw, .range 0 33, CDC_RBn_SRC_POSITION⟩]⟩
def CDC_RBn_DSTReg : Reg := ⟨"CDC_RBn_DST", 0xf005002010, 8, 32, 16, 0, 1, (some CDC_CTRL_LOCK), [⟨0, .rw, .any, CDC_RBn_DST_DIE⟩,
  ⟨11, .rw, .any, CDC_RBn_DST_BLOCK⟩]⟩
def CDC_RBn_ROWSReg : Reg := ⟨"CDC_RBn_ROWS", 0xf005002018, 8, 32, 16, 0, 1, (some CDC_CTRL_LOCK), [⟨0, .rw, .any, CDC_RBn_ROWS_FIRST⟩,
  ⟨16, .rw, .range 1 8192, CDC_RBn_ROWS_COUNT⟩]⟩
def CDC_CPn_CTLReg : Reg := ⟨"CDC_CPn_CTL", 0xf005003000, 4, 64, 32, 0, 1, (some CDC_CTRL_LOCK), [⟨0, .own, .any, CDC_CPn_CTL_GO⟩,
  ⟨1, .own, .any, CDC_CPn_CTL_ABORT⟩,
  ⟨2, .rw, .range 0 2, CDC_CPn_CTL_KIND⟩,
  ⟨4, .rw, .any, CDC_CPn_CTL_RECRYPT⟩,
  ⟨5, .rw, .any, CDC_CPn_CTL_DST_KEYGEN⟩,
  ⟨8, .ro, .any, CDC_CPn_CTL_RESULT⟩,
  ⟨12, .ro, .any, CDC_CPn_CTL_FAIL_POS⟩]⟩
def CDC_CPn_LISTReg : Reg := ⟨"CDC_CPn_LIST", 0xf005003008, 8, 64, 32, 0, 1, (some CDC_CTRL_LOCK), [⟨6, .rw, .any, CDC_CPn_LIST_ADDR⟩]⟩
def CDC_CPn_COUNTReg : Reg := ⟨"CDC_CPn_COUNT", 0xf005003010, 4, 64, 32, 0, 1, (some CDC_CTRL_LOCK), [⟨0, .rw, .any, CDC_CPn_COUNT_COUNT⟩]⟩
def CDC_CPn_DSTReg : Reg := ⟨"CDC_CPn_DST", 0xf005003018, 8, 64, 32, 0, 1, (some CDC_CTRL_LOCK), [⟨0, .rw, .any, CDC_CPn_DST_STRIPE⟩,
  ⟨20, .rw, .any, CDC_CPn_DST_ROW⟩]⟩
def CDC_CPn_PROGReg : Reg := ⟨"CDC_CPn_PROG", 0xf005003020, 4, 64, 32, 0, 1, (some CDC_CTRL_LOCK), [⟨0, .ro, .any, CDC_CPn_PROG_READ⟩,
  ⟨10, .ro, .any, CDC_CPn_PROG_LOST⟩,
  ⟨20, .ro, .any, CDC_CPn_PROG_MISMATCH⟩]⟩
def CDC_CP_DONEReg : Reg := ⟨"CDC_CP_DONE", 0xf005003800, 4, 0, 1, 0, 1, (some CDC_CTRL_LOCK), [⟨0, .w1c, .any, CDC_CP_DONE_DONE⟩]⟩
def CDC_CP_INT_ENReg : Reg := ⟨"CDC_CP_INT_EN", 0xf005003808, 4, 0, 1, 0, 1, (some CDC_CTRL_LOCK), [⟨0, .rw, .any, CDC_CP_INT_EN_EN⟩]⟩
def CDC_RETRYReg : Reg := ⟨"CDC_RETRY", 0xf005010000, 16, 16, 256, 0, 1, (some CDC_CTRL_LOCK), [⟨0, .rwl, .any, CDC_RETRY_OFFSET⟩]⟩

/-- The registers of block MAP. -/
def regsMAP : List Reg := [
  MAP_CTRLReg, MAP_STATUSReg, MAP_INT_ENReg, MAP_RUN_BASEReg, MAP_RUN_LIMITReg,
  MAP_EXC_CFGReg, MAP_EXC_TOTALReg, MAP_EXC_USEDReg, MAP_RERUN_CFGReg, MAP_RERUN_POPReg,
  MAP_RERUN_DEPTHReg, MAP_STG_CFGReg, MAP_STRIPE_COUNTReg, MAP_JNL_CFGReg, MAP_JNL_SEQReg,
  MAP_JNL_DURABLEReg, MAP_CKPT_BEGINReg, MAP_JNL_SYNCReg, MAP_LOOKUP_CNTReg, MAP_CORRUPT_CNTReg,
  MAP_REPLAY_ADDRReg, MAP_REPLAY_CTLReg, MAP_CMDn_CTLReg, MAP_NSnReg, MAP_EXC_BASEReg,
  MAP_STG_BASEReg, MAP_STRIPE_BASEReg, MAP_OWNER_BASEReg, MAP_MULTI_CNTReg, MAP_CMDn_ARG0Reg,
  MAP_CMDn_ARG1Reg, MAP_CMDn_ARG2Reg, MAP_CMDn_OUT0Reg, MAP_CMDn_OUT1Reg]

/-- The registers of block FCH. -/
def regsFCH : List Reg := [
  FCH_GCTRLReg, FCH_MODELm_IDReg, FCH_MODELm_GEOMReg, FCH_MODELm_TIME0Reg, FCH_MODELm_TIME1Reg,
  FCH_DEN_CFGReg, FCH_DEN_STATUSReg, FCH_DEN_INT_ENReg, FCH_DEN_TOKENSReg, FCH_DEN_SUSPReg,
  FCH_DEN_SUSP2Reg, FCH_DEN_POLLReg, FCH_DEN_AGEReg, FCH_DEN_RING_BASEReg, FCH_DEN_RING_CFGReg,
  FCH_DEN_RING_TAILReg, FCH_CH_CTRLReg, FCH_CH_STATUSReg, FCH_CH_INT_ENReg, FCH_CH_FAULTReg,
  FCH_CH_SWIZZLEReg, FCH_CH_CNTReg, FCH_DIEdReg, FCH_DIEd_CNTReg, FCH_DIEd_CMDReg,
  FCH_DIEd_CMD_STSReg, FCH_DEN_RING_HEADReg]

/-- The registers of block CDC. -/
def regsCDC : List Reg := [
  CDC_CTRLReg, CDC_STATUSReg, CDC_INT_ENReg, CDC_DEC_CFGReg, CDC_RA_CFGReg,
  CDC_RA_BUDGETReg, CDC_RA_LEVELReg, CDC_RA_RATEReg, CDC_RA_CFG2Reg, CDC_RB_CFGReg,
  CDC_CNTnReg, CDC_RBn_CTLReg, CDC_RBn_LOSTReg, CDC_RBn_SRCReg, CDC_RBn_DSTReg,
  CDC_RBn_ROWSReg, CDC_CPn_CTLReg, CDC_CPn_LISTReg, CDC_CPn_COUNTReg, CDC_CPn_DSTReg,
  CDC_CPn_PROGReg, CDC_CP_DONEReg, CDC_CP_INT_ENReg, CDC_RETRYReg]

end Sys2Proof.Machine
end

