-- ==== Sys2Proof/Machine/RegTabC.lean ====
section
/-! DEFINITION. The register tables of TRK (R129, R130), HBM (R184), BUR (R185, R186), BPM (R313) and UDM (R314), transcribed from the
field tables of the spec: one `Fld` for every field that is not reserved, one `Reg` for every register. -/

namespace Sys2Proof.Machine

/-! Block TRK: the fields of its register tables. -/

def TRK_CTRL_ENABLE : Fld := ⟨0xf00600000000, 1, 0, []⟩
def TRK_CTRL_LOCK : Fld := ⟨0xf00600000001, 1, 0, []⟩
def TRK_CTRL_MODE : Fld := ⟨0xf00600000002, 1, 0, []⟩
def TRK_CTRL_TH_ENABLE : Fld := ⟨0xf00600000003, 1, 0, []⟩
def TRK_STATUS_SAT : Fld := ⟨0xf00600000400, 1, 0, []⟩
def TRK_STATUS_MISS : Fld := ⟨0xf00600000401, 1, 0, []⟩
def TRK_STATUS_SWAP_DONE : Fld := ⟨0xf00600000402, 1, 0, []⟩
def TRK_STATUS_BANK_WR_IGN : Fld := ⟨0xf00600000403, 1, 0, []⟩
def TRK_STATUS_TH_SAT : Fld := ⟨0xf00600000404, 1, 0, []⟩
def TRK_STATUS_NO_BUFFER : Fld := ⟨0xf00600000405, 1, 0, []⟩
def TRK_INT_EN_EN : Fld := ⟨0xf00600000800, 6, 0, []⟩
def TRK_BANK_ACTIVE : Fld := ⟨0xf00600000c00, 1, 0, []⟩
def TRK_BANK_SWAP : Fld := ⟨0xf00600000c01, 1, 0, []⟩
def TRK_BANK_PENDING : Fld := ⟨0xf00600000c02, 1, 0, []⟩
def TRK_AGE_BASE_BASE : Fld := ⟨0xf0060000100c, 36, 0, []⟩
def TRK_FRAME_FRAME : Fld := ⟨0xf00600001800, 32, 0, []⟩
def TRK_LOAD_EVALS : Fld := ⟨0xf00600001c00, 16, 0, []⟩
def TRK_LOAD_MISSED : Fld := ⟨0xf00600001c10, 16, 0, []⟩
def TRK_GAIN_CFG_TB1 : Fld := ⟨0xf00600002000, 8, 40, []⟩
def TRK_GAIN_CFG_TB2 : Fld := ⟨0xf00600002008, 8, 60, []⟩
def TRK_GAIN_CFG_TB3 : Fld := ⟨0xf00600002010, 8, 80, []⟩
def TRK_GAIN_CFG_HYST : Fld := ⟨0xf00600002018, 4, 2, []⟩
def TRK_CNTn_COUNT : Fld := ⟨0xf00600010000, 64, 0, []⟩
def TRK_MODELm_CFG_STRINGS : Fld := ⟨0xf00600020000, 4, 1, []⟩
def TRK_MODELm_CFG_LAYERS : Fld := ⟨0xf00600020004, 10, 1, []⟩
def TRK_MODELm_CFG_FEAT_ADDR : Fld := ⟨0xf0060002000e, 8, 0, []⟩
def TRK_MODELm_PAGEt_LEVELS : Fld := ⟨0xf00600020800, 15, 0, []⟩
def TRK_MODELm_PAGEt_INVERT : Fld := ⟨0xf00600020810, 15, 0, []⟩
def TRK_GAINr_STEP_LO : Fld := ⟨0xf00600040000, 4, 1, []⟩
def TRK_GAINr_STEP_HI : Fld := ⟨0xf00600040004, 4, 2, []⟩
def TRK_THn_CFG_ENABLE : Fld := ⟨0xf00600310000, 1, 0, []⟩
def TRK_THn_CFG_POSITION : Fld := ⟨0xf00600310001, 4, 0, []⟩
def TRK_THn_STATE_LEVEL : Fld := ⟨0xf00600310800, 3, 0, []⟩
def TRK_THn_STATE_OUT : Fld := ⟨0xf00600310803, 3, 0, []⟩
def TRK_THn_STATE_HYST : Fld := ⟨0xf00600310806, 1, 0, []⟩
def TRK_THn_STATE_RAMP : Fld := ⟨0xf00600310807, 1, 0, []⟩
def TRK_THn_STATE_SAT : Fld := ⟨0xf00600310808, 1, 0, []⟩
def TRK_THn_STATE_BANK : Fld := ⟨0xf00600310809, 1, 0, []⟩
def TRK_THn_STATE_TEMP : Fld := ⟨0xf00600310810, 12, 0, []⟩
def TRK_THn_STATE_SP : Fld := ⟨0xf00600310820, 12, 0, []⟩
def TRK_CMDn_CTL_OP : Fld := ⟨0xf00600100000, 8, 0, []⟩
def TRK_CMDn_CTL_GO : Fld := ⟨0xf00600100008, 1, 0, []⟩
def TRK_CMDn_CTL_RESULT : Fld := ⟨0xf0060010000c, 4, 0, []⟩
def TRK_CMDn_CTL_DONE : Fld := ⟨0xf00600100010, 1, 0, []⟩
def TRK_FF_F : Fld := ⟨0xf00610000000, 120, 0, []⟩
def TRK_COEFb_s_W0_BAND_OUT : Fld := ⟨0xf00600200000, 16, 200, []⟩
def TRK_COEFb_s_W0_BAND_IN : Fld := ⟨0xf00600200010, 16, 80, []⟩
def TRK_COEFb_s_W0_STEP_LO : Fld := ⟨0xf00600200020, 4, 1, []⟩
def TRK_COEFb_s_W0_STEP_HI : Fld := ⟨0xf00600200024, 4, 2, []⟩
def TRK_COEFb_s_W0_C_HIGH : Fld := ⟨0xf00600200028, 12, 120, []⟩
def TRK_COEFb_s_W0_MIN_SAMPLES : Fld := ⟨0xf00600200034, 8, 16, []⟩
def TRK_COEFb_s_W1_TARGET0 : Fld := ⟨0xf00600200800, 16, 0, []⟩
def TRK_COEFb_s_W1_TARGET1 : Fld := ⟨0xf00600200810, 16, 0, []⟩
def TRK_COEFb_s_W1_TARGET2 : Fld := ⟨0xf00600200820, 16, 0, []⟩
def TRK_COEFb_s_W1_TARGET3 : Fld := ⟨0xf00600200830, 16, 0, []⟩
def TRK_COEFb_s_W2_PERIOD : Fld := ⟨0xf00600201000, 8, 20, []⟩
def TRK_COEFb_s_W2_RAMP : Fld := ⟨0xf00600201008, 16, 25, []⟩
def TRK_COEFb_s_W2_ACCEPT_SUSP : Fld := ⟨0xf00600201018, 1, 0, []⟩
def TRK_COEFb_s_W2_ACCEPT_MEMBER : Fld := ⟨0xf00600201019, 1, 1, []⟩
def TRK_THCOEFb_g_W0_TARGET : Fld := ⟨0xf00600300000, 12, 0x2f0, []⟩
def TRK_THCOEFb_g_W0_BAND_OUT : Fld := ⟨0xf0060030000c, 8, 8, []⟩
def TRK_THCOEFb_g_W0_BAND_IN : Fld := ⟨0xf00600300014, 8, 4, []⟩
def TRK_THCOEFb_g_W0_RAMP : Fld := ⟨0xf0060030001c, 8, 8, []⟩
def TRK_THCOEFb_g_W0_PERIOD : Fld := ⟨0xf00600300024, 8, 20, []⟩
def TRK_THCOEFb_g_W1_FF0 : Fld := ⟨0xf00600300800, 4, 0, []⟩
def TRK_THCOEFb_g_W1_FF1 : Fld := ⟨0xf00600300804, 4, 0, []⟩
def TRK_THCOEFb_g_W1_FF2 : Fld := ⟨0xf00600300808, 4, 0, []⟩
def TRK_THCOEFb_g_W1_FF3 : Fld := ⟨0xf0060030080c, 4, 0, []⟩
def TRK_THCOEFb_g_W1_FF4 : Fld := ⟨0xf00600300810, 4, 0, []⟩
def TRK_THCOEFb_g_W1_FF5 : Fld := ⟨0xf00600300814, 4, 0, []⟩
def TRK_THCOEFb_g_W1_FF6 : Fld := ⟨0xf00600300818, 4, 0, []⟩
def TRK_THCOEFb_g_W1_FF7 : Fld := ⟨0xf0060030081c, 4, 0, []⟩
def TRK_THCOEFb_g_W1_FF8 : Fld := ⟨0xf00600300820, 4, 0, []⟩
def TRK_THCOEFb_g_W1_FF9 : Fld := ⟨0xf00600300824, 4, 0, []⟩
def TRK_THCOEFb_g_W1_FF10 : Fld := ⟨0xf00600300828, 4, 0, []⟩
def TRK_THCOEFb_g_W1_FF11 : Fld := ⟨0xf0060030082c, 4, 0, []⟩
def TRK_THCOEFb_g_W1_FF12 : Fld := ⟨0xf00600300830, 4, 0, []⟩
def TRK_THCOEFb_g_W1_FF13 : Fld := ⟨0xf00600300834, 4, 0, []⟩
def TRK_THCOEFb_g_W1_FF14 : Fld := ⟨0xf00600300838, 4, 0, []⟩
def TRK_THCOEFb_g_W1_FF15 : Fld := ⟨0xf0060030083c, 4, 0, []⟩
def TRK_CMDn_ARG0_V : Fld := ⟨0xf00600100800, 64, 0, []⟩
def TRK_CMDn_ARG1_V : Fld := ⟨0xf00600101000, 64, 0, []⟩
def TRK_CMDn_ARG2_V : Fld := ⟨0xf00600101800, 64, 0, []⟩
def TRK_CMDn_OUT_V : Fld := ⟨0xf00600102000, 64, 0, []⟩

/-! Block HBM: the fields of its register tables. -/

def HBM_CTRL_ENABLE : Fld := ⟨0xf00700000000, 1, 0, []⟩
def HBM_CTRL_LOCK : Fld := ⟨0xf00700000001, 1, 0, []⟩
def HBM_STATUS_READY : Fld := ⟨0xf00700000400, 1, 0, []⟩
def HBM_STATUS_PC_FAIL : Fld := ⟨0xf00700000401, 1, 0, []⟩
def HBM_STATUS_LINE_UNCORR : Fld := ⟨0xf00700000402, 1, 0, []⟩
def HBM_STATUS_RECON : Fld := ⟨0xf00700000403, 1, 0, []⟩
def HBM_STATUS_WIN_OVERLAP : Fld := ⟨0xf00700000404, 1, 0, []⟩
def HBM_STATUS_CEIL_HIT : Fld := ⟨0xf00700000405, 1, 0, []⟩
def HBM_STATUS_HOLDUP_LOW : Fld := ⟨0xf00700000406, 1, 0, []⟩
def HBM_INT_EN_EN : Fld := ⟨0xf00700000801, 6, 0, []⟩
def HBM_PC_FAILED_FAILED : Fld := ⟨0xf00700001000, 64, 0, []⟩
def HBM_WINw_BASE_BASE : Fld := ⟨0xf0070001000c, 36, 0, []⟩
def HBM_WINw_BASE_EN : Fld := ⟨0xf0070001003f, 1, 0, []⟩
def HBM_WINw_SIZE_PAGES : Fld := ⟨0xf00700010800, 24, 0, []⟩
def HBM_STG_BASE_BASE : Fld := ⟨0xf0070003000c, 36, 0, []⟩
def HBM_STG_SIZE_SECTORS : Fld := ⟨0xf00700031000, 21, 0x100000, []⟩
def HBM_HOLDUP_ENERGY_MJ : Fld := ⟨0xf00700031800, 16, 0, []⟩
def HBM_CEIL_UNITS : Fld := ⟨0xf00700031c00, 7, 0, []⟩
def HBM_CEIL_VWC : Fld := ⟨0xf00700031c07, 1, 0, []⟩
def HBM_CEIL_WT : Fld := ⟨0xf00700031c08, 1, 0, []⟩
def HBM_CEIL_VWC_UNITS : Fld := ⟨0xf00700031c09, 7, 16, []⟩
def HBM_DIRTY_SECTORS : Fld := ⟨0xf00700032000, 21, 0, []⟩
def HBM_CNTn_COUNT : Fld := ⟨0xf00700040000, 64, 0, []⟩
def HBM_WINw_PAR_PAR : Fld := ⟨0xf0070001100c, 36, 0, []⟩
def HBM_STG_META_BASE : Fld := ⟨0xf0070003080c, 36, 0, []⟩
def HBM_STG_FREE_COUNT : Fld := ⟨0xf00700032400, 21, 0, []⟩

/-! Block BUR: the fields of its register tables. -/

def BUR_CTRL_ENABLE : Fld := ⟨0xf00700800000, 1, 0, []⟩
def BUR_CTRL_LOCK : Fld := ⟨0xf00700800001, 1, 0, []⟩
def BUR_CTRL_ADMIT : Fld := ⟨0xf00700800002, 1, 1, []⟩
def BUR_STATUS_NO_BUFFER : Fld := ⟨0xf00700800400, 1, 0, []⟩
def BUR_STATUS_PIN_LIMIT : Fld := ⟨0xf00700800401, 1, 0, []⟩
def BUR_STATUS_ADMIT_REFUSED : Fld := ⟨0xf00700800402, 1, 0, []⟩
def BUR_STATUS_AGED : Fld := ⟨0xf00700800403, 1, 0, []⟩
def BUR_STATUS_FRAMES_LOST : Fld := ⟨0xf00700800404, 1, 0, []⟩
def BUR_STATUS_IDX_FULL : Fld := ⟨0xf00700800405, 1, 0, []⟩
def BUR_INT_EN_EN : Fld := ⟨0xf00700800800, 6, 0, []⟩
def BUR_BASE_BASE : Fld := ⟨0xf00700801016, 26, 0, []⟩
def BUR_FRAMES_COUNT : Fld := ⟨0xf00700801800, 20, 0, []⟩
def BUR_IDX_BASE_BASE : Fld := ⟨0xf0070080200c, 36, 0, []⟩
def BUR_IDX_CFG_IDX_LOG2 : Fld := ⟨0xf00700802800, 5, 18, []⟩
def BUR_ADMIT_THRESH : Fld := ⟨0xf00700802c00, 8, 8, []⟩
def BUR_ADMIT_HAND_MAX : Fld := ⟨0xf00700802c08, 8, 64, []⟩
def BUR_AGE_PERIOD_S : Fld := ⟨0xf00700803000, 17, 0x258, []⟩
def BUR_PIN_LIMIT_PCT : Fld := ⟨0xf00700803400, 5, 25, []⟩
def BUR_PINNED_COUNT : Fld := ⟨0xf00700803800, 20, 0, []⟩
def BUR_CNTn_COUNT : Fld := ⟨0xf00700810000, 64, 0, []⟩
def BUR_CMDn_CTL_OP : Fld := ⟨0xf00700900000, 8, 0, []⟩
def BUR_CMDn_CTL_GO : Fld := ⟨0xf00700900008, 1, 0, []⟩
def BUR_CMDn_CTL_RESULT : Fld := ⟨0xf0070090000c, 4, 0, []⟩
def BUR_CMDn_CTL_DONE : Fld := ⟨0xf00700900010, 1, 0, []⟩
def BUR_RESIDENT_COUNT : Fld := ⟨0xf00700803c00, 20, 0, []⟩
def BUR_AVAIL_COUNT : Fld := ⟨0xf00700804000, 20, 0, []⟩
def BUR_CMDn_ARG0_V : Fld := ⟨0xf00700900800, 64, 0, []⟩
def BUR_CMDn_ARG1_V : Fld := ⟨0xf00700901000, 64, 0, []⟩
def BUR_CMDn_OUT0_V : Fld := ⟨0xf00700902000, 64, 0, []⟩

/-! Block BPM: the fields of its register tables. -/

def BPM_CTRL_ENABLE : Fld := ⟨0xf00800000000, 1, 0, []⟩
def BPM_CTRL_LOCK : Fld := ⟨0xf00800000001, 1, 0, []⟩
def BPM_CTRL_REBUILD : Fld := ⟨0xf00800000002, 1, 0, []⟩
def BPM_STATUS_CFG_ERR : Fld := ⟨0xf00800000400, 1, 0, []⟩
def BPM_STATUS_EMPTY : Fld := ⟨0xf00800000401, 1, 0, []⟩
def BPM_STATUS_BAD_FREE : Fld := ⟨0xf00800000402, 1, 0, []⟩
def BPM_STATUS_LIST_CORRUPT : Fld := ⟨0xf00800000403, 1, 0, []⟩
def BPM_STATUS_CE : Fld := ⟨0xf00800000404, 1, 0, []⟩
def BPM_STATUS_UE : Fld := ⟨0xf00800000405, 1, 0, []⟩
def BPM_STATUS_STEER : Fld := ⟨0xf00800000406, 1, 0, []⟩
def BPM_STATUS_SWEEP_DONE : Fld := ⟨0xf00800000407, 1, 0, []⟩
def BPM_STATUS_LANE2 : Fld := ⟨0xf00800000408, 1, 0, []⟩
def BPM_STATUS_REMAP : Fld := ⟨0xf00800000409, 1, 0, []⟩
def BPM_STATUS_REMAP_FULL : Fld := ⟨0xf0080000040a, 1, 0, []⟩
def BPM_INT_EN_EN : Fld := ⟨0xf00800000800, 11, 0, []⟩
def BPM_FREE_ADDR : Fld := ⟨0xf00800001000, 48, 0, []⟩
def BPM_BAD_FREE_ADDR : Fld := ⟨0xf00800001800, 48, 0, []⟩
def BPM_BAD_FREE_REASON : Fld := ⟨0xf00800001830, 2, 0, []⟩
def BPM_ERR_ADDR : Fld := ⟨0xf00800002000, 48, 0, []⟩
def BPM_ERR_GROUP : Fld := ⟨0xf00800002030, 6, 0, []⟩
def BPM_ERR_POISON : Fld := ⟨0xf00800002036, 1, 0, []⟩
def BPM_POOLn_CFG_BASE : Fld := ⟨0xf00800010000, 11, 0, [0, 0x400, 0x600, 0x700]⟩
def BPM_POOLn_CFG_SIZE : Fld := ⟨0xf00800010010, 10, 8, [8, 36, 128, 0x200]⟩
def BPM_POOLn_CFG_COUNT : Fld := ⟨0xf00800010020, 19, 0x4000, [0x4000, 0x71c, 0x100, 64]⟩
def BPM_POOLn_CFG_SPILL : Fld := ⟨0xf00800010033, 1, 0, []⟩
def BPM_POOLn_STATE_FREE : Fld := ⟨0xf00800010800, 19, 0, []⟩
def BPM_POOLn_STATE_MIN_FREE : Fld := ⟨0xf00800010820, 19, 0, []⟩
def BPM_POOLn_STATE_REBUILDING : Fld := ⟨0xf00800010833, 1, 0, []⟩
def BPM_POOLn_ALLOC_ADDR : Fld := ⟨0xf00800011000, 48, 0, []⟩
def BPM_CNTn_COUNT : Fld := ⟨0xf00800020000, 64, 0, []⟩
def BPM_GRPg_STATE_STEER_LANE : Fld := ⟨0xf00800100000, 7, 127, []⟩
def BPM_GRPg_STATE_STEERED : Fld := ⟨0xf00800100007, 1, 0, []⟩
def BPM_GRPg_STATE_SWEEP : Fld := ⟨0xf00800100008, 1, 0, []⟩
def BPM_GRPg_STATE_LANE2 : Fld := ⟨0xf00800100009, 7, 127, []⟩
def BPM_GRPg_STATE_CE_CNT : Fld := ⟨0xf00800100020, 16, 0, []⟩
def BPM_GRPg_STATE_UE_CNT : Fld := ⟨0xf00800100030, 16, 0, []⟩
def BPM_REMAPg_e_WORD : Fld := ⟨0xf00800104000, 19, 0, []⟩
def BPM_REMAPg_e_LEARNED : Fld := ⟨0xf0080010401e, 1, 0, []⟩
def BPM_REMAPg_e_VALID : Fld := ⟨0xf0080010401f, 1, 0, []⟩

/-! Block UDM: the fields of its register tables. -/

def UDM_CTRL_ENABLE : Fld := ⟨0xf00900000000, 1, 0, []⟩
def UDM_PENDi_PEND : Fld := ⟨0xf00900001000, 32, 0, []⟩
def UDM_ENGe_STATE_CHANNEL : Fld := ⟨0xf00900010000, 4, 0, []⟩
def UDM_ENGe_STATE_BUSY : Fld := ⟨0xf00900010004, 1, 0, []⟩
def UDM_ENGe_STATE_WAITING : Fld := ⟨0xf00900010005, 5, 0, []⟩
def UDM_CNTn_COUNT : Fld := ⟨0xf00900020000, 64, 0, []⟩
def UDM_CHc_CTL_GO : Fld := ⟨0xf00900100000, 1, 0, []⟩
def UDM_CHc_CTL_STOP : Fld := ⟨0xf00900100001, 1, 0, []⟩
def UDM_CHc_CTL_CIRC : Fld := ⟨0xf00900100002, 1, 0, []⟩
def UDM_CHc_CTL_HALF_EN : Fld := ⟨0xf00900100003, 1, 0, []⟩
def UDM_CHc_CTL_FULL_EN : Fld := ⟨0xf00900100004, 1, 0, []⟩
def UDM_CHc_CTL_DONE_EN : Fld := ⟨0xf00900100005, 1, 0, []⟩
def UDM_CHc_CTL_ERR_EN : Fld := ⟨0xf00900100006, 1, 0, []⟩
def UDM_CHc_STATUS_STATE : Fld := ⟨0xf00900100400, 2, 0, []⟩
def UDM_CHc_STATUS_DONE : Fld := ⟨0xf00900100402, 1, 0, []⟩
def UDM_CHc_STATUS_HALF : Fld := ⟨0xf00900100403, 1, 0, []⟩
def UDM_CHc_STATUS_FULL : Fld := ⟨0xf00900100404, 1, 0, []⟩
def UDM_CHc_STATUS_BAD : Fld := ⟨0xf00900100405, 1, 0, []⟩
def UDM_CHc_STATUS_HALTED : Fld := ⟨0xf00900100406, 1, 0, []⟩
def UDM_CHc_STATUS_STOPPED : Fld := ⟨0xf00900100407, 1, 0, []⟩
def UDM_CHc_STATUS_OVERRUN : Fld := ⟨0xf00900100408, 1, 0, []⟩
def UDM_CHc_RING_BASE_BASE : Fld := ⟨0xf00900100805, 43, 0, []⟩
def UDM_CHc_RING_CFG_COUNT : Fld := ⟨0xf00900101000, 16, 1, []⟩
def UDM_CHc_ERR_ADDR_ADDR : Fld := ⟨0xf00900101800, 48, 0, []⟩
def UDM_CHc_INDEX_INDEX : Fld := ⟨0xf00900101400, 16, 0, []⟩

def TRK_CTRLReg : Reg := ⟨"TRK_CTRL", 0xf006000000, 4, 0, 1, 0, 1, (some TRK_CTRL_LOCK), [⟨0, .rowSet, .any, TRK_CTRL_ENABLE⟩,
  ⟨1, .w1s, .any, TRK_CTRL_LOCK⟩,
  ⟨2, .rwl, .any, TRK_CTRL_MODE⟩,
  ⟨3, .rowSet, .any, TRK_CTRL_TH_ENABLE⟩]⟩
def TRK_STATUSReg : Reg := ⟨"TRK_STATUS", 0xf006000004, 4, 0, 1, 0, 1, (some TRK_CTRL_LOCK), [⟨0, .w1c, .any, TRK_STATUS_SAT⟩,
  ⟨1, .w1c, .any, TRK_STATUS_MISS⟩,
  ⟨2, .w1c, .any, TRK_STATUS_SWAP_DONE⟩,
  ⟨3, .w1c, .any, TRK_STATUS_BANK_WR_IGN⟩,
  ⟨4, .w1c, .any, TRK_STATUS_TH_SAT⟩,
  ⟨5, .w1c, .any, TRK_STATUS_NO_BUFFER⟩]⟩
def TRK_INT_ENReg : Reg := ⟨"TRK_INT_EN", 0xf006000008, 4, 0, 1, 0, 1, (some TRK_CTRL_LOCK), [⟨0, .rw, .any, TRK_INT_EN_EN⟩]⟩
def TRK_BANKReg : Reg := ⟨"TRK_BANK", 0xf00600000c, 4, 0, 1, 0, 1, (some TRK_CTRL_LOCK), [⟨0, .ro, .any, TRK_BANK_ACTIVE⟩,
  ⟨1, .own, .any, TRK_BANK_SWAP⟩,
  ⟨2, .ro, .any, TRK_BANK_PENDING⟩]⟩
def TRK_AGE_BASEReg : Reg := ⟨"TRK_AGE_BASE", 0xf006000010, 8, 0, 1, 0, 1, (some TRK_CTRL_LOCK), [⟨12, .rwl, .any, TRK_AGE_BASE_BASE⟩]⟩
def TRK_FRAMEReg : Reg := ⟨"TRK_FRAME", 0xf006000018, 4, 0, 1, 0, 1, (some TRK_CTRL_LOCK), [⟨0, .ro, .any, TRK_FRAME_FRAME⟩]⟩
def TRK_LOADReg : Reg := ⟨"TRK_LOAD", 0xf00600001c, 4, 0, 1, 0, 1, (some TRK_CTRL_LOCK), [⟨0, .ro, .any, TRK_LOAD_EVALS⟩,
  ⟨16, .ro, .any, TRK_LOAD_MISSED⟩]⟩
def TRK_GAIN_CFGReg : Reg := ⟨"TRK_GAIN_CFG", 0xf006000020, 4, 0, 1, 0, 1, (some TRK_CTRL_LOCK), [⟨0, .rw, .any, TRK_GAIN_CFG_TB1⟩,
  ⟨8, .rw, .special, TRK_GAIN_CFG_TB2⟩,
  ⟨16, .rw, .special, TRK_GAIN_CFG_TB3⟩,
  ⟨24, .rw, .any, TRK_GAIN_CFG_HYST⟩]⟩
def TRK_CNTnReg : Reg := ⟨"TRK_CNTn", 0xf006000100, 8, 8, 10, 0, 1, (some TRK_CTRL_LOCK), [⟨0, .ro, .any, TRK_CNTn_COUNT⟩]⟩
def TRK_MODELm_CFGReg : Reg := ⟨"TRK_MODELm_CFG", 0xf006000200, 8, 64, 8, 0, 1, (some TRK_CTRL_LOCK), [⟨0, .rwl, .range 1 15, TRK_MODELm_CFG_STRINGS⟩,
  ⟨4, .rwl, .range 1 512, TRK_MODELm_CFG_LAYERS⟩,
  ⟨14, .rwl, .any, TRK_MODELm_CFG_FEAT_ADDR⟩]⟩
def TRK_MODELm_PAGEtReg : Reg := ⟨"TRK_MODELm_PAGEt", 0xf006000208, 8, 64, 8, 8, 4, (some TRK_CTRL_LOCK), [⟨0, .rwl, .any, TRK_MODELm_PAGEt_LEVELS⟩,
  ⟨16, .rwl, .any, TRK_MODELm_PAGEt_INVERT⟩]⟩
def TRK_GAINrReg : Reg := ⟨"TRK_GAINr", 0xf006000400, 4, 4, 16, 0, 1, (some TRK_CTRL_LOCK), [⟨0, .rw, .any, TRK_GAINr_STEP_LO⟩,
  ⟨4, .rw, .any, TRK_GAINr_STEP_HI⟩]⟩
def TRK_THn_CFGReg : Reg := ⟨"TRK_THn_CFG", 0xf006003100, 4, 16, 20, 0, 1, (some TRK_CTRL_LOCK), [⟨0, .rowSet, .any, TRK_THn_CFG_ENABLE⟩,
  ⟨1, .rwl, .any, TRK_THn_CFG_POSITION⟩]⟩
def TRK_THn_STATEReg : Reg := ⟨"TRK_THn_STATE", 0xf006003108, 8, 16, 20, 0, 1, (some TRK_CTRL_LOCK), [⟨0, .ro, .any, TRK_THn_STATE_LEVEL⟩,
  ⟨3, .ro, .any, TRK_THn_STATE_OUT⟩,
  ⟨6, .ro, .any, TRK_THn_STATE_HYST⟩,
  ⟨7, .ro, .any, TRK_THn_STATE_RAMP⟩,
  ⟨8, .w1c, .any, TRK_THn_STATE_SAT⟩,
  ⟨9, .ro, .any, TRK_THn_STATE_BANK⟩,
  ⟨16, .ro, .any, TRK_THn_STATE_TEMP⟩,
  ⟨32, .ro, .any, TRK_THn_STATE_SP⟩]⟩
def TRK_CMDn_CTLReg : Reg := ⟨"TRK_CMDn_CTL", 0xf006001000, 4, 128, 16, 0, 1, (some TRK_CTRL_LOCK), [⟨0, .rw, .any, TRK_CMDn_CTL_OP⟩,
  ⟨8, .own, .any, TRK_CMDn_CTL_GO⟩,
  ⟨12, .ro, .any, TRK_CMDn_CTL_RESULT⟩,
  ⟨16, .w1c, .any, TRK_CMDn_CTL_DONE⟩]⟩
def TRK_FFReg : Reg := ⟨"TRK_FF", 0xf006100000, 16, 16, 8192, 0, 1, (some TRK_CTRL_LOCK), [⟨0, .bank, .any, TRK_FF_F⟩]⟩
def TRK_COEFb_s_W0Reg : Reg := ⟨"TRK_COEFb_s_W0", 0xf006002000, 8, 0x400, 2, 32, 16, (some TRK_CTRL_LOCK), [⟨0, .bank, .any, TRK_COEFb_s_W0_BAND_OUT⟩,
  ⟨16, .bank, .special, TRK_COEFb_s_W0_BAND_IN⟩,
  ⟨32, .bank, .any, TRK_COEFb_s_W0_STEP_LO⟩,
  ⟨36, .bank, .any, TRK_COEFb_s_W0_STEP_HI⟩,
  ⟨40, .bank, .any, TRK_COEFb_s_W0_C_HIGH⟩,
  ⟨52, .bank, .range 1 255, TRK_COEFb_s_W0_MIN_SAMPLES⟩]⟩
def TRK_COEFb_s_W1Reg : Reg := ⟨"TRK_COEFb_s_W1", 0xf006002008, 8, 0x400, 2, 32, 16, (some TRK_CTRL_LOCK), [⟨0, .bank, .any, TRK_COEFb_s_W1_TARGET0⟩,
  ⟨16, .bank, .any, TRK_COEFb_s_W1_TARGET1⟩,
  ⟨32, .bank, .any, TRK_COEFb_s_W1_TARGET2⟩,
  ⟨48, .bank, .any, TRK_COEFb_s_W1_TARGET3⟩]⟩
def TRK_COEFb_s_W2Reg : Reg := ⟨"TRK_COEFb_s_W2", 0xf006002010, 8, 0x400, 2, 32, 16, (some TRK_CTRL_LOCK), [⟨0, .bank, .range 1 200, TRK_COEFb_s_W2_PERIOD⟩,
  ⟨8, .bank, .range 1 65535, TRK_COEFb_s_W2_RAMP⟩,
  ⟨24, .bank, .any, TRK_COEFb_s_W2_ACCEPT_SUSP⟩,
  ⟨25, .bank, .any, TRK_COEFb_s_W2_ACCEPT_MEMBER⟩]⟩
def TRK_THCOEFb_g_W0Reg : Reg := ⟨"TRK_THCOEFb_g_W0", 0xf006003000, 8, 64, 2, 32, 2, (some TRK_CTRL_LOCK), [⟨0, .bank, .any, TRK_THCOEFb_g_W0_TARGET⟩,
  ⟨12, .bank, .any, TRK_THCOEFb_g_W0_BAND_OUT⟩,
  ⟨20, .bank, .special, TRK_THCOEFb_g_W0_BAND_IN⟩,
  ⟨28, .bank, .range 1 255, TRK_THCOEFb_g_W0_RAMP⟩,
  ⟨36, .bank, .range 1 200, TRK_THCOEFb_g_W0_PERIOD⟩]⟩
def TRK_THCOEFb_g_W1Reg : Reg := ⟨"TRK_THCOEFb_g_W1", 0xf006003008, 8, 64, 2, 32, 2, (some TRK_CTRL_LOCK), [⟨0, .bank, .range 0 8, TRK_THCOEFb_g_W1_FF0⟩,
  ⟨4, .bank, .range 0 8, TRK_THCOEFb_g_W1_FF1⟩,
  ⟨8, .bank, .range 0 8, TRK_THCOEFb_g_W1_FF2⟩,
  ⟨12, .bank, .range 0 8, TRK_THCOEFb_g_W1_FF3⟩,
  ⟨16, .bank, .range 0 8, TRK_THCOEFb_g_W1_FF4⟩,
  ⟨20, .bank, .range 0 8, TRK_THCOEFb_g_W1_FF5⟩,
  ⟨24, .bank, .range 0 8, TRK_THCOEFb_g_W1_FF6⟩,
  ⟨28, .bank, .range 0 8, TRK_THCOEFb_g_W1_FF7⟩,
  ⟨32, .bank, .range 0 8, TRK_THCOEFb_g_W1_FF8⟩,
  ⟨36, .bank, .range 0 8, TRK_THCOEFb_g_W1_FF9⟩,
  ⟨40, .bank, .range 0 8, TRK_THCOEFb_g_W1_FF10⟩,
  ⟨44, .bank, .range 0 8, TRK_THCOEFb_g_W1_FF11⟩,
  ⟨48, .bank, .range 0 8, TRK_THCOEFb_g_W1_FF12⟩,
  ⟨52, .bank, .range 0 8, TRK_THCOEFb_g_W1_FF13⟩,
  ⟨56, .bank, .range 0 8, TRK_THCOEFb_g_W1_FF14⟩,
  ⟨60, .bank, .range 0 8, TRK_THCOEFb_g_W1_FF15⟩]⟩
def TRK_CMDn_ARG0Reg : Reg := ⟨"TRK_CMDn_ARG0", 0xf006001008, 8, 128, 16, 0, 1, (some TRK_CTRL_LOCK), [⟨0, .rw, .any, TRK_CMDn_ARG0_V⟩]⟩
def TRK_CMDn_ARG1Reg : Reg := ⟨"TRK_CMDn_ARG1", 0xf006001010, 8, 128, 16, 0, 1, (some TRK_CTRL_LOCK), [⟨0, .rw, .any, TRK_CMDn_ARG1_V⟩]⟩
def TRK_CMDn_ARG2Reg : Reg := ⟨"TRK_CMDn_ARG2", 0xf006001018, 8, 128, 16, 0, 1, (some TRK_CTRL_LOCK), [⟨0, .rw, .any, TRK_CMDn_ARG2_V⟩]⟩
def TRK_CMDn_OUTReg : Reg := ⟨"TRK_CMDn_OUT", 0xf006001020, 8, 128, 16, 8, 8, (some TRK_CTRL_LOCK), [⟨0, .ro, .any, TRK_CMDn_OUT_V⟩]⟩
def HBM_CTRLReg : Reg := ⟨"HBM_CTRL", 0xf007000000, 4, 0, 1, 0, 1, (some HBM_CTRL_LOCK), [⟨0, .rowSet, .any, HBM_CTRL_ENABLE⟩,
  ⟨1, .w1s, .any, HBM_CTRL_LOCK⟩]⟩
def HBM_STATUSReg : Reg := ⟨"HBM_STATUS", 0xf007000004, 4, 0, 1, 0, 1, (some HBM_CTRL_LOCK), [⟨0, .ro, .any, HBM_STATUS_READY⟩,
  ⟨1, .w1c, .any, HBM_STATUS_PC_FAIL⟩,
  ⟨2, .w1c, .any, HBM_STATUS_LINE_UNCORR⟩,
  ⟨3, .w1c, .any, HBM_STATUS_RECON⟩,
  ⟨4, .w1c, .any, HBM_STATUS_WIN_OVERLAP⟩,
  ⟨5, .w1c, .any, HBM_STATUS_CEIL_HIT⟩,
  ⟨6, .w1c, .any, HBM_STATUS_HOLDUP_LOW⟩]⟩
def HBM_INT_ENReg : Reg := ⟨"HBM_INT_EN", 0xf007000008, 4, 0, 1, 0, 1, (some HBM_CTRL_LOCK), [⟨1, .rw, .any, HBM_INT_EN_EN⟩]⟩
def HBM_PC_FAILEDReg : Reg := ⟨"HBM_PC_FAILED", 0xf007000010, 8, 0, 1, 0, 1, (some HBM_CTRL_LOCK), [⟨0, .ro, .any, HBM_PC_FAILED_FAILED⟩]⟩
def HBM_WINw_BASEReg : Reg := ⟨"HBM_WINw_BASE", 0xf007000100, 8, 32, 16, 0, 1, (some HBM_CTRL_LOCK), [⟨12, .rwl, .any, HBM_WINw_BASE_BASE⟩,
  ⟨63, .rowSetL, .any, HBM_WINw_BASE_EN⟩]⟩
def HBM_WINw_SIZEReg : Reg := ⟨"HBM_WINw_SIZE", 0xf007000108, 8, 32, 16, 0, 1, (some HBM_CTRL_LOCK), [⟨0, .rwl, .any, HBM_WINw_SIZE_PAGES⟩]⟩
def HBM_STG_BASEReg : Reg := ⟨"HBM_STG_BASE", 0xf007000300, 8, 0, 1, 0, 1, (some HBM_CTRL_LOCK), [⟨12, .rwl, .any, HBM_STG_BASE_BASE⟩]⟩
def HBM_STG_SIZEReg : Reg := ⟨"HBM_STG_SIZE", 0xf007000310, 4, 0, 1, 0, 1, (some HBM_CTRL_LOCK), [⟨0, .rwl, .range 81920 1048576, HBM_STG_SIZE_SECTORS⟩]⟩
def HBM_HOLDUPReg : Reg := ⟨"HBM_HOLDUP", 0xf007000318, 4, 0, 1, 0, 1, (some HBM_CTRL_LOCK), [⟨0, .rwl, .any, HBM_HOLDUP_ENERGY_MJ⟩]⟩
def HBM_CEILReg : Reg := ⟨"HBM_CEIL", 0xf00700031c, 4, 0, 1, 0, 1, (some HBM_CTRL_LOCK), [⟨0, .ro, .any, HBM_CEIL_UNITS⟩,
  ⟨7, .ro, .any, HBM_CEIL_VWC⟩,
  ⟨8, .ro, .any, HBM_CEIL_WT⟩,
  ⟨9, .rwl, .range 1 127, HBM_CEIL_VWC_UNITS⟩]⟩
def HBM_DIRTYReg : Reg := ⟨"HBM_DIRTY", 0xf007000320, 4, 0, 1, 0, 1, (some HBM_CTRL_LOCK), [⟨0, .ro, .any, HBM_DIRTY_SECTORS⟩]⟩
def HBM_CNTnReg : Reg := ⟨"HBM_CNTn", 0xf007000400, 8, 8, 6, 0, 1, (some HBM_CTRL_LOCK), [⟨0, .ro, .any, HBM_CNTn_COUNT⟩]⟩
def HBM_WINw_PARReg : Reg := ⟨"HBM_WINw_PAR", 0xf007000110, 8, 32, 16, 0, 1, (some HBM_CTRL_LOCK), [⟨12, .rwl, .any, HBM_WINw_PAR_PAR⟩]⟩
def HBM_STG_METAReg : Reg := ⟨"HBM_STG_META", 0xf007000308, 8, 0, 1, 0, 1, (some HBM_CTRL_LOCK), [⟨12, .rwl, .any, HBM_STG_META_BASE⟩]⟩
def HBM_STG_FREEReg : Reg := ⟨"HBM_STG_FREE", 0xf007000324, 4, 0, 1, 0, 1, (some HBM_CTRL_LOCK), [⟨0, .ro, .any, HBM_STG_FREE_COUNT⟩]⟩
def BUR_CTRLReg : Reg := ⟨"BUR_CTRL", 0xf007008000, 4, 0, 1, 0, 1, (some BUR_CTRL_LOCK), [⟨0, .rowSet, .any, BUR_CTRL_ENABLE⟩,
  ⟨1, .w1s, .any, BUR_CTRL_LOCK⟩,
  ⟨2, .rw, .any, BUR_CTRL_ADMIT⟩]⟩
def BUR_STATUSReg : Reg := ⟨"BUR_STATUS", 0xf007008004, 4, 0, 1, 0, 1, (some BUR_CTRL_LOCK), [⟨0, .w1c, .any, BUR_STATUS_NO_BUFFER⟩,
  ⟨1, .w1c, .any, BUR_STATUS_PIN_LIMIT⟩,
  ⟨2, .w1c, .any, BUR_STATUS_ADMIT_REFUSED⟩,
  ⟨3, .w1c, .any, BUR_STATUS_AGED⟩,
  ⟨4, .w1c, .any, BUR_STATUS_FRAMES_LOST⟩,
  ⟨5, .w1c, .any, BUR_STATUS_IDX_FULL⟩]⟩
def BUR_INT_ENReg : Reg := ⟨"BUR_INT_EN", 0xf007008008, 4, 0, 1, 0, 1, (some BUR_CTRL_LOCK), [⟨0, .rw, .any, BUR_INT_EN_EN⟩]⟩
def BUR_BASEReg : Reg := ⟨"BUR_BASE", 0xf007008010, 8, 0, 1, 0, 1, (some BUR_CTRL_LOCK), [⟨22, .rwl, .any, BUR_BASE_BASE⟩]⟩
def BUR_FRAMESReg : Reg := ⟨"BUR_FRAMES", 0xf007008018, 4, 0, 1, 0, 1, (some BUR_CTRL_LOCK), [⟨0, .rwl, .special, BUR_FRAMES_COUNT⟩]⟩
def BUR_IDX_BASEReg : Reg := ⟨"BUR_IDX_BASE", 0xf007008020, 8, 0, 1, 0, 1, (some BUR_CTRL_LOCK), [⟨12, .rwl, .any, BUR_IDX_BASE_BASE⟩]⟩
def BUR_IDX_CFGReg : Reg := ⟨"BUR_IDX_CFG", 0xf007008028, 4, 0, 1, 0, 1, (some BUR_CTRL_LOCK), [⟨0, .rwl, .range 12 18, BUR_IDX_CFG_IDX_LOG2⟩]⟩
def BUR_ADMITReg : Reg := ⟨"BUR_ADMIT", 0xf00700802c, 4, 0, 1, 0, 1, (some BUR_CTRL_LOCK), [⟨0, .rw, .range 1 255, BUR_ADMIT_THRESH⟩,
  ⟨8, .rw, .range 1 255, BUR_ADMIT_HAND_MAX⟩]⟩
def BUR_AGEReg : Reg := ⟨"BUR_AGE", 0xf007008030, 4, 0, 1, 0, 1, (some BUR_CTRL_LOCK), [⟨0, .rw, .range 1 86400, BUR_AGE_PERIOD_S⟩]⟩
def BUR_PINReg : Reg := ⟨"BUR_PIN", 0xf007008034, 4, 0, 1, 0, 1, (some BUR_CTRL_LOCK), [⟨0, .rw, .range 0 25, BUR_PIN_LIMIT_PCT⟩]⟩
def BUR_PINNEDReg : Reg := ⟨"BUR_PINNED", 0xf007008038, 4, 0, 1, 0, 1, (some BUR_CTRL_LOCK), [⟨0, .ro, .any, BUR_PINNED_COUNT⟩]⟩
def BUR_CNTnReg : Reg := ⟨"BUR_CNTn", 0xf007008100, 8, 8, 8, 0, 1, (some BUR_CTRL_LOCK), [⟨0, .ro, .any, BUR_CNTn_COUNT⟩]⟩
def BUR_CMDn_CTLReg : Reg := ⟨"BUR_CMDn_CTL", 0xf007009000, 4, 64, 8, 0, 1, (some BUR_CTRL_LOCK), [⟨0, .rw, .any, BUR_CMDn_CTL_OP⟩,
  ⟨8, .own, .any, BUR_CMDn_CTL_GO⟩,
  ⟨12, .ro, .any, BUR_CMDn_CTL_RESULT⟩,
  ⟨16, .w1c, .any, BUR_CMDn_CTL_DONE⟩]⟩
def BUR_RESIDENTReg : Reg := ⟨"BUR_RESIDENT", 0xf00700803c, 4, 0, 1, 0, 1, (some BUR_CTRL_LOCK), [⟨0, .ro, .any, BUR_RESIDENT_COUNT⟩]⟩
def BUR_AVAILReg : Reg := ⟨"BUR_AVAIL", 0xf007008040, 4, 0, 1, 0, 1, (some BUR_CTRL_LOCK), [⟨0, .ro, .any, BUR_AVAIL_COUNT⟩]⟩
def BUR_CMDn_ARG0Reg : Reg := ⟨"BUR_CMDn_ARG0", 0xf007009008, 8, 64, 8, 0, 1, (some BUR_CTRL_LOCK), [⟨0, .rw, .any, BUR_CMDn_ARG0_V⟩]⟩
def BUR_CMDn_ARG1Reg : Reg := ⟨"BUR_CMDn_ARG1", 0xf007009010, 8, 64, 8, 0, 1, (some BUR_CTRL_LOCK), [⟨0, .rw, .any, BUR_CMDn_ARG1_V⟩]⟩
def BUR_CMDn_OUT0Reg : Reg := ⟨"BUR_CMDn_OUT0", 0xf007009020, 8, 64, 8, 0, 1, (some BUR_CTRL_LOCK), [⟨0, .ro, .any, BUR_CMDn_OUT0_V⟩]⟩
def BPM_CTRLReg : Reg := ⟨"BPM_CTRL", 0xf008000000, 4, 0, 1, 0, 1, (some BPM_CTRL_LOCK), [⟨0, .rowSet, .any, BPM_CTRL_ENABLE⟩,
  ⟨1, .w1s, .any, BPM_CTRL_LOCK⟩,
  ⟨2, .own, .any, BPM_CTRL_REBUILD⟩]⟩
def BPM_STATUSReg : Reg := ⟨"BPM_STATUS", 0xf008000004, 4, 0, 1, 0, 1, (some BPM_CTRL_LOCK), [⟨0, .w1c, .any, BPM_STATUS_CFG_ERR⟩,
  ⟨1, .w1c, .any, BPM_STATUS_EMPTY⟩,
  ⟨2, .w1c, .any, BPM_STATUS_BAD_FREE⟩,
  ⟨3, .w1c, .any, BPM_STATUS_LIST_CORRUPT⟩,
  ⟨4, .w1c, .any, BPM_STATUS_CE⟩,
  ⟨5, .w1c, .any, BPM_STATUS_UE⟩,
  ⟨6, .w1c, .any, BPM_STATUS_STEER⟩,
  ⟨7, .w1c, .any, BPM_STATUS_SWEEP_DONE⟩,
  ⟨8, .w1c, .any, BPM_STATUS_LANE2⟩,
  ⟨9, .w1c, .any, BPM_STATUS_REMAP⟩,
  ⟨10, .w1c, .any, BPM_STATUS_REMAP_FULL⟩]⟩
def BPM_INT_ENReg : Reg := ⟨"BPM_INT_EN", 0xf008000008, 4, 0, 1, 0, 1, (some BPM_CTRL_LOCK), [⟨0, .rw, .any, BPM_INT_EN_EN⟩]⟩
def BPM_FREEReg : Reg := ⟨"BPM_FREE", 0xf008000010, 8, 0, 1, 0, 1, (some BPM_CTRL_LOCK), [⟨0, .own, .any, BPM_FREE_ADDR⟩]⟩
def BPM_BAD_FREEReg : Reg := ⟨"BPM_BAD_FREE", 0xf008000018, 8, 0, 1, 0, 1, (some BPM_CTRL_LOCK), [⟨0, .ro, .any, BPM_BAD_FREE_ADDR⟩,
  ⟨48, .ro, .any, BPM_BAD_FREE_REASON⟩]⟩
def BPM_ERRReg : Reg := ⟨"BPM_ERR", 0xf008000020, 8, 0, 1, 0, 1, (some BPM_CTRL_LOCK), [⟨0, .ro, .any, BPM_ERR_ADDR⟩,
  ⟨48, .ro, .any, BPM_ERR_GROUP⟩,
  ⟨54, .ro, .any, BPM_ERR_POISON⟩]⟩
def BPM_POOLn_CFGReg : Reg := ⟨"BPM_POOLn_CFG", 0xf008000100, 8, 32, 4, 0, 1, (some BPM_CTRL_LOCK), [⟨0, .rwl, .any, BPM_POOLn_CFG_BASE⟩,
  ⟨16, .rwl, .range 1 512, BPM_POOLn_CFG_SIZE⟩,
  ⟨32, .rwl, .range 1 262144, BPM_POOLn_CFG_COUNT⟩,
  ⟨51, .rw, .any, BPM_POOLn_CFG_SPILL⟩]⟩
def BPM_POOLn_STATEReg : Reg := ⟨"BPM_POOLn_STATE", 0xf008000108, 8, 32, 4, 0, 1, (some BPM_CTRL_LOCK), [⟨0, .ro, .any, BPM_POOLn_STATE_FREE⟩,
  ⟨32, .rc, .any, BPM_POOLn_STATE_MIN_FREE⟩,
  ⟨51, .ro, .any, BPM_POOLn_STATE_REBUILDING⟩]⟩
def BPM_POOLn_ALLOCReg : Reg := ⟨"BPM_POOLn_ALLOC", 0xf008000110, 8, 32, 4, 0, 1, (some BPM_CTRL_LOCK), [⟨0, .rc, .any, BPM_POOLn_ALLOC_ADDR⟩]⟩
def BPM_CNTnReg : Reg := ⟨"BPM_CNTn", 0xf008000200, 8, 8, 8, 0, 1, (some BPM_CTRL_LOCK), [⟨0, .ro, .any, BPM_CNTn_COUNT⟩]⟩
def BPM_GRPg_STATEReg : Reg := ⟨"BPM_GRPg_STATE", 0xf008001000, 8, 0x100, 39, 0, 1, (some BPM_CTRL_LOCK), [⟨0, .ro, .any, BPM_GRPg_STATE_STEER_LANE⟩,
  ⟨7, .ro, .any, BPM_GRPg_STATE_STEERED⟩,
  ⟨8, .ro, .any, BPM_GRPg_STATE_SWEEP⟩,
  ⟨9, .ro, .any, BPM_GRPg_STATE_LANE2⟩,
  ⟨32, .ro, .any, BPM_GRPg_STATE_CE_CNT⟩,
  ⟨48, .ro, .any, BPM_GRPg_STATE_UE_CNT⟩]⟩
def BPM_REMAPg_eReg : Reg := ⟨"BPM_REMAPg_e", 0xf008001040, 4, 0x100, 39, 8, 8, (some BPM_CTRL_LOCK), [⟨0, .rwl, .any, BPM_REMAPg_e_WORD⟩,
  ⟨30, .ro, .any, BPM_REMAPg_e_LEARNED⟩,
  ⟨31, .rwl, .any, BPM_REMAPg_e_VALID⟩]⟩
def UDM_CTRLReg : Reg := ⟨"UDM_CTRL", 0xf009000000, 4, 0, 1, 0, 1, none, [⟨0, .rw, .any, UDM_CTRL_ENABLE⟩]⟩
def UDM_PENDiReg : Reg := ⟨"UDM_PENDi", 0xf009000010, 4, 4, 4, 0, 1, none, [⟨0, .ro, .any, UDM_PENDi_PEND⟩]⟩
def UDM_ENGe_STATEReg : Reg := ⟨"UDM_ENGe_STATE", 0xf009000100, 4, 4, 8, 0, 1, none, [⟨0, .ro, .any, UDM_ENGe_STATE_CHANNEL⟩,
  ⟨4, .ro, .any, UDM_ENGe_STATE_BUSY⟩,
  ⟨5, .ro, .any, UDM_ENGe_STATE_WAITING⟩]⟩
def UDM_CNTnReg : Reg := ⟨"UDM_CNTn", 0xf009000200, 8, 8, 4, 0, 1, none, [⟨0, .ro, .any, UDM_CNTn_COUNT⟩]⟩
def UDM_CHc_CTLReg : Reg := ⟨"UDM_CHc_CTL", 0xf009001000, 4, 64, 128, 0, 1, none, [⟨0, .own, .any, UDM_CHc_CTL_GO⟩,
  ⟨1, .own, .any, UDM_CHc_CTL_STOP⟩,
  ⟨2, .rw, .any, UDM_CHc_CTL_CIRC⟩,
  ⟨3, .rw, .any, UDM_CHc_CTL_HALF_EN⟩,
  ⟨4, .rw, .any, UDM_CHc_CTL_FULL_EN⟩,
  ⟨5, .rw, .any, UDM_CHc_CTL_DONE_EN⟩,
  ⟨6, .rw, .any, UDM_CHc_CTL_ERR_EN⟩]⟩
def UDM_CHc_STATUSReg : Reg := ⟨"UDM_CHc_STATUS", 0xf009001004, 4, 64, 128, 0, 1, none, [⟨0, .ro, .any, UDM_CHc_STATUS_STATE⟩,
  ⟨2, .w1c, .any, UDM_CHc_STATUS_DONE⟩,
  ⟨3, .w1c, .any, UDM_CHc_STATUS_HALF⟩,
  ⟨4, .w1c, .any, UDM_CHc_STATUS_FULL⟩,
  ⟨5, .w1c, .any, UDM_CHc_STATUS_BAD⟩,
  ⟨6, .w1c, .any, UDM_CHc_STATUS_HALTED⟩,
  ⟨7, .w1c, .any, UDM_CHc_STATUS_STOPPED⟩,
  ⟨8, .w1c, .any, UDM_CHc_STATUS_OVERRUN⟩]⟩
def UDM_CHc_RING_BASEReg : Reg := ⟨"UDM_CHc_RING_BASE", 0xf009001008, 8, 64, 128, 0, 1, none, [⟨5, .own, .any, UDM_CHc_RING_BASE_BASE⟩]⟩
def UDM_CHc_RING_CFGReg : Reg := ⟨"UDM_CHc_RING_CFG", 0xf009001010, 4, 64, 128, 0, 1, none, [⟨0, .rw, .range 1 65535, UDM_CHc_RING_CFG_COUNT⟩]⟩
def UDM_CHc_ERR_ADDRReg : Reg := ⟨"UDM_CHc_ERR_ADDR", 0xf009001018, 8, 64, 128, 0, 1, none, [⟨0, .ro, .any, UDM_CHc_ERR_ADDR_ADDR⟩]⟩
def UDM_CHc_INDEXReg : Reg := ⟨"UDM_CHc_INDEX", 0xf009001014, 4, 64, 128, 0, 1, none, [⟨0, .ro, .any, UDM_CHc_INDEX_INDEX⟩]⟩

/-- The registers of block TRK. -/
def regsTRK : List Reg := [
  TRK_CTRLReg, TRK_STATUSReg, TRK_INT_ENReg, TRK_BANKReg, TRK_AGE_BASEReg,
  TRK_FRAMEReg, TRK_LOADReg, TRK_GAIN_CFGReg, TRK_CNTnReg, TRK_MODELm_CFGReg,
  TRK_MODELm_PAGEtReg, TRK_GAINrReg, TRK_THn_CFGReg, TRK_THn_STATEReg, TRK_CMDn_CTLReg,
  TRK_FFReg, TRK_COEFb_s_W0Reg, TRK_COEFb_s_W1Reg, TRK_COEFb_s_W2Reg, TRK_THCOEFb_g_W0Reg,
  TRK_THCOEFb_g_W1Reg, TRK_CMDn_ARG0Reg, TRK_CMDn_ARG1Reg, TRK_CMDn_ARG2Reg, TRK_CMDn_OUTReg]

/-- The registers of block HBM. -/
def regsHBM : List Reg := [
  HBM_CTRLReg, HBM_STATUSReg, HBM_INT_ENReg, HBM_PC_FAILEDReg, HBM_WINw_BASEReg,
  HBM_WINw_SIZEReg, HBM_STG_BASEReg, HBM_STG_SIZEReg, HBM_HOLDUPReg, HBM_CEILReg,
  HBM_DIRTYReg, HBM_CNTnReg, HBM_WINw_PARReg, HBM_STG_METAReg, HBM_STG_FREEReg]

/-- The registers of block BUR. -/
def regsBUR : List Reg := [
  BUR_CTRLReg, BUR_STATUSReg, BUR_INT_ENReg, BUR_BASEReg, BUR_FRAMESReg,
  BUR_IDX_BASEReg, BUR_IDX_CFGReg, BUR_ADMITReg, BUR_AGEReg, BUR_PINReg,
  BUR_PINNEDReg, BUR_CNTnReg, BUR_CMDn_CTLReg, BUR_RESIDENTReg, BUR_AVAILReg,
  BUR_CMDn_ARG0Reg, BUR_CMDn_ARG1Reg, BUR_CMDn_OUT0Reg]

/-- The registers of block BPM. -/
def regsBPM : List Reg := [
  BPM_CTRLReg, BPM_STATUSReg, BPM_INT_ENReg, BPM_FREEReg, BPM_BAD_FREEReg,
  BPM_ERRReg, BPM_POOLn_CFGReg, BPM_POOLn_STATEReg, BPM_POOLn_ALLOCReg, BPM_CNTnReg,
  BPM_GRPg_STATEReg, BPM_REMAPg_eReg]

/-- The registers of block UDM. -/
def regsUDM : List Reg := [
  UDM_CTRLReg, UDM_PENDiReg, UDM_ENGe_STATEReg, UDM_CNTnReg, UDM_CHc_CTLReg,
  UDM_CHc_STATUSReg, UDM_CHc_RING_BASEReg, UDM_CHc_RING_CFGReg, UDM_CHc_ERR_ADDRReg, UDM_CHc_INDEXReg]

end Sys2Proof.Machine
end

