-- ==== Sys2Proof/Machine/RegTabD.lean ====
section
/-! DEFINITION. The register tables of CRY (R279), CPR (R292), PWR (R395), OOB (R406) and FLT (R423), transcribed from the
field tables of the spec: one `Fld` for every field that is not reserved, one `Reg` for every register. -/

namespace Sys2Proof.Machine

/-! Block CRY: the fields of its register tables. -/

def CRY_CTRL_ENABLE : Fld := ⟨0xf00a00000000, 1, 0, []⟩
def CRY_CTRL_LOCK : Fld := ⟨0xf00a00000001, 1, 0, []⟩
def CRY_STATUS_GEN_CHANGE : Fld := ⟨0xf00a00000400, 1, 0, []⟩
def CRY_STATUS_LIMIT_HELD : Fld := ⟨0xf00a00000401, 1, 0, []⟩
def CRY_STATUS_KEY_ABSENT : Fld := ⟨0xf00a00000402, 1, 0, []⟩
def CRY_STATUS_AUTH_FAIL : Fld := ⟨0xf00a00000403, 1, 0, []⟩
def CRY_STATUS_ENTROPY_FAIL : Fld := ⟨0xf00a00000404, 1, 0, []⟩
def CRY_STATUS_GCM_EXHAUSTED : Fld := ⟨0xf00a00000405, 1, 0, []⟩
def CRY_INT_EN_EN : Fld := ⟨0xf00a00000800, 6, 0, []⟩
def CRY_XTS_LIMIT_LIMIT : Fld := ⟨0xf00a00001000, 48, 0x10000000000, []⟩
def CRY_ENT_OK : Fld := ⟨0xf00a00001800, 1, 0, []⟩
def CRY_ENT_RCT_CNT : Fld := ⟨0xf00a00001808, 8, 0, []⟩
def CRY_ENT_APT_CNT : Fld := ⟨0xf00a00001810, 8, 0, []⟩
def CRY_KCMDn_CTL_OP : Fld := ⟨0xf00a00010000, 8, 0, []⟩
def CRY_KCMDn_CTL_GO : Fld := ⟨0xf00a00010008, 1, 0, []⟩
def CRY_KCMDn_CTL_RESULT : Fld := ⟨0xf00a0001000c, 4, 0, []⟩
def CRY_KCMDn_CTL_DONE : Fld := ⟨0xf00a00010010, 1, 0, []⟩
def CRY_CNTn_COUNT : Fld := ⟨0xf00a00020000, 64, 0, []⟩
def CRY_GEN_PENDINGi_PENDING : Fld := ⟨0xf00a00040000, 64, 0, []⟩
def CRY_DKd_CFG_GEN : Fld := ⟨0xf00a00200000, 32, 0, []⟩
def CRY_DKd_CFG_LABEL_LEN : Fld := ⟨0xf00a00200020, 6, 0, []⟩
def CRY_DKd_CFG_STATE : Fld := ⟨0xf00a00200026, 2, 0, []⟩
def CRY_GCMn_CTL_OP : Fld := ⟨0xf00a00300000, 2, 0, []⟩
def CRY_GCMn_CTL_GO : Fld := ⟨0xf00a00300002, 1, 0, []⟩
def CRY_GCMn_CTL_RESULT : Fld := ⟨0xf00a00300004, 4, 0, []⟩
def CRY_GCMn_CTL_DONE : Fld := ⟨0xf00a00300008, 1, 0, []⟩
def CRY_GCMn_KEY_DK : Fld := ⟨0xf00a00300400, 6, 0, []⟩
def CRY_GCMn_KEY_AAD_LEN : Fld := ⟨0xf00a00300406, 13, 0, []⟩
def CRY_GCMn_NONCE_NONCE : Fld := ⟨0xf00a00300800, 96, 0, []⟩
def CRY_GCMn_LEN_LEN : Fld := ⟨0xf00a00303000, 25, 0, []⟩
def CRY_GCMn_AAD_ADDR : Fld := ⟨0xf00a00301800, 48, 0, []⟩
def CRY_SLOTs_STATE_VALID0 : Fld := ⟨0xf00a01000000, 1, 0, []⟩
def CRY_SLOTs_STATE_VALID1 : Fld := ⟨0xf00a01000001, 1, 0, []⟩
def CRY_SLOTs_STATE_CUR : Fld := ⟨0xf00a01000002, 1, 0, []⟩
def CRY_SLOTs_STATE_OLD_VALID : Fld := ⟨0xf00a01000003, 1, 0, []⟩
def CRY_SLOTs_STATE_HELD : Fld := ⟨0xf00a01000004, 1, 0, []⟩
def CRY_SLOTs_STATE_COUNT : Fld := ⟨0xf00a01000010, 48, 0, []⟩
def CRY_KCMDn_ARG0_SLOT : Fld := ⟨0xf00a00010800, 12, 0, []⟩
def CRY_KCMDn_ARG1_ADDR : Fld := ⟨0xf00a00011000, 48, 0, []⟩
def CRY_DKd_COUNT_COUNT : Fld := ⟨0xf00a00200800, 33, 0, []⟩
def CRY_DKd_LABEL_LABEL : Fld := ⟨0xf00a00201000, 64, 0, []⟩
def CRY_GCMn_IN_ADDR : Fld := ⟨0xf00a00302000, 48, 0, []⟩
def CRY_GCMn_OUT_ADDR : Fld := ⟨0xf00a00302800, 48, 0, []⟩
def CRY_GCMn_TAG_ADDR : Fld := ⟨0xf00a00303800, 48, 0, []⟩

/-! Block CPR: the fields of its register tables. -/

def CPR_CTRL_ENABLE : Fld := ⟨0xf00b00000000, 1, 0, []⟩
def CPR_CTRL_LOCK : Fld := ⟨0xf00b00000001, 1, 0, []⟩
def CPR_STATUS_VERIFY_FAIL : Fld := ⟨0xf00b00000400, 1, 0, []⟩
def CPR_STATUS_INVALID : Fld := ⟨0xf00b00000401, 1, 0, []⟩
def CPR_STATUS_DATA_ERR : Fld := ⟨0xf00b00000402, 1, 0, []⟩
def CPR_STATUS_TAB_INVALID : Fld := ⟨0xf00b00000403, 1, 0, []⟩
def CPR_STATUS_LTAB_IGN : Fld := ⟨0xf00b00000404, 1, 0, []⟩
def CPR_STATUS_ENG_OFF : Fld := ⟨0xf00b00000405, 1, 0, []⟩
def CPR_INT_EN_EN : Fld := ⟨0xf00b00000800, 6, 0, []⟩
def CPR_TABSET_TAG : Fld := ⟨0xf00b00001000, 32, 0, []⟩
def CPR_ENG_OFF : Fld := ⟨0xf00b00001400, 4, 0, []⟩
def CPR_ENG_BUSY : Fld := ⟨0xf00b00001404, 4, 0, []⟩
def CPR_CNTn_COUNT : Fld := ⟨0xf00b00010000, 64, 0, []⟩
def CPR_JOBn_CTL_OP : Fld := ⟨0xf00b00100000, 2, 0, []⟩
def CPR_JOBn_CTL_GO : Fld := ⟨0xf00b00100002, 1, 0, []⟩
def CPR_JOBn_CTL_PRIO : Fld := ⟨0xf00b00100003, 1, 0, []⟩
def CPR_JOBn_CTL_RESULT : Fld := ⟨0xf00b00100004, 4, 0, []⟩
def CPR_JOBn_CTL_DONE : Fld := ⟨0xf00b00100008, 1, 0, []⟩
def CPR_JOBn_CTL_WIDTH : Fld := ⟨0xf00b00100009, 2, 0, []⟩
def CPR_JOBn_CTL_EFFORT : Fld := ⟨0xf00b0010000b, 2, 0, []⟩
def CPR_JOBn_CTL_AVOID : Fld := ⟨0xf00b0010000d, 4, 0, []⟩
def CPR_JOBn_CTL_ENGINE : Fld := ⟨0xf00b00100011, 2, 0, []⟩
def CPR_JOBn_CTL_ROWLEN : Fld := ⟨0xf00b00100013, 12, 0, []⟩
def CPR_JOBn_LEN_SRC_LEN : Fld := ⟨0xf00b00101800, 21, 0, []⟩
def CPR_JOBn_LEN_DST_LEN : Fld := ⟨0xf00b00101820, 21, 0, []⟩
def CPR_JOBn_OUT_OUT_LEN : Fld := ⟨0xf00b00102000, 21, 0, []⟩
def CPR_LTABt_W_LEN : Fld := ⟨0xf00b00040000, 64, 0, []⟩
def CPR_LTABt_W4_LEN : Fld := ⟨0xf00b00042000, 56, 0, []⟩
def CPR_LTABt_W4_VALID : Fld := ⟨0xf00b0004203f, 1, 0, []⟩
def CPR_JOBn_SRC_ADDR : Fld := ⟨0xf00b00100800, 48, 0, []⟩
def CPR_JOBn_DST_ADDR : Fld := ⟨0xf00b00101000, 48, 0, []⟩

/-! Block PWR: the fields of its register tables. -/

def PWR_CTRL_ENABLE : Fld := ⟨0xf00d00000000, 1, 0, []⟩
def PWR_CTRL_LOCK : Fld := ⟨0xf00d00000001, 1, 0, []⟩
def PWR_STATUS_FLUSH : Fld := ⟨0xf00d00000400, 1, 0, []⟩
def PWR_STATUS_THERM_CLAMP : Fld := ⟨0xf00d00000401, 1, 0, []⟩
def PWR_STATUS_OVER_BUDGET : Fld := ⟨0xf00d00000402, 1, 0, []⟩
def PWR_STATUS_HOLDUP_LOW : Fld := ⟨0xf00d00000403, 1, 0, []⟩
def PWR_STATUS_TEMP_WARN : Fld := ⟨0xf00d00000404, 1, 0, []⟩
def PWR_STATUS_HCTM : Fld := ⟨0xf00d00000405, 1, 0, []⟩
def PWR_INT_EN_EN : Fld := ⟨0xf00d00000800, 6, 0, []⟩
def PWR_CFG_CAP_W : Fld := ⟨0xf00d00001000, 9, 0x11d, []⟩
def PWR_CFG_CLAMP_C : Fld := ⟨0xf00d00001009, 7, 110, []⟩
def PWR_CFG_SHUT_C : Fld := ⟨0xf00d00001010, 7, 115, []⟩
def PWR_CFG_FLUSH_LIMIT : Fld := ⟨0xf00d00001017, 8, 25, []⟩
def PWR_STATE_PS : Fld := ⟨0xf00d00001400, 3, 0, []⟩
def PWR_STATE_P : Fld := ⟨0xf00d00001403, 3, 0, []⟩
def PWR_STATE_H : Fld := ⟨0xf00d00001406, 3, 0, []⟩
def PWR_STATE_C : Fld := ⟨0xf00d00001409, 3, 0, []⟩
def PWR_STATE_FLUSH_ACTIVE : Fld := ⟨0xf00d0000140c, 1, 0, []⟩
def PWR_STATE_CAUSE : Fld := ⟨0xf00d0000140d, 2, 0, []⟩
def PWR_POWER_AVG_MW : Fld := ⟨0xf00d00001800, 19, 0, []⟩
def PWR_HCTM_TMT1 : Fld := ⟨0xf00d00001c00, 16, 0, []⟩
def PWR_HCTM_TMT2 : Fld := ⟨0xf00d00001c10, 16, 0, []⟩
def PWR_FLUSH_CTL_DONE : Fld := ⟨0xf00d00002000, 1, 0, []⟩
def PWR_FLUSH_ENERGY_MJ : Fld := ⟨0xf00d00002400, 16, 0, []⟩
def PWR_ELEMk_TEMP_TEMP : Fld := ⟨0xf00d00010000, 12, 0, []⟩
def PWR_ELEMk_TEMP_MAX : Fld := ⟨0xf00d00010010, 12, 0, []⟩
def PWR_CNTn_COUNT : Fld := ⟨0xf00d00020000, 64, 0, []⟩
def PWR_HOLDUP_MEAS_ENERGY_MJ : Fld := ⟨0xf00d00002800, 16, 0, []⟩

/-! Block OOB: the fields of its register tables. -/

def OOB_CTRL_FW_READY : Fld := ⟨0xf00e00000000, 1, 0, []⟩
def OOB_CTRL_LOCK : Fld := ⟨0xf00e00000001, 1, 0, []⟩
def OOB_STATUS_SMB_SWAPPED : Fld := ⟨0xf00e00000400, 1, 0, []⟩
def OOB_STATUS_SMB_TIMEOUT : Fld := ⟨0xf00e00000401, 1, 0, []⟩
def OOB_STATUS_MIC_FAIL : Fld := ⟨0xf00e00000402, 1, 0, []⟩
def OOB_STATUS_SLOT_FULL : Fld := ⟨0xf00e00000403, 1, 0, []⟩
def OOB_STATUS_ALERT : Fld := ⟨0xf00e00000404, 1, 0, []⟩
def OOB_INT_EN_EN : Fld := ⟨0xf00e00000800, 5, 0, []⟩
def OOB_CFG_BASIC_ADDR : Fld := ⟨0xf00e00001000, 7, 106, []⟩
def OOB_CFG_FREQ : Fld := ⟨0xf00e00001007, 2, 2, []⟩
def OOB_CFG_VDM_EN : Fld := ⟨0xf00e00001009, 1, 1, []⟩
def OOB_CFG_SMB_EN : Fld := ⟨0xf00e0000100a, 1, 1, []⟩
def OOB_ADDR_SMB_ADDR : Fld := ⟨0xf00e00001400, 7, 0, []⟩
def OOB_ADDR_EID0 : Fld := ⟨0xf00e00001408, 8, 0, []⟩
def OOB_ADDR_EID1 : Fld := ⟨0xf00e00001410, 8, 0, []⟩
def OOB_HEALTH_CW : Fld := ⟨0xf00e00001800, 8, 0, []⟩
def OOB_HEALTH_PDLU : Fld := ⟨0xf00e00001808, 8, 0, []⟩
def OOB_CNTn_COUNT : Fld := ⟨0xf00e00010000, 64, 0, []⟩

/-! Block FLT: the fields of its register tables. -/

def FLT_CTRL_LOCK : Fld := ⟨0xf00f00000000, 1, 0, []⟩
def FLT_CTRL_RESTART : Fld := ⟨0xf00f00000001, 1, 0, []⟩
def FLT_STATUS_LASTING : Fld := ⟨0xf00f00000400, 1, 0, []⟩
def FLT_STATUS_FATAL : Fld := ⟨0xf00f00000401, 1, 0, []⟩
def FLT_STATUS_TRACK_FULL : Fld := ⟨0xf00f00000402, 1, 0, []⟩
def FLT_INT_EN_EN : Fld := ⟨0xf00f00000800, 3, 0, []⟩
def FLT_FATAL_ACTIVE : Fld := ⟨0xf00f00001000, 1, 0, []⟩
def FLT_FATAL_CAUSE : Fld := ⟨0xf00f00001001, 3, 0, []⟩
def FLT_FATAL_AUTO_S : Fld := ⟨0xf00f00001010, 16, 10, []⟩
def FLT_LAST_ELEMENT : Fld := ⟨0xf00f00001800, 16, 0, []⟩
def FLT_LAST_CLASS : Fld := ⟨0xf00f00001810, 4, 0, []⟩
def FLT_CLEAR_ELEMENT : Fld := ⟨0xf00f00001c00, 16, 0, []⟩
def FLT_LOG_SEQ_SEQ : Fld := ⟨0xf00f00002000, 32, 0, []⟩
def FLT_APPEND_CAUSE : Fld := ⟨0xf00f00003000, 16, 0, []⟩
def FLT_APPEND_ELEMENT : Fld := ⟨0xf00f00003010, 16, 0, []⟩
def FLT_CLASSc_CFG_N : Fld := ⟨0xf00f00010000, 8, 16, [16, 4, 4, 3, 8, 3, 2, 3, 0, 0]⟩
def FLT_CLASSc_CFG_LOG : Fld := ⟨0xf00f00010008, 1, 0, [0, 1, 1, 1, 0, 0, 1, 1, 1, 1]⟩
def FLT_CLASSc_CFG_W_MS : Fld := ⟨0xf00f00010020, 32, 0xea60, [0xea60, 0x927c0, 0x2710, 0x36ee80, 0x3e8, 0x5265c00, 0x5265c00, 0xea60, 1, 1]⟩
def FLT_WORDi_GROUP : Fld := ⟨0xf00f00040000, 6, 0, []⟩
def FLT_WORDi_VALID : Fld := ⟨0xf00f00040006, 1, 0, []⟩
def FLT_WORDi_WORD : Fld := ⟨0xf00f00040008, 19, 0, []⟩
def FLT_WORDi_WIN_CNT : Fld := ⟨0xf00f00040020, 8, 0, []⟩
def FLT_ELEMe_WIN_CNT : Fld := ⟨0xf00f01000000, 8, 0, []⟩
def FLT_ELEMe_LASTING : Fld := ⟨0xf00f01000008, 1, 0, []⟩
def FLT_ELEMe_TOTAL : Fld := ⟨0xf00f01000010, 16, 0, []⟩
def FLT_ELEMe_T0 : Fld := ⟨0xf00f01000020, 32, 0, []⟩
def FLT_APPEND_DATA_V : Fld := ⟨0xf00f00002800, 64, 0, []⟩
def FLT_LOGi_V : Fld := ⟨0xf00f00800000, 64, 0, []⟩

def CRY_CTRLReg : Reg := ⟨"CRY_CTRL", 0xf00a000000, 4, 0, 1, 0, 1, (some CRY_CTRL_LOCK), [⟨0, .rw, .any, CRY_CTRL_ENABLE⟩,
  ⟨1, .w1s, .any, CRY_CTRL_LOCK⟩]⟩
def CRY_STATUSReg : Reg := ⟨"CRY_STATUS", 0xf00a000004, 4, 0, 1, 0, 1, (some CRY_CTRL_LOCK), [⟨0, .w1c, .any, CRY_STATUS_GEN_CHANGE⟩,
  ⟨1, .w1c, .any, CRY_STATUS_LIMIT_HELD⟩,
  ⟨2, .w1c, .any, CRY_STATUS_KEY_ABSENT⟩,
  ⟨3, .w1c, .any, CRY_STATUS_AUTH_FAIL⟩,
  ⟨4, .w1c, .any, CRY_STATUS_ENTROPY_FAIL⟩,
  ⟨5, .w1c, .any, CRY_STATUS_GCM_EXHAUSTED⟩]⟩
def CRY_INT_ENReg : Reg := ⟨"CRY_INT_EN", 0xf00a000008, 4, 0, 1, 0, 1, (some CRY_CTRL_LOCK), [⟨0, .rw, .any, CRY_INT_EN_EN⟩]⟩
def CRY_XTS_LIMITReg : Reg := ⟨"CRY_XTS_LIMIT", 0xf00a000010, 8, 0, 1, 0, 1, (some CRY_CTRL_LOCK), [⟨0, .rwl, .range 1048576 281474976710655, CRY_XTS_LIMIT_LIMIT⟩]⟩
def CRY_ENTReg : Reg := ⟨"CRY_ENT", 0xf00a000018, 4, 0, 1, 0, 1, (some CRY_CTRL_LOCK), [⟨0, .ro, .any, CRY_ENT_OK⟩,
  ⟨8, .ro, .any, CRY_ENT_RCT_CNT⟩,
  ⟨16, .ro, .any, CRY_ENT_APT_CNT⟩]⟩
def CRY_KCMDn_CTLReg : Reg := ⟨"CRY_KCMDn_CTL", 0xf00a000100, 4, 32, 4, 0, 1, (some CRY_CTRL_LOCK), [⟨0, .rw, .any, CRY_KCMDn_CTL_OP⟩,
  ⟨8, .own, .any, CRY_KCMDn_CTL_GO⟩,
  ⟨12, .ro, .any, CRY_KCMDn_CTL_RESULT⟩,
  ⟨16, .w1c, .any, CRY_KCMDn_CTL_DONE⟩]⟩
def CRY_CNTnReg : Reg := ⟨"CRY_CNTn", 0xf00a000200, 8, 8, 6, 0, 1, (some CRY_CTRL_LOCK), [⟨0, .ro, .any, CRY_CNTn_COUNT⟩]⟩
def CRY_GEN_PENDINGiReg : Reg := ⟨"CRY_GEN_PENDINGi", 0xf00a000400, 8, 8, 64, 0, 1, (some CRY_CTRL_LOCK), [⟨0, .w1c, .any, CRY_GEN_PENDINGi_PENDING⟩]⟩
def CRY_DKd_CFGReg : Reg := ⟨"CRY_DKd_CFG", 0xf00a002000, 8, 64, 64, 0, 1, (some CRY_CTRL_LOCK), [⟨0, .rw, .any, CRY_DKd_CFG_GEN⟩,
  ⟨32, .rw, .range 1 32, CRY_DKd_CFG_LABEL_LEN⟩,
  ⟨38, .ro, .any, CRY_DKd_CFG_STATE⟩]⟩
def CRY_GCMn_CTLReg : Reg := ⟨"CRY_GCMn_CTL", 0xf00a003000, 4, 64, 16, 0, 1, (some CRY_CTRL_LOCK), [⟨0, .rw, .range 1 2, CRY_GCMn_CTL_OP⟩,
  ⟨2, .own, .any, CRY_GCMn_CTL_GO⟩,
  ⟨4, .ro, .any, CRY_GCMn_CTL_RESULT⟩,
  ⟨8, .w1c, .any, CRY_GCMn_CTL_DONE⟩]⟩
def CRY_GCMn_KEYReg : Reg := ⟨"CRY_GCMn_KEY", 0xf00a003004, 4, 64, 16, 0, 1, (some CRY_CTRL_LOCK), [⟨0, .rw, .any, CRY_GCMn_KEY_DK⟩,
  ⟨6, .rw, .any, CRY_GCMn_KEY_AAD_LEN⟩]⟩
def CRY_GCMn_NONCEReg : Reg := ⟨"CRY_GCMn_NONCE", 0xf00a003008, 16, 64, 16, 0, 1, (some CRY_CTRL_LOCK), [⟨0, .rw, .any, CRY_GCMn_NONCE_NONCE⟩]⟩
def CRY_GCMn_LENReg : Reg := ⟨"CRY_GCMn_LEN", 0xf00a003030, 4, 64, 16, 0, 1, (some CRY_CTRL_LOCK), [⟨0, .rw, .any, CRY_GCMn_LEN_LEN⟩]⟩
def CRY_GCMn_AADReg : Reg := ⟨"CRY_GCMn_AAD", 0xf00a003018, 8, 64, 16, 0, 1, (some CRY_CTRL_LOCK), [⟨0, .rw, .any, CRY_GCMn_AAD_ADDR⟩]⟩
def CRY_SLOTs_STATEReg : Reg := ⟨"CRY_SLOTs_STATE", 0xf00a010000, 8, 16, 4096, 0, 1, (some CRY_CTRL_LOCK), [⟨0, .ro, .any, CRY_SLOTs_STATE_VALID0⟩,
  ⟨1, .ro, .any, CRY_SLOTs_STATE_VALID1⟩,
  ⟨2, .ro, .any, CRY_SLOTs_STATE_CUR⟩,
  ⟨3, .ro, .any, CRY_SLOTs_STATE_OLD_VALID⟩,
  ⟨4, .ro, .any, CRY_SLOTs_STATE_HELD⟩,
  ⟨16, .ro, .any, CRY_SLOTs_STATE_COUNT⟩]⟩
def CRY_KCMDn_ARG0Reg : Reg := ⟨"CRY_KCMDn_ARG0", 0xf00a000108, 4, 32, 4, 0, 1, (some CRY_CTRL_LOCK), [⟨0, .rw, .any, CRY_KCMDn_ARG0_SLOT⟩]⟩
def CRY_KCMDn_ARG1Reg : Reg := ⟨"CRY_KCMDn_ARG1", 0xf00a000110, 8, 32, 4, 0, 1, (some CRY_CTRL_LOCK), [⟨0, .rw, .special, CRY_KCMDn_ARG1_ADDR⟩]⟩
def CRY_DKd_COUNTReg : Reg := ⟨"CRY_DKd_COUNT", 0xf00a002008, 8, 64, 64, 0, 1, (some CRY_CTRL_LOCK), [⟨0, .ro, .any, CRY_DKd_COUNT_COUNT⟩]⟩
def CRY_DKd_LABELReg : Reg := ⟨"CRY_DKd_LABEL", 0xf00a002010, 8, 64, 64, 8, 4, (some CRY_CTRL_LOCK), [⟨0, .rw, .any, CRY_DKd_LABEL_LABEL⟩]⟩
def CRY_GCMn_INReg : Reg := ⟨"CRY_GCMn_IN", 0xf00a003020, 8, 64, 16, 0, 1, (some CRY_CTRL_LOCK), [⟨0, .rw, .any, CRY_GCMn_IN_ADDR⟩]⟩
def CRY_GCMn_OUTReg : Reg := ⟨"CRY_GCMn_OUT", 0xf00a003028, 8, 64, 16, 0, 1, (some CRY_CTRL_LOCK), [⟨0, .rw, .any, CRY_GCMn_OUT_ADDR⟩]⟩
def CRY_GCMn_TAGReg : Reg := ⟨"CRY_GCMn_TAG", 0xf00a003038, 8, 64, 16, 0, 1, (some CRY_CTRL_LOCK), [⟨0, .rw, .any, CRY_GCMn_TAG_ADDR⟩]⟩
def CPR_CTRLReg : Reg := ⟨"CPR_CTRL", 0xf00b000000, 4, 0, 1, 0, 1, (some CPR_CTRL_LOCK), [⟨0, .rw, .any, CPR_CTRL_ENABLE⟩,
  ⟨1, .w1s, .any, CPR_CTRL_LOCK⟩]⟩
def CPR_STATUSReg : Reg := ⟨"CPR_STATUS", 0xf00b000004, 4, 0, 1, 0, 1, (some CPR_CTRL_LOCK), [⟨0, .w1c, .any, CPR_STATUS_VERIFY_FAIL⟩,
  ⟨1, .w1c, .any, CPR_STATUS_INVALID⟩,
  ⟨2, .w1c, .any, CPR_STATUS_DATA_ERR⟩,
  ⟨3, .w1c, .any, CPR_STATUS_TAB_INVALID⟩,
  ⟨4, .w1c, .any, CPR_STATUS_LTAB_IGN⟩,
  ⟨5, .w1c, .any, CPR_STATUS_ENG_OFF⟩]⟩
def CPR_INT_ENReg : Reg := ⟨"CPR_INT_EN", 0xf00b000008, 4, 0, 1, 0, 1, (some CPR_CTRL_LOCK), [⟨0, .rw, .any, CPR_INT_EN_EN⟩]⟩
def CPR_TABSETReg : Reg := ⟨"CPR_TABSET", 0xf00b000010, 4, 0, 1, 0, 1, (some CPR_CTRL_LOCK), [⟨0, .rw, .any, CPR_TABSET_TAG⟩]⟩
def CPR_ENGReg : Reg := ⟨"CPR_ENG", 0xf00b000014, 4, 0, 1, 0, 1, (some CPR_CTRL_LOCK), [⟨0, .ro, .any, CPR_ENG_OFF⟩,
  ⟨4, .ro, .any, CPR_ENG_BUSY⟩]⟩
def CPR_CNTnReg : Reg := ⟨"CPR_CNTn", 0xf00b000100, 8, 8, 6, 0, 1, (some CPR_CTRL_LOCK), [⟨0, .ro, .any, CPR_CNTn_COUNT⟩]⟩
def CPR_JOBn_CTLReg : Reg := ⟨"CPR_JOBn_CTL", 0xf00b001000, 4, 64, 16, 0, 1, (some CPR_CTRL_LOCK), [⟨0, .rw, .range 1 2, CPR_JOBn_CTL_OP⟩,
  ⟨2, .own, .any, CPR_JOBn_CTL_GO⟩,
  ⟨3, .rw, .any, CPR_JOBn_CTL_PRIO⟩,
  ⟨4, .ro, .any, CPR_JOBn_CTL_RESULT⟩,
  ⟨8, .w1c, .any, CPR_JOBn_CTL_DONE⟩,
  ⟨9, .rw, .any, CPR_JOBn_CTL_WIDTH⟩,
  ⟨11, .rw, .any, CPR_JOBn_CTL_EFFORT⟩,
  ⟨13, .rw, .any, CPR_JOBn_CTL_AVOID⟩,
  ⟨17, .ro, .any, CPR_JOBn_CTL_ENGINE⟩,
  ⟨19, .rw, .any, CPR_JOBn_CTL_ROWLEN⟩]⟩
def CPR_JOBn_LENReg : Reg := ⟨"CPR_JOBn_LEN", 0xf00b001018, 8, 64, 16, 0, 1, (some CPR_CTRL_LOCK), [⟨0, .rw, .any, CPR_JOBn_LEN_SRC_LEN⟩,
  ⟨32, .rw, .any, CPR_JOBn_LEN_DST_LEN⟩]⟩
def CPR_JOBn_OUTReg : Reg := ⟨"CPR_JOBn_OUT", 0xf00b001020, 4, 64, 16, 0, 1, (some CPR_CTRL_LOCK), [⟨0, .ro, .any, CPR_JOBn_OUT_OUT_LEN⟩]⟩
def CPR_LTABt_WReg : Reg := ⟨"CPR_LTABt_W", 0xf00b000400, 8, 64, 8, 8, 4, (some CPR_CTRL_LOCK), [⟨0, .ltab, .any, CPR_LTABt_W_LEN⟩]⟩
def CPR_LTABt_W4Reg : Reg := ⟨"CPR_LTABt_W4", 0xf00b000420, 8, 64, 8, 0, 1, (some CPR_CTRL_LOCK), [⟨0, .ltab, .any, CPR_LTABt_W4_LEN⟩,
  ⟨63, .ltab, .any, CPR_LTABt_W4_VALID⟩]⟩
def CPR_JOBn_SRCReg : Reg := ⟨"CPR_JOBn_SRC", 0xf00b001008, 8, 64, 16, 0, 1, (some CPR_CTRL_LOCK), [⟨0, .rw, .any, CPR_JOBn_SRC_ADDR⟩]⟩
def CPR_JOBn_DSTReg : Reg := ⟨"CPR_JOBn_DST", 0xf00b001010, 8, 64, 16, 0, 1, (some CPR_CTRL_LOCK), [⟨0, .rw, .any, CPR_JOBn_DST_ADDR⟩]⟩
def PWR_CTRLReg : Reg := ⟨"PWR_CTRL", 0xf00d000000, 4, 0, 1, 0, 1, (some PWR_CTRL_LOCK), [⟨0, .rw, .any, PWR_CTRL_ENABLE⟩,
  ⟨1, .w1s, .any, PWR_CTRL_LOCK⟩]⟩
def PWR_STATUSReg : Reg := ⟨"PWR_STATUS", 0xf00d000004, 4, 0, 1, 0, 1, (some PWR_CTRL_LOCK), [⟨0, .w1c, .any, PWR_STATUS_FLUSH⟩,
  ⟨1, .w1c, .any, PWR_STATUS_THERM_CLAMP⟩,
  ⟨2, .w1c, .any, PWR_STATUS_OVER_BUDGET⟩,
  ⟨3, .w1c, .any, PWR_STATUS_HOLDUP_LOW⟩,
  ⟨4, .w1c, .any, PWR_STATUS_TEMP_WARN⟩,
  ⟨5, .w1c, .any, PWR_STATUS_HCTM⟩]⟩
def PWR_INT_ENReg : Reg := ⟨"PWR_INT_EN", 0xf00d000008, 4, 0, 1, 0, 1, (some PWR_CTRL_LOCK), [⟨0, .rw, .any, PWR_INT_EN_EN⟩]⟩
def PWR_CFGReg : Reg := ⟨"PWR_CFG", 0xf00d000010, 4, 0, 1, 0, 1, (some PWR_CTRL_LOCK), [⟨0, .rwl, .range 100 285, PWR_CFG_CAP_W⟩,
  ⟨9, .rwl, .range 100 114, PWR_CFG_CLAMP_C⟩,
  ⟨16, .rwl, .range 105 115, PWR_CFG_SHUT_C⟩,
  ⟨23, .rwl, .range 5 100, PWR_CFG_FLUSH_LIMIT⟩]⟩
def PWR_STATEReg : Reg := ⟨"PWR_STATE", 0xf00d000014, 4, 0, 1, 0, 1, (some PWR_CTRL_LOCK), [⟨0, .ro, .any, PWR_STATE_PS⟩,
  ⟨3, .ro, .any, PWR_STATE_P⟩,
  ⟨6, .ro, .any, PWR_STATE_H⟩,
  ⟨9, .ro, .any, PWR_STATE_C⟩,
  ⟨12, .ro, .any, PWR_STATE_FLUSH_ACTIVE⟩,
  ⟨13, .ro, .any, PWR_STATE_CAUSE⟩]⟩
def PWR_POWERReg : Reg := ⟨"PWR_POWER", 0xf00d000018, 4, 0, 1, 0, 1, (some PWR_CTRL_LOCK), [⟨0, .ro, .any, PWR_POWER_AVG_MW⟩]⟩
def PWR_HCTMReg : Reg := ⟨"PWR_HCTM", 0xf00d00001c, 4, 0, 1, 0, 1, (some PWR_CTRL_LOCK), [⟨0, .rw, .any, PWR_HCTM_TMT1⟩,
  ⟨16, .rw, .any, PWR_HCTM_TMT2⟩]⟩
def PWR_FLUSH_CTLReg : Reg := ⟨"PWR_FLUSH_CTL", 0xf00d000020, 4, 0, 1, 0, 1, (some PWR_CTRL_LOCK), [⟨0, .own, .any, PWR_FLUSH_CTL_DONE⟩]⟩
def PWR_FLUSH_ENERGYReg : Reg := ⟨"PWR_FLUSH_ENERGY", 0xf00d000024, 4, 0, 1, 0, 1, (some PWR_CTRL_LOCK), [⟨0, .ro, .any, PWR_FLUSH_ENERGY_MJ⟩]⟩
def PWR_ELEMk_TEMPReg : Reg := ⟨"PWR_ELEMk_TEMP", 0xf00d000100, 4, 4, 32, 0, 1, (some PWR_CTRL_LOCK), [⟨0, .ro, .any, PWR_ELEMk_TEMP_TEMP⟩,
  ⟨16, .rc, .any, PWR_ELEMk_TEMP_MAX⟩]⟩
def PWR_CNTnReg : Reg := ⟨"PWR_CNTn", 0xf00d000200, 8, 8, 8, 0, 1, (some PWR_CTRL_LOCK), [⟨0, .ro, .any, PWR_CNTn_COUNT⟩]⟩
def PWR_HOLDUP_MEASReg : Reg := ⟨"PWR_HOLDUP_MEAS", 0xf00d000028, 4, 0, 1, 0, 1, (some PWR_CTRL_LOCK), [⟨0, .own, .any, PWR_HOLDUP_MEAS_ENERGY_MJ⟩]⟩
def OOB_CTRLReg : Reg := ⟨"OOB_CTRL", 0xf00e000000, 4, 0, 1, 0, 1, (some OOB_CTRL_LOCK), [⟨0, .own, .any, OOB_CTRL_FW_READY⟩,
  ⟨1, .w1s, .any, OOB_CTRL_LOCK⟩]⟩
def OOB_STATUSReg : Reg := ⟨"OOB_STATUS", 0xf00e000004, 4, 0, 1, 0, 1, (some OOB_CTRL_LOCK), [⟨0, .w1c, .any, OOB_STATUS_SMB_SWAPPED⟩,
  ⟨1, .w1c, .any, OOB_STATUS_SMB_TIMEOUT⟩,
  ⟨2, .w1c, .any, OOB_STATUS_MIC_FAIL⟩,
  ⟨3, .w1c, .any, OOB_STATUS_SLOT_FULL⟩,
  ⟨4, .w1c, .any, OOB_STATUS_ALERT⟩]⟩
def OOB_INT_ENReg : Reg := ⟨"OOB_INT_EN", 0xf00e000008, 4, 0, 1, 0, 1, (some OOB_CTRL_LOCK), [⟨0, .rw, .any, OOB_INT_EN_EN⟩]⟩
def OOB_CFGReg : Reg := ⟨"OOB_CFG", 0xf00e000010, 4, 0, 1, 0, 1, (some OOB_CTRL_LOCK), [⟨0, .rwl, .any, OOB_CFG_BASIC_ADDR⟩,
  ⟨7, .rwl, .range 0 2, OOB_CFG_FREQ⟩,
  ⟨9, .rwl, .any, OOB_CFG_VDM_EN⟩,
  ⟨10, .rwl, .any, OOB_CFG_SMB_EN⟩]⟩
def OOB_ADDRReg : Reg := ⟨"OOB_ADDR", 0xf00e000014, 4, 0, 1, 0, 1, (some OOB_CTRL_LOCK), [⟨0, .ro, .any, OOB_ADDR_SMB_ADDR⟩,
  ⟨8, .ro, .any, OOB_ADDR_EID0⟩,
  ⟨16, .ro, .any, OOB_ADDR_EID1⟩]⟩
def OOB_HEALTHReg : Reg := ⟨"OOB_HEALTH", 0xf00e000018, 4, 0, 1, 0, 1, (some OOB_CTRL_LOCK), [⟨0, .rw, .any, OOB_HEALTH_CW⟩,
  ⟨8, .rw, .any, OOB_HEALTH_PDLU⟩]⟩
def OOB_CNTnReg : Reg := ⟨"OOB_CNTn", 0xf00e000100, 8, 8, 6, 0, 1, (some OOB_CTRL_LOCK), [⟨0, .ro, .any, OOB_CNTn_COUNT⟩]⟩
def FLT_CTRLReg : Reg := ⟨"FLT_CTRL", 0xf00f000000, 4, 0, 1, 0, 1, (some FLT_CTRL_LOCK), [⟨0, .w1s, .any, FLT_CTRL_LOCK⟩,
  ⟨1, .own, .any, FLT_CTRL_RESTART⟩]⟩
def FLT_STATUSReg : Reg := ⟨"FLT_STATUS", 0xf00f000004, 4, 0, 1, 0, 1, (some FLT_CTRL_LOCK), [⟨0, .w1c, .any, FLT_STATUS_LASTING⟩,
  ⟨1, .w1c, .any, FLT_STATUS_FATAL⟩,
  ⟨2, .w1c, .any, FLT_STATUS_TRACK_FULL⟩]⟩
def FLT_INT_ENReg : Reg := ⟨"FLT_INT_EN", 0xf00f000008, 4, 0, 1, 0, 1, (some FLT_CTRL_LOCK), [⟨0, .rw, .any, FLT_INT_EN_EN⟩]⟩
def FLT_FATALReg : Reg := ⟨"FLT_FATAL", 0xf00f000010, 4, 0, 1, 0, 1, (some FLT_CTRL_LOCK), [⟨0, .ro, .any, FLT_FATAL_ACTIVE⟩,
  ⟨1, .ro, .any, FLT_FATAL_CAUSE⟩,
  ⟨16, .rwl, .any, FLT_FATAL_AUTO_S⟩]⟩
def FLT_LASTReg : Reg := ⟨"FLT_LAST", 0xf00f000018, 4, 0, 1, 0, 1, (some FLT_CTRL_LOCK), [⟨0, .ro, .any, FLT_LAST_ELEMENT⟩,
  ⟨16, .ro, .any, FLT_LAST_CLASS⟩]⟩
def FLT_CLEARReg : Reg := ⟨"FLT_CLEAR", 0xf00f00001c, 4, 0, 1, 0, 1, (some FLT_CTRL_LOCK), [⟨0, .own, .any, FLT_CLEAR_ELEMENT⟩]⟩
def FLT_LOG_SEQReg : Reg := ⟨"FLT_LOG_SEQ", 0xf00f000020, 4, 0, 1, 0, 1, (some FLT_CTRL_LOCK), [⟨0, .ro, .any, FLT_LOG_SEQ_SEQ⟩]⟩
def FLT_APPENDReg : Reg := ⟨"FLT_APPEND", 0xf00f000030, 4, 0, 1, 0, 1, (some FLT_CTRL_LOCK), [⟨0, .own, .any, FLT_APPEND_CAUSE⟩,
  ⟨16, .own, .any, FLT_APPEND_ELEMENT⟩]⟩
def FLT_CLASSc_CFGReg : Reg := ⟨"FLT_CLASSc_CFG", 0xf00f000100, 8, 16, 10, 0, 1, (some FLT_CTRL_LOCK), [⟨0, .rwl, .any, FLT_CLASSc_CFG_N⟩,
  ⟨8, .rwl, .any, FLT_CLASSc_CFG_LOG⟩,
  ⟨32, .rwl, .range 1 2147483647, FLT_CLASSc_CFG_W_MS⟩]⟩
def FLT_WORDiReg : Reg := ⟨"FLT_WORDi", 0xf00f000400, 8, 8, 64, 0, 1, (some FLT_CTRL_LOCK), [⟨0, .ro, .any, FLT_WORDi_GROUP⟩,
  ⟨6, .ro, .any, FLT_WORDi_VALID⟩,
  ⟨8, .ro, .any, FLT_WORDi_WORD⟩,
  ⟨32, .ro, .any, FLT_WORDi_WIN_CNT⟩]⟩
def FLT_ELEMeReg : Reg := ⟨"FLT_ELEMe", 0xf00f010000, 8, 8, 16384, 0, 1, (some FLT_CTRL_LOCK), [⟨0, .ro, .any, FLT_ELEMe_WIN_CNT⟩,
  ⟨8, .ro, .any, FLT_ELEMe_LASTING⟩,
  ⟨16, .ro, .any, FLT_ELEMe_TOTAL⟩,
  ⟨32, .ro, .any, FLT_ELEMe_T0⟩]⟩
def FLT_APPEND_DATAReg : Reg := ⟨"FLT_APPEND_DATA", 0xf00f000028, 8, 0, 1, 0, 1, (some FLT_CTRL_LOCK), [⟨0, .rw, .any, FLT_APPEND_DATA_V⟩]⟩
def FLT_LOGiReg : Reg := ⟨"FLT_LOGi", 0xf00f008000, 8, 32, 1024, 8, 4, (some FLT_CTRL_LOCK), [⟨0, .ro, .any, FLT_LOGi_V⟩]⟩

/-- The registers of block CRY. -/
def regsCRY : List Reg := [
  CRY_CTRLReg, CRY_STATUSReg, CRY_INT_ENReg, CRY_XTS_LIMITReg, CRY_ENTReg,
  CRY_KCMDn_CTLReg, CRY_CNTnReg, CRY_GEN_PENDINGiReg, CRY_DKd_CFGReg, CRY_GCMn_CTLReg,
  CRY_GCMn_KEYReg, CRY_GCMn_NONCEReg, CRY_GCMn_LENReg, CRY_GCMn_AADReg, CRY_SLOTs_STATEReg,
  CRY_KCMDn_ARG0Reg, CRY_KCMDn_ARG1Reg, CRY_DKd_COUNTReg, CRY_DKd_LABELReg, CRY_GCMn_INReg,
  CRY_GCMn_OUTReg, CRY_GCMn_TAGReg]

/-- The registers of block CPR. -/
def regsCPR : List Reg := [
  CPR_CTRLReg, CPR_STATUSReg, CPR_INT_ENReg, CPR_TABSETReg, CPR_ENGReg,
  CPR_CNTnReg, CPR_JOBn_CTLReg, CPR_JOBn_LENReg, CPR_JOBn_OUTReg, CPR_LTABt_WReg,
  CPR_LTABt_W4Reg, CPR_JOBn_SRCReg, CPR_JOBn_DSTReg]

/-- The registers of block PWR. -/
def regsPWR : List Reg := [
  PWR_CTRLReg, PWR_STATUSReg, PWR_INT_ENReg, PWR_CFGReg, PWR_STATEReg,
  PWR_POWERReg, PWR_HCTMReg, PWR_FLUSH_CTLReg, PWR_FLUSH_ENERGYReg, PWR_ELEMk_TEMPReg,
  PWR_CNTnReg, PWR_HOLDUP_MEASReg]

/-- The registers of block OOB. -/
def regsOOB : List Reg := [
  OOB_CTRLReg, OOB_STATUSReg, OOB_INT_ENReg, OOB_CFGReg, OOB_ADDRReg,
  OOB_HEALTHReg, OOB_CNTnReg]

/-- The registers of block FLT. -/
def regsFLT : List Reg := [
  FLT_CTRLReg, FLT_STATUSReg, FLT_INT_ENReg, FLT_FATALReg, FLT_LASTReg,
  FLT_CLEARReg, FLT_LOG_SEQReg, FLT_APPENDReg, FLT_CLASSc_CFGReg, FLT_WORDiReg,
  FLT_ELEMeReg, FLT_APPEND_DATAReg, FLT_LOGiReg]

end Sys2Proof.Machine
end

