-- ==== Sys2Proof/Machine/RegTabE.lean ====
section
/-! DEFINITION. What a host sees of a function as registers: the controller registers of BAR0 (R213), the mailbox page
of BAR2 (R333), the MSI-X table and PBA of BAR4 (R200), and the writable fields of configuration space (R194 to R196,
R211; their places within the capabilities are the base specification's, log entry 16). The first index is the
function, the second the vector. The identity of a field is 2^48 + a section + its offset, times 256, plus its low
bit, so that it meets no address of the internal bus. -/

namespace Sys2Proof.Machine

def NVME_INTM_BIT : Fld := ⟨0x100000000000c00, 1, 0, []⟩
def NVME_CC_EN : Fld := ⟨0x100000000001400, 1, 0, []⟩
def NVME_CC_CSS : Fld := ⟨0x100000000001404, 3, 0, []⟩
def NVME_CC_MPS : Fld := ⟨0x100000000001407, 4, 0, []⟩
def NVME_CC_AMS : Fld := ⟨0x10000000000140b, 3, 0, []⟩
def NVME_CC_SHN : Fld := ⟨0x10000000000140e, 2, 0, []⟩
def NVME_CC_IOSQES : Fld := ⟨0x100000000001410, 4, 0, []⟩
def NVME_CC_IOCQES : Fld := ⟨0x100000000001414, 4, 0, []⟩
def NVME_CSTS_RDY : Fld := ⟨0x100000000001c00, 1, 0, []⟩
def NVME_CSTS_CFS : Fld := ⟨0x100000000001c01, 1, 0, []⟩
def NVME_CSTS_SHST : Fld := ⟨0x100000000001c02, 2, 0, []⟩
def NVME_CSTS_PP : Fld := ⟨0x100000000001c05, 1, 0, []⟩
def NVME_AQA_ASQS : Fld := ⟨0x100000000002400, 12, 0, []⟩
def NVME_AQA_ACQS : Fld := ⟨0x100000000002410, 12, 0, []⟩
def NVME_ASQ_BASE : Fld := ⟨0x100000000002800, 64, 0, []⟩
def NVME_ACQ_BASE : Fld := ⟨0x100000000003000, 64, 0, []⟩
def HOST_HDB_DB : Fld := ⟨0x100000001000000, 32, 0, []⟩
def HOST_HDBMASK_MASK : Fld := ⟨0x100000001000400, 32, 0xffffffff, []⟩
def HOST_HVEC_VECTOR : Fld := ⟨0x100000001000800, 11, 0, []⟩
def HOST_HVEC_EN : Fld := ⟨0x10000000100080f, 1, 0, []⟩
def CFG_COMMAND_MSE : Fld := ⟨0x100000002000401, 1, 0, []⟩
def CFG_COMMAND_BME : Fld := ⟨0x100000002000402, 1, 0, []⟩
def CFG_COMMAND_PERR : Fld := ⟨0x100000002000406, 1, 0, []⟩
def CFG_COMMAND_SERR : Fld := ⟨0x100000002000408, 1, 0, []⟩
def CFG_COMMAND_INTDIS : Fld := ⟨0x10000000200040a, 1, 0, []⟩
def CFG_BAR0_ADDR : Fld := ⟨0x10000000200100e, 50, 0, []⟩
def CFG_BAR2_ADDR : Fld := ⟨0x100000002001810, 48, 0, []⟩
def CFG_BAR4_ADDR : Fld := ⟨0x100000002002010, 48, 0, []⟩
def CFG_INTLINE_LINE : Fld := ⟨0x100000002003c00, 8, 0, []⟩
def CFG_PMCSR_STATE : Fld := ⟨0x100000002004400, 2, 0, []⟩
def CFG_MSIX_FMASK : Fld := ⟨0x10000000200501e, 1, 0, []⟩
def CFG_MSIX_EN : Fld := ⟨0x10000000200501f, 1, 0, []⟩
def CFG_DEVCTL_CERE : Fld := ⟨0x100000002006800, 1, 0, []⟩
def CFG_DEVCTL_NFERE : Fld := ⟨0x100000002006801, 1, 0, []⟩
def CFG_DEVCTL_FERE : Fld := ⟨0x100000002006802, 1, 0, []⟩
def CFG_DEVCTL_URRE : Fld := ⟨0x100000002006803, 1, 0, []⟩
def CFG_DEVCTL_RO : Fld := ⟨0x100000002006804, 1, 1, []⟩
def CFG_DEVCTL_MPS : Fld := ⟨0x100000002006805, 3, 0, []⟩
def CFG_DEVCTL_EXTTAG : Fld := ⟨0x100000002006808, 1, 0, []⟩
def CFG_DEVCTL_MRRS : Fld := ⟨0x10000000200680c, 3, 2, []⟩
def CFG_DEVCTL_FLR : Fld := ⟨0x10000000200680f, 1, 0, []⟩
def CFG_DEVCTL_CED : Fld := ⟨0x100000002006810, 1, 0, []⟩
def CFG_DEVCTL_NFED : Fld := ⟨0x100000002006811, 1, 0, []⟩
def CFG_DEVCTL_FED : Fld := ⟨0x100000002006812, 1, 0, []⟩
def CFG_DEVCTL_URD : Fld := ⟨0x100000002006813, 1, 0, []⟩
def CFG_DEVCTL2_CTOV : Fld := ⟨0x100000002008800, 4, 0, []⟩
def CFG_DEVCTL2_CTOD : Fld := ⟨0x100000002008804, 1, 0, []⟩
def CFG_DEVCTL2_TAG10 : Fld := ⟨0x10000000200880c, 1, 0, []⟩
def CFG_AER_UNC_STS : Fld := ⟨0x100000002010400, 32, 0, []⟩
def CFG_AER_UNCMASK_MASK : Fld := ⟨0x100000002010800, 32, 0x400000, []⟩
def CFG_AER_UNCSEV_SEV : Fld := ⟨0x100000002010c00, 32, 0x462010, []⟩
def CFG_AER_COR_STS : Fld := ⟨0x100000002011000, 32, 0, []⟩
def CFG_AER_CORMASK_MASK : Fld := ⟨0x100000002011400, 32, 0x6000, []⟩
def CFG_AER_CAP_FIRST : Fld := ⟨0x100000002011800, 5, 0, []⟩
def CFG_AER_CAP_GEN : Fld := ⟨0x100000002011806, 1, 0, []⟩
def CFG_AER_CAP_CHK : Fld := ⟨0x100000002011808, 1, 0, []⟩
def CFG_AER_HDR_V : Fld := ⟨0x100000002011c00, 128, 0, []⟩
def CFG_SRIOV_CTL_VFE : Fld := ⟨0x10000000201a800, 1, 0, []⟩
def CFG_SRIOV_CTL_MSE : Fld := ⟨0x10000000201a803, 1, 0, []⟩
def CFG_SRIOV_CTL_ARI : Fld := ⟨0x10000000201a804, 1, 0, []⟩
def CFG_SRIOV_NUM_NUMVFS : Fld := ⟨0x10000000201b000, 16, 0, []⟩
def CFG_SRIOV_PGSZ_SIZE : Fld := ⟨0x10000000201c000, 32, 1, []⟩
def CFG_VFBAR0_ADDR : Fld := ⟨0x10000000201c40e, 50, 0, []⟩
def CFG_VFBAR2_ADDR : Fld := ⟨0x10000000201cc10, 48, 0, []⟩
def CFG_VFBAR4_ADDR : Fld := ⟨0x10000000201d410, 48, 0, []⟩
def CFG_DEVCTL3_TAG14 : Fld := ⟨0x100000002037802, 1, 0, []⟩
def VEC_ADDR_V : Fld := ⟨0x100000003000000, 64, 0, []⟩
def VEC_DATA_V : Fld := ⟨0x100000003000800, 32, 0, []⟩
def VEC_CTRL_MASK : Fld := ⟨0x100000003000c00, 1, 1, []⟩
def VEC_PBA_P : Fld := ⟨0x100000003800000, 1, 0, []⟩

def NVME_INTMReg : Reg := ⟨"NVME_INTM", 0xc, 4, 0, 256, 0, 1, none,
  [⟨0, .own, .any, NVME_INTM_BIT⟩]⟩
def NVME_CCReg : Reg := ⟨"NVME_CC", 0x14, 4, 0, 256, 0, 1, none,
  [⟨0, .own, .any, NVME_CC_EN⟩, ⟨4, .rw, .any, NVME_CC_CSS⟩, ⟨7, .rw, .any, NVME_CC_MPS⟩, ⟨11, .rw, .any, NVME_CC_AMS⟩, ⟨14, .own, .any, NVME_CC_SHN⟩, ⟨16, .rw, .any, NVME_CC_IOSQES⟩, ⟨20, .rw, .any, NVME_CC_IOCQES⟩]⟩
def NVME_CSTSReg : Reg := ⟨"NVME_CSTS", 0x1c, 4, 0, 256, 0, 1, none,
  [⟨0, .ro, .any, NVME_CSTS_RDY⟩, ⟨1, .ro, .any, NVME_CSTS_CFS⟩, ⟨2, .ro, .any, NVME_CSTS_SHST⟩, ⟨5, .ro, .any, NVME_CSTS_PP⟩]⟩
def NVME_AQAReg : Reg := ⟨"NVME_AQA", 0x24, 4, 0, 256, 0, 1, none,
  [⟨0, .rw, .range 1 4095, NVME_AQA_ASQS⟩, ⟨16, .rw, .range 1 4095, NVME_AQA_ACQS⟩]⟩
def NVME_ASQReg : Reg := ⟨"NVME_ASQ", 0x28, 8, 0, 256, 0, 1, none,
  [⟨0, .rw, .any, NVME_ASQ_BASE⟩]⟩
def NVME_ACQReg : Reg := ⟨"NVME_ACQ", 0x30, 8, 0, 256, 0, 1, none,
  [⟨0, .rw, .any, NVME_ACQ_BASE⟩]⟩
def HOST_HDBReg : Reg := ⟨"HOST_HDB", 0x0, 4, 0, 256, 0, 1, none,
  [⟨0, .w1c, .any, HOST_HDB_DB⟩]⟩
def HOST_HDBMASKReg : Reg := ⟨"HOST_HDBMASK", 0x4, 4, 0, 256, 0, 1, none,
  [⟨0, .rw, .any, HOST_HDBMASK_MASK⟩]⟩
def HOST_HVECReg : Reg := ⟨"HOST_HVEC", 0x8, 4, 0, 256, 0, 1, none,
  [⟨0, .rw, .any, HOST_HVEC_VECTOR⟩, ⟨15, .rw, .any, HOST_HVEC_EN⟩]⟩
def CFG_COMMANDReg : Reg := ⟨"CFG_COMMAND", 0x4, 4, 0, 256, 0, 1, none,
  [⟨1, .rw, .any, CFG_COMMAND_MSE⟩, ⟨2, .own, .any, CFG_COMMAND_BME⟩, ⟨6, .rw, .any, CFG_COMMAND_PERR⟩, ⟨8, .rw, .any, CFG_COMMAND_SERR⟩, ⟨10, .rw, .any, CFG_COMMAND_INTDIS⟩]⟩
def CFG_BAR0Reg : Reg := ⟨"CFG_BAR0", 0x10, 8, 0, 256, 0, 1, none,
  [⟨14, .rw, .any, CFG_BAR0_ADDR⟩]⟩
def CFG_BAR2Reg : Reg := ⟨"CFG_BAR2", 0x18, 8, 0, 256, 0, 1, none,
  [⟨16, .rw, .any, CFG_BAR2_ADDR⟩]⟩
def CFG_BAR4Reg : Reg := ⟨"CFG_BAR4", 0x20, 8, 0, 256, 0, 1, none,
  [⟨16, .rw, .any, CFG_BAR4_ADDR⟩]⟩
def CFG_INTLINEReg : Reg := ⟨"CFG_INTLINE", 0x3c, 4, 0, 256, 0, 1, none,
  [⟨0, .rw, .any, CFG_INTLINE_LINE⟩]⟩
def CFG_PMCSRReg : Reg := ⟨"CFG_PMCSR", 0x44, 4, 0, 256, 0, 1, none,
  [⟨0, .own, .any, CFG_PMCSR_STATE⟩]⟩
def CFG_MSIXReg : Reg := ⟨"CFG_MSIX", 0x50, 4, 0, 256, 0, 1, none,
  [⟨30, .rw, .any, CFG_MSIX_FMASK⟩, ⟨31, .rw, .any, CFG_MSIX_EN⟩]⟩
def CFG_DEVCTLReg : Reg := ⟨"CFG_DEVCTL", 0x68, 4, 0, 256, 0, 1, none,
  [⟨0, .rw, .any, CFG_DEVCTL_CERE⟩, ⟨1, .rw, .any, CFG_DEVCTL_NFERE⟩, ⟨2, .rw, .any, CFG_DEVCTL_FERE⟩, ⟨3, .rw, .any, CFG_DEVCTL_URRE⟩, ⟨4, .rw, .any, CFG_DEVCTL_RO⟩, ⟨5, .rw, .any, CFG_DEVCTL_MPS⟩, ⟨8, .rw, .any, CFG_DEVCTL_EXTTAG⟩, ⟨12, .rw, .range 0 5, CFG_DEVCTL_MRRS⟩, ⟨15, .own, .any, CFG_DEVCTL_FLR⟩, ⟨16, .w1c, .any, CFG_DEVCTL_CED⟩, ⟨17, .w1c, .any, CFG_DEVCTL_NFED⟩, ⟨18, .w1c, .any, CFG_DEVCTL_FED⟩, ⟨19, .w1c, .any, CFG_DEVCTL_URD⟩]⟩
def CFG_DEVCTL2Reg : Reg := ⟨"CFG_DEVCTL2", 0x88, 4, 0, 256, 0, 1, none,
  [⟨0, .rw, .any, CFG_DEVCTL2_CTOV⟩, ⟨4, .rw, .any, CFG_DEVCTL2_CTOD⟩, ⟨12, .rw, .any, CFG_DEVCTL2_TAG10⟩]⟩
def CFG_AER_UNCReg : Reg := ⟨"CFG_AER_UNC", 0x104, 4, 0, 256, 0, 1, none,
  [⟨0, .w1c, .any, CFG_AER_UNC_STS⟩]⟩
def CFG_AER_UNCMASKReg : Reg := ⟨"CFG_AER_UNCMASK", 0x108, 4, 0, 256, 0, 1, none,
  [⟨0, .rw, .any, CFG_AER_UNCMASK_MASK⟩]⟩
def CFG_AER_UNCSEVReg : Reg := ⟨"CFG_AER_UNCSEV", 0x10c, 4, 0, 256, 0, 1, none,
  [⟨0, .rw, .any, CFG_AER_UNCSEV_SEV⟩]⟩
def CFG_AER_CORReg : Reg := ⟨"CFG_AER_COR", 0x110, 4, 0, 256, 0, 1, none,
  [⟨0, .w1c, .any, CFG_AER_COR_STS⟩]⟩
def CFG_AER_CORMASKReg : Reg := ⟨"CFG_AER_CORMASK", 0x114, 4, 0, 256, 0, 1, none,
  [⟨0, .rw, .any, CFG_AER_CORMASK_MASK⟩]⟩
def CFG_AER_CAPReg : Reg := ⟨"CFG_AER_CAP", 0x118, 4, 0, 256, 0, 1, none,
  [⟨0, .ro, .any, CFG_AER_CAP_FIRST⟩, ⟨6, .rw, .any, CFG_AER_CAP_GEN⟩, ⟨8, .rw, .any, CFG_AER_CAP_CHK⟩]⟩
def CFG_AER_HDRReg : Reg := ⟨"CFG_AER_HDR", 0x11c, 16, 0, 256, 0, 1, none,
  [⟨0, .ro, .any, CFG_AER_HDR_V⟩]⟩
def CFG_SRIOV_CTLReg : Reg := ⟨"CFG_SRIOV_CTL", 0x1a8, 4, 0, 256, 0, 1, none,
  [⟨0, .own, .any, CFG_SRIOV_CTL_VFE⟩, ⟨3, .rw, .any, CFG_SRIOV_CTL_MSE⟩, ⟨4, .rw, .any, CFG_SRIOV_CTL_ARI⟩]⟩
def CFG_SRIOV_NUMReg : Reg := ⟨"CFG_SRIOV_NUM", 0x1b0, 4, 0, 256, 0, 1, none,
  [⟨0, .rw, .special, CFG_SRIOV_NUM_NUMVFS⟩]⟩
def CFG_SRIOV_PGSZReg : Reg := ⟨"CFG_SRIOV_PGSZ", 0x1c0, 4, 0, 256, 0, 1, none,
  [⟨0, .rw, .special, CFG_SRIOV_PGSZ_SIZE⟩]⟩
def CFG_VFBAR0Reg : Reg := ⟨"CFG_VFBAR0", 0x1c4, 8, 0, 256, 0, 1, none,
  [⟨14, .rw, .any, CFG_VFBAR0_ADDR⟩]⟩
def CFG_VFBAR2Reg : Reg := ⟨"CFG_VFBAR2", 0x1cc, 8, 0, 256, 0, 1, none,
  [⟨16, .rw, .any, CFG_VFBAR2_ADDR⟩]⟩
def CFG_VFBAR4Reg : Reg := ⟨"CFG_VFBAR4", 0x1d4, 8, 0, 256, 0, 1, none,
  [⟨16, .rw, .any, CFG_VFBAR4_ADDR⟩]⟩
def CFG_DEVCTL3Reg : Reg := ⟨"CFG_DEVCTL3", 0x378, 4, 0, 256, 0, 1, none,
  [⟨2, .rw, .any, CFG_DEVCTL3_TAG14⟩]⟩
def VEC_ADDRReg : Reg := ⟨"VEC_ADDR", 0x0, 8, 0, 256, 16, 2048, none,
  [⟨0, .rw, .any, VEC_ADDR_V⟩]⟩
def VEC_DATAReg : Reg := ⟨"VEC_DATA", 0x8, 4, 0, 256, 16, 2048, none,
  [⟨0, .rw, .any, VEC_DATA_V⟩]⟩
def VEC_CTRLReg : Reg := ⟨"VEC_CTRL", 0xc, 4, 0, 256, 16, 2048, none,
  [⟨0, .rowClr, .any, VEC_CTRL_MASK⟩]⟩
def VEC_PBAReg : Reg := ⟨"VEC_PBA", 0x8000, 1, 0, 256, 0, 2048, none,
  [⟨0, .ro, .any, VEC_PBA_P⟩]⟩

/-- The registers of BAR0; the address of a register is its offset. -/
def regsBar0 : List Reg :=
  [NVME_INTMReg, NVME_CCReg, NVME_CSTSReg, NVME_AQAReg, NVME_ASQReg, NVME_ACQReg]

/-- The registers of BAR2; the address of a register is its offset. -/
def regsBar2 : List Reg :=
  [HOST_HDBReg, HOST_HDBMASKReg, HOST_HVECReg]

/-- The registers of configuration space; the address of a register is its offset. -/
def regsCfg : List Reg :=
  [CFG_COMMANDReg, CFG_BAR0Reg, CFG_BAR2Reg, CFG_BAR4Reg, CFG_INTLINEReg, CFG_PMCSRReg, CFG_MSIXReg, CFG_DEVCTLReg, CFG_DEVCTL2Reg, CFG_AER_UNCReg, CFG_AER_UNCMASKReg, CFG_AER_UNCSEVReg, CFG_AER_CORReg, CFG_AER_CORMASKReg, CFG_AER_CAPReg, CFG_AER_HDRReg, CFG_SRIOV_CTLReg, CFG_SRIOV_NUMReg, CFG_SRIOV_PGSZReg, CFG_VFBAR0Reg, CFG_VFBAR2Reg, CFG_VFBAR4Reg, CFG_DEVCTL3Reg]

/-- The registers of BAR4; the address of a register is its offset. -/
def regsBar4 : List Reg :=
  [VEC_ADDRReg, VEC_DATAReg, VEC_CTRLReg, VEC_PBAReg]

end Sys2Proof.Machine
end

