-- ==== Sys2Proof/Machine/State.lean ====
section
/-! DEFINITION. The state of the 8840 as plain data: the register file, memory, one structure for what each
block holds beside its registers, the non-volatile contents, and the queue of waiting commands. -/

namespace Sys2Proof.Machine

/-- A table by number, sorted by its key. -/
abbrev Tbl (α : Type) := List (Nat × α)

/-- One field of the register file that differs from its reset value: the field's identity, its indices, its value. -/
structure RCell where
  id : Nat
  i : Nat
  j : Nat
  val : Nat
  deriving DecidableEq, Repr

/-- The run state of the whole device: rails out of range (R335); boot ROM halted (R338); running; every block but SYS
and PWR held in reset (R20, R391). -/
inductive Phase where
  | off
  | halted
  | running
  | held
  deriving DecidableEq, Repr

/-- What the last access to the internal bus answered (R7, R319). -/
inductive BusResult where
  | idle
  | data (v : Nat)
  | fault (addr : Nat)
  deriving DecidableEq, Repr

/-- An output pin that a rule drives (R67, R90, R388, R404, R338). -/
inductive Pin where
  | wpN (den : Nat)
  /-- A line of a channel, by its index in Table 3.3. -/
  | fcLine (ch line : Nat)
  | thermTripN
  | alertN
  | spi
  | tdo
  deriving DecidableEq, Repr

/-- What the device sends out, recorded in order. The parties outside answer with later commands. -/
inductive Out where
  /-- A memory write TLP of function `f`; `ro` is Relaxed Ordering (R203), `ep` the EP bit (R208). -/
  | memWrite (f addr : Nat) (data : List Byte) (ro ep : Bool)
  /-- A memory read request (R202, R204). -/
  | memRead (link tag f addr len : Nat) (ro : Bool)
  /-- An MSI-X message of a vector, with its address and data from the vector's table entry (R200, R224). -/
  | msix (f vector addr data : Nat)
  /-- Assert_INTA or Deassert_INTA (R201). -/
  | intx (f : Nat) (assert : Bool)
  /-- An AER error message: its severity and the link (R211). -/
  | errMsg (link sev : Nat)
  /-- The completion of a configuration write of function `f`: 0 successful, 1 Unsupported Request, 2 Request Retry Status (R191, R193,
  R210). -/
  | cfgCpl (f status : Nat)
  /-- A command sequence to a flash die: channel ccc, the chip enable FCccc_CE_N[ce] driven, the LUN under it (R10); operation
  code, media address, count, offsets or values, data. -/
  | dieOp (ch ce lun op media count : Nat) (args : List Int) (data : List (List Byte))
  /-- A closed and sealed journal page handed to the program of one Sett copy: its sequence, its 64 KiB (R43, R45). -/
  | settPage (copyB : Bool) (seq : Nat) (data : List Byte)
  /-- A sealed checkpoint chunk or manifest page written to both Sett copies: checkpoint sequence, chunk index (R49, R50). -/
  | settChunk (seq index : Nat) (data : List Byte)
  /-- A sealed 4 KiB page written to both Sett copies: an anchor page (R347), or else a firmware slot table (R360). -/
  | settRecord (anchor : Bool) (data : List Byte)
  /-- A command on the SPI NOR: opcode, its address where it has one, data. -/
  | nor (opcode : Nat) (addr : Option Nat) (data : List Byte)
  /-- The copy region of a NOR bank erased and written (R369). -/
  | norCopy (bank : Nat) (data : List Byte)
  /-- A packet on port 0 (SMBus) to an address, or on port 1 (PCIe VDM) on a link (R396). -/
  | oob (port dest : Nat) (data : List Byte)
  /-- A pin driven high, low, or released. -/
  | pin (p : Pin) (level : Option Bool)
  /-- The cells of the boundary register that drive the scannable balls under a TAP instruction, first cell nearest TDI:
  none for a cell that drives nothing; the empty list when the register drives no ball (R448). -/
  | scan (ir : Nat) (cells : List (Option Bool))
  deriving DecidableEq, Repr

/-- A free list of numbers: those given back, then every number from `next` to below `stop`, none of them used yet. -/
structure FreeList where
  back : List Nat
  next : Nat
  stop : Nat
  deriving DecidableEq, Repr

/-- A map journal record (Table 2.6): TYPE, FLAGS, KEY, VALUE. -/
structure JRec where
  ty : Nat
  flags : Nat
  key : Nat
  val : Nat
  deriving DecidableEq, Repr

/-- Where one copy of a closed journal page stands (R46): being programmed for the first or second time, verified, or
given up (two failures, or the copy is fenced). -/
inductive PageCopy where
  | programming (attempt : Nat)
  | verified
  | lost
  deriving DecidableEq, Repr

/-- A journal page (Table 2.5): sequence, its records, the checkpoint its header names, SHUTDOWN, and the time of its
first record. -/
structure JPage where
  seq : Nat
  recs : List JRec
  manifest : Nat
  ckptSeq : Nat
  shutdown : Bool
  firstUs : Nat
  deriving DecidableEq, Repr

/-- A closed page with the state of its two copies. -/
structure JClosed where
  page : JPage
  copyA : PageCopy
  copyB : PageCopy
  deriving DecidableEq, Repr

/-- An open watch (R40): its run, whether an update has touched the run, and the staging entries of RERUN_OPEN. -/
structure Watch where
  run : Nat
  dirty : Bool
  staged : List Nat
  deriving DecidableEq, Repr

/-- A staged sector carried by a row: its place in the row (0 to 511), run, sector-in-run, staging sector, key
generation. -/
structure StagedItem where
  k : Nat
  run : Nat
  q : Nat
  idx : Nat
  keygen : Nat
  deriving DecidableEq, Repr

/-- A verified row of staged data that MAP has not retired (R35). -/
structure HeldRow where
  stripe : Nat
  row : Nat
  items : List StagedItem
  deriving DecidableEq, Repr

/-- A recovery of device firmware (R53): whether the checkpoint has been loaded, whether its newest manifest has failed
authentication, the pages that are still to be replayed, the clean path, the folds that have started and not ended (source and
target stripe), and the page of the RECOVERY record once it is waited for. -/
structure Recov where
  loaded : Bool
  ckptBad : Bool
  pages : List JPage
  clean : Bool
  folds : Tbl Nat
  wait : Option Nat
  deriving DecidableEq, Repr

/-- MAP beside its registers and its structures in HBM. -/
structure MapSt where
  /-- The open journal page. -/
  page : Option JPage
  /-- Closed pages not yet below MAP_JNL_DURABLE, in sequence order (R45, R46). -/
  closed : List JClosed
  /-- Sequence of the last page closed since MAP was enabled; 0 for none (R45). -/
  lastClosed : Nat
  /-- Sequence of the last page closed with SHUTDOWN; 0 for none. -/
  shutSeq : Nat
  /-- Command slots that wait for room in the journal ring, in order (R45). -/
  ringWait : List Nat
  /-- Whether a SHUTDOWN page waits for room in the ring (R45). -/
  shutWait : Bool
  /-- JNL_SYNC slots that wait for a sequence to be durable: slot, sequence (R60). -/
  syncWait : List (Nat × Nat)
  /-- The eight pool 3 buffers of the ring (R42). -/
  ringBufs : List Nat
  /-- Manifest address and sequence of the newest checkpoint that a CHECKPOINT record named (R43, R51). -/
  manifest : Nat
  ckptSeq : Nat
  /-- Overflow free lists of the exception pool and of the staging map (R27, R31). -/
  excFree : FreeList
  stgFree : FreeList
  /-- The walker's cache: stripes with bytes 0 to 151 of their descriptors, newest first (R26). -/
  descCache : List (Nat × List Byte)
  /-- Lookup generation count (R30). -/
  lookupGen : Nat
  /-- The re-run queue: run and reason, oldest first (R39). -/
  rerun : List (Nat × Nat)
  /-- Runs that a full queue dropped, with their reason: offered again at their next exception insertion (R39). -/
  rerunDrop : Tbl Nat
  /-- Open watches by slot (R40). -/
  watches : Tbl Watch
  /-- Lowest failed row of a stripe in use (R35). -/
  failedRow : Tbl Nat
  /-- Verified rows that have not been retired (R35). -/
  heldRows : List HeldRow
  /-- The recovery of a start that found a Sett (R53). -/
  recov : Option Recov
  deriving DecidableEq, Repr

/-- Who issued a media operation (R80): where its status and data go. -/
inductive Src where
  /-- A host read: context, first sector of the read within the command. -/
  | host (ctx sector : Nat)
  /-- A merge read of a partial sector write (R168). -/
  | merge (ctx sector : Nat)
  /-- A member read of reconstruction `id`, for member position `pos` (R105). -/
  | member (id pos : Nat)
  /-- A descriptor of a den's ring (R86). -/
  | desc (den index : Nat)
  /-- The program of one member of a row held in an accumulator (R101). -/
  | rowProg (stripe row pos : Nat)
  /-- A source read of a copy slot: entry (R136). -/
  | copyRead (slot entry : Nat)
  /-- A member read of a rebuild slot (R109). -/
  | rebuildRead (slot row pos : Nat)
  /-- The program of a rebuilt row (R109). -/
  | rebuildProg (slot row : Nat)
  /-- A read for a Burrow fill (R176), with the fill's number. -/
  | fill (frame sector gen : Nat)
  /-- An operation of FCH itself: reset, set features. -/
  | fch
  /-- A read or program of device firmware outside the ring (erases of R374, reads of a scrub pass). -/
  | firmware (tag : Nat)
  deriving DecidableEq, Repr

/-- Kind of a media operation (Table 3.7). -/
inductive MKind where
  | read
  | program
  | erase
  | reset
  | getFeatures
  | setFeatures
  | paramPage
  | readStatus
  deriving DecidableEq, Repr

/-- What FCH captures when it issues a read to a die (R116): the cell, its step tag, the issue frame, the page type, the vector A,
15 levels, and the offsets of the last read at L0 or L1, about which L2 reads (R97). -/
structure Cap where
  cell : Option Nat
  tag : Nat
  frame : Nat
  pageType : Nat
  offs : List Int
  last : List Int
  deriving DecidableEq, Repr

/-- A media operation in a die's queue or on the die. `level` is the decode level of the read: 0 for the first read,
k for retry step k, 100 and 101 for the two reads of L2 (R97). `data` holds the
sectors to program, or the payloads that a read has so far ([] for a sector that has not passed). `kg` is the key
generation, `home` the stripe, row and member position of a read (R102, R453). `eff` is the class in arbitration (R81). -/
structure MOp where
  src : Src
  kind : MKind
  cls : Nat
  eff : Nat
  slc : Bool
  media : Nat
  count : Nat
  urgent : Bool
  queuedUs : Nat
  epoch : Nat
  level : Nat
  retried : Bool
  data : List (List Byte)
  cap : Option Cap
  kg : Nat
  home : Option (Nat × Nat × Nat)
  deriving DecidableEq, Repr

/-- The operation that a die runs, with the reads of the same page merged into it (R81): when it was issued and last resumed, how
long it has run, its suspends, whether it is suspended, the tokens it holds, and whether it carries the suspend tag (R85, R87, R88);
its run time at the last poll, and whether that poll read RDY and ARDY (R73, R74). -/
structure Running where
  op : MOp
  merged : List MOp
  issuedUs : Nat
  resumedUs : Nat
  ranUs : Nat
  suspends : Nat
  suspended : Bool
  readsInSuspend : Nat
  tokens : Nat
  suspTag : Bool
  polledUs : Option Nat
  ready : Bool
  deriving DecidableEq, Repr

/-- What FCH keeps for a die beside FCH_DIEd. `queue` is the operations in their order of arrival: its first 64 stand in the
die's queue, the sources of the others wait for a place (R80). `reads` are reads issued while the operation in `run` is suspended.
`requal` is the state from which a running REQUALIFY was accepted (R79). `offsets` are the read-level offsets last loaded into the
LUN (R116). `ident` is the Read ID that its identification read (R65, R151). -/
structure DieSt where
  queue : List MOp
  run : Option Running
  reads : List Running
  requal : Option Nat
  offsets : List Int
  ident : List Nat
  deriving DecidableEq, Repr

/-- What FCH keeps for a channel: declared presence mask (R62), the training step that comes next (0 when not
training), failures of steps 5 and 6 at the current rate (R71), whether a continuity fault is on record, whether a
retrain is scheduled, whether a retrain runs, the time and temperature of the last training (R72), the dies that step 4 matched,
a continuity check that waits for the channel, with what the board will answer, the die that its bus served last (R83), and the drive
strength and on-die termination in the codes of FCH_MODELm_GEOM (R442). -/
structure ChSt where
  present : Nat
  step : Nat
  fails : Nat
  contFault : Bool
  retrain : Bool
  retraining : Bool
  trainedUs : Nat
  trainedTemp : Nat
  listed : Nat
  contWait : Option (Option ContFault)
  turn : Nat
  drv : Nat
  odt : Nat
  deriving DecidableEq, Repr

/-- FCH beside its registers. -/
structure FchSt where
  /-- Dies that have state, by global die number. -/
  dies : Tbl DieSt
  /-- Channels that have state. -/
  chans : Tbl ChSt
  /-- VCCQ_FLdd of each den in millivolts, as the board supplies it (R64). -/
  vccq : Tbl Nat
  /-- Junction temperature of each den as last read, in 1/8 °C (R72). -/
  temps : Tbl Nat
  /-- Dens whose enable waits for FCH_GCTRL.ENABLE (R67). -/
  denWait : List Nat
  /-- Level of WP_N of each den: true is high (R67, R90). -/
  wp : Tbl Bool
  /-- Dies whose next operation waits for tokens, in the order in which those operations began to wait (R84). -/
  tokenQ : List Nat
  /-- Whether the power-fail flush runs (R90). -/
  flushing : Bool
  deriving DecidableEq, Repr

/-- Kind of a reconstruction (R102, R97, R98). -/
inductive RecKind where
  | busy
  | degraded
  | l3
  | early
  /-- An early one that has failed: the read waits for L1 and L2, and its stripe is not read again (R97, R98). -/
  | spent
  deriving DecidableEq, Repr

/-- A reconstruction in progress: kind, the read it serves, its stripe row, target position, member positions read,
the member results that have arrived (position and payload), and whether the substitute was used (R105). -/
structure Recon where
  kind : RecKind
  target : MOp
  stripe : Nat
  row : Nat
  pos : Nat
  members : List Nat
  got : Tbl (List (List Byte))
  substituted : Bool
  paid : Bool
  deriving DecidableEq, Repr

/-- A row accumulator (R101): stripe, row, the 32 data pages received, the staging sectors it carries (run, sector,
staging index), the positions programmed so far, those verified, and whether one failed. `copySlot` is the copy slot
that fills it, `bufs` the pool 1 buffers of its parity pages. -/
structure RowAcc where
  stripe : Nat
  row : Nat
  pages : Tbl (List (List Byte))
  staged : List StagedItem
  programmed : List Nat
  verified : List Nat
  failed : Bool
  copySlot : Option Nat
  bufs : List Nat
  deriving DecidableEq, Repr

/-- A rebuild slot (R109): whether it runs and whether ABORT was written; the row in flight with the positions read,
the payloads that have arrived and the positions that could not be read; the rows that an earlier run programmed (stripe, position, die, block, from row, to
before row). -/
structure Rebuild where
  running : Bool
  abort : Bool
  inRow : Bool
  members : List Nat
  got : Tbl (List (List Byte))
  failed : List Nat
  /-- Rows that this run has programmed as lost: their codewords say so (R110). -/
  lost : List Nat
  prevStripe : Nat
  prevPos : Nat
  prevDie : Nat
  prevBlock : Nat
  prevEnd : Nat
  deriving DecidableEq, Repr

/-- An entry of a copy source list (Table 6.1): source, sector-in-run, key generation, walker source, run, namespace,
and the status written so far. -/
structure CopyEnt where
  src : Nat
  q : Nat
  kg : Nat
  walker : Bool
  run : Nat
  ns : Nat
  status : Nat
  deriving DecidableEq, Repr

/-- What a copy slot has for an entry: ciphertext of a generation with its metadata area, plaintext with it, a lost
sector, or a mismatch, which becomes pad (Table 6.1). -/
inductive CopyData where
  | cipher (kg : Nat) (d : List Byte)
  | plain (d : List Byte)
  | lost
  | pad
  deriving DecidableEq, Repr

/-- A copy slot that runs (R135 to R139): its destination, the entries, what has been read, whether it waits for
CDC_CTRL.ENABLE, whether its row is in an accumulator; for a mark scan the marked blocks, plane and number. -/
structure CopySlot where
  kind : Nat
  recrypt : Bool
  dstKg : Nat
  stripe : Nat
  row : Nat
  list : Nat
  entries : List CopyEnt
  got : Tbl CopyData
  started : Bool
  encoded : Bool
  marks : List MarkRead
  deriving DecidableEq, Repr

/-- CDC beside its registers. -/
structure CdcSt where
  /-- The read-around bucket in units of 1/1,024 codeword (R104). -/
  level : Int
  recons : Tbl Recon
  accs : List RowAcc
  rebuilds : Tbl Rebuild
  copies : Tbl CopySlot
  /-- Stripe-row program count, the SEQ of the device header (R94). -/
  rowSeq : Nat
  /-- Number of the next reconstruction. -/
  nextRecon : Nat
  deriving DecidableEq, Repr

/-- An accumulator of a read cell (Table 5.3): samples, sum of imbalance, sum of corrected bits. -/
structure TAcc where
  n : Nat
  si : Int
  sc : Nat
  deriving DecidableEq, Repr

/-- A read-cell record (Table 5.3). `late` marks a cell that missed its slot and stays due (R119). -/
structure TCell where
  lv : List Int
  valid : Bool
  sat : Bool
  miss : Bool
  bank : Nat
  mode : Nat
  hyst : List Bool
  ramp : List Bool
  set : Nat
  stepCnt : Nat
  sp : List Int
  acc : List TAcc
  missCnt : Nat
  stepTotal : Nat
  lastEval : Nat
  late : Bool
  deriving DecidableEq, Repr

/-- TRK beside its registers. -/
structure TrkSt where
  /-- The sixteen pool 3 buffers of the records (R129). -/
  bufs : List Nat
  /-- Read-cell records that differ from an empty one, by cell number. -/
  cells : Tbl TCell
  /-- The last read cell that a frame evaluated (R118). -/
  last : Nat
  /-- Sum and number of the readings of each thermal cell since its last evaluation (R127). -/
  readings : Tbl (Nat × Nat)
  /-- Temperature band of each den in gain-schedule mode (R126). -/
  bands : Tbl Nat
  /-- Cached lines of the age table, newest first (R115). -/
  ageCache : List (Nat × List Byte)
  deriving DecidableEq, Repr

/-- A grown bad-block entry (Table 6.3), with the journal page of its record: it is effective once that page is durable
(R152). -/
structure GrownBad where
  die : Nat
  plane : Nat
  block : Nat
  reason : Nat
  peDense : Nat
  pePslc : Nat
  hours : Nat
  page : Nat
  deriving DecidableEq, Repr

/-- The health counters that device firmware keeps (Table 6.5, Table 6.6): bytes and commands of the host, minutes,
starts, unsafe shutdowns, integrity errors, and bytes programmed by use. -/
structure Health where
  bytesRead : Nat
  bytesWritten : Nat
  readCmds : Nat
  writeCmds : Nat
  busyUs : Nat
  powerCycles : Nat
  onUs : Nat
  unsafeStops : Nat
  integrityErrs : Nat
  progHost : Nat
  progColl : Nat
  progFold : Nat
  progRebuild : Nat
  rebuilds : Nat
  lostRows : Nat
  /-- For PWR_CNT0 to PWR_CNT5, temperature minutes and transitions: the total, and the register's value that it includes (R161,
  R395). -/
  temps : List (Nat × Nat)
  deriving DecidableEq, Repr

/-- Why a stripe is collected (R141, R144, R149, R155). -/
inductive CollKind where
  | gc
  | fold
  | refresh
  | secure
  | migrate
  deriving DecidableEq, Repr

/-- A sector that a collection moves: run, sector-in-run, its media location, key generation, namespace index, and
whether an exception names it. -/
structure CollItem where
  run : Nat
  q : Nat
  loc : Nat
  kg : Nat
  ns : Nat
  exc : Bool
  deriving DecidableEq, Repr

/-- A copy slot that device firmware runs (R136, R144): its destination row, the key generation that it writes, the run and
the watch of a re-run, none for a packed copy, and what it copies. -/
structure CopyJob where
  slot : Nat
  dst : Nat
  row : Nat
  kg : Nat
  run : Option (Nat × Nat)
  items : List CollItem
  deriving DecidableEq, Repr

/-- A collection in progress of a victim stripe: why, the copy under way, the target of a fold, whether the erases of its
members have been queued, and which members (die × 16,384 + block) have not ended theirs. -/
structure Coll where
  kind : CollKind
  job : Option CopyJob
  target : Nat
  erasing : Bool
  left : List Nat
  deriving DecidableEq, Repr

/-- The migration of a key slot (R153): the namespaces that are left, the next run of the first one, its copy. -/
structure Migr where
  todo : List Nat
  next : Nat
  job : Option CopyJob
  deriving DecidableEq, Repr

/-- A sector of a host read that ended uncorrectable (R150): run, sector-in-run, media location, and its stripe row. -/
structure LostSec where
  run : Nat
  q : Nat
  loc : Nat
  home : Option (Nat × Nat)
  deriving DecidableEq, Repr

/-- A row of staged data that failed (R146): its stripe, row, failed member, and whether the program itself failed. -/
structure RowFail where
  stripe : Nat
  row : Nat
  pos : Nat
  prog : Bool
  deriving DecidableEq, Repr

/-- A scrub pass (R149): the rows that it has still to read, reads of the first one that have not ended, its codewords and
their corrected bits so far, and whether one of them needed L2 or its stripe. -/
structure ScrubRun where
  rows : List (Nat × Nat)
  left : Nat
  words : Nat
  errs : Nat
  due : Bool
  deriving DecidableEq, Repr

/-- A member whose program failed and that device firmware rebuilds onto a new block (R145): its stripe and position, and the rebuild
slot with the new die and block once it runs. -/
structure MemberFix where
  stripe : Nat
  pos : Nat
  run : Option (Nat × Nat × Nat)
  deriving DecidableEq, Repr

/-- A Requalify Die that runs (R259): its context, the die, whether its blocks are being erased, erases that have not ended,
and whether one of them failed. -/
structure RequalRun where
  ctx : Nat
  die : Nat
  erasing : Bool
  left : List Nat
  failed : Bool
  deriving DecidableEq, Repr

/-- A block that a mark scan found marked (R138). -/
structure MarkedBlock where
  plane : Nat
  block : Nat
  deriving DecidableEq, Repr

/-- The mark table of a die position: the Read ID of the die that was scanned, and its marked blocks (R151). -/
structure MarkTable where
  ident : List Nat
  blocks : List MarkedBlock
  deriving DecidableEq, Repr

/-- A row of the die tables in the Sett: die, its state and epoch, and the journal page whose record makes the row durable, 0 for one
that is (R75, R76). -/
structure DieRow where
  die : Nat
  state : Nat
  epoch : Nat
  page : Nat
  deriving DecidableEq, Repr

/-- What device firmware keeps of the media (06). -/
structure MediaSt where
  /-- Spare stripes at the last recount (R133). -/
  s0 : Nat
  grown : List GrownBad
  /-- Blocks whose record waits for room in the journal: die, plane, block, reason (R45, R152). -/
  growWait : List (Nat × Nat × Nat × Nat)
  /-- The next run of a namespace by its last KEYGEN_PROGRESS (R55, R153). -/
  migrAt : Tbl Nat
  /-- Factory marks of each die that has been scanned (R151). -/
  marks : Tbl MarkTable
  /-- The die tables: for each die its last row that is in effect (R75). -/
  dieTab : List DieRow
  /-- Dies whose DIE_EPOCH record waits for room in the journal (R45, R76). -/
  epochWait : List Nat
  /-- Dense and pSLC counts of a block number: key die × 16,384 + block (R148). -/
  pe : Tbl (Nat × Nat)
  /-- Read-only mode (R158), and whether Available Spare has fallen below its threshold (R157). -/
  readOnly : Bool
  spareLow : Bool
  /-- A volatile memory backup failed (R56). -/
  backupFailed : Bool
  health : Health
  /-- The health counters last written to the Sett (R161). -/
  saved : Health
  colls : Tbl Coll
  /-- Migrations by key slot (R153). -/
  migr : Tbl Migr
  /-- Rows that a scrub found due for a refresh: stripe, row (R149). -/
  refresh : List (Nat × Nat)
  refreshJob : Option CopyJob
  scrub : Option ScrubRun
  requal : Option RequalRun
  /-- The time at which a row was programmed: key stripe × 8,192 + row. -/
  progUs : Tbl Nat
  /-- The time at which a stripe closed (R141, R144, R148). -/
  closedUs : Tbl Nat
  /-- Stripes in use that were taken from the free-stripe reserve (R134). -/
  fromReserve : List Nat
  /-- Stripes of host data that take no more rows and are closed once their rows have ended (R142). -/
  toClose : List Nat
  /-- The last write of a namespace in fetch order: its end in sectors, and the sectors of the sequential stream that it ended
  (R140). -/
  streams : Tbl (Nat × Nat)
  /-- Members that wait for their rebuild, or are rebuilt, after a failed program (R145). -/
  fixes : List MemberFix
  /-- Erases of device firmware that have ended and that it has not handled: die × 16,384 + block, and 0 pass, 1 FAIL,
  2 reset, 3 fenced or dropped. -/
  ends : List (Nat × Nat)
  /-- The planes of a block whose status last read FAIL: key die × 16,384 + block (R86, R152). -/
  failPlanes : Tbl (List Nat)
  /-- Uncorrectable host sectors and failed rows that device firmware has not handled (R146, R150). -/
  lost : List LostSec
  rowFails : List RowFail
  /-- Rows of a block with a codeword that ended uncorrectable or needed an L3 reconstruction after L2: die × 16,384 +
  block, row (R150). -/
  badRows : List (Nat × Nat)
  /-- The lowest holdup measurement kept in the Sett, 0 for none (R393). -/
  holdupMin : Nat
  deriving DecidableEq, Repr

/-- A write held or admitted in fetch order (R170): context and its number of staging sectors. -/
structure HeldWrite where
  ctx : Nat
  sectors : Nat
  deriving DecidableEq, Repr

/-- A staging sector that an admitted write has reserved and that is not released (R167, R169): namespace index, run,
sector-in-run, registration sequence of the write, whether its data has arrived, whether a row accumulator holds it,
its placement handle, the time of its data, and whether its write covers the whole run and continues a sequential stream (R140). -/
structure StgSec where
  ns : Nat
  run : Nat
  q : Nat
  seq : Nat
  staged : Bool
  inRow : Bool
  handle : Nat
  atUs : Nat
  stream : Bool
  deriving DecidableEq, Repr

/-- HBM beside its registers. -/
structure HbmSt where
  /-- Line numbers (address / 64) that the stack reports uncorrectable (R163). -/
  unreadable : List Nat
  /-- Free staging sectors (R167). -/
  stgFree : FreeList
  /-- Staging sectors in use by programs, merges or reads: sector and number of users (R167). -/
  stgUsers : Tbl Nat
  /-- Staging sectors reserved by admitted writes and not yet released, by index (R169). -/
  stg : Tbl StgSec
  /-- Writes that wait for admission, in fetch order (R170). -/
  held : List HeldWrite
  /-- Writes whose staging entries could not be inserted (R31): context. -/
  probeWait : List Nat
  /-- Partial-group parity updates, which HBM_CNT2 shows (R164, R184). -/
  partials : Nat
  /-- Whether the ceiling has been computed since HBM was reset: VWC is fixed from then on, and UNITS never rises (R171, R172). -/
  fixed : Bool
  deriving DecidableEq, Repr

/-- A fill in progress (R176): its segment, the sectors it has, whether its frame is to be pinned, its number, and the
context of the read whose data fills it. -/
structure Fill where
  run : Nat
  seg : Nat
  got : Tbl (List Byte)
  pin : Bool
  gen : Nat
  ctx : Option Nat
  deriving DecidableEq, Repr

/-- A pin that waits for fills (R182): segments pinned so far, whether the limit stopped it, the numbers of the fills. -/
structure PinWait where
  count : Nat
  short : Bool
  gens : List Nat
  deriving DecidableEq, Repr

/-- BUR beside its registers, its index and its frame table. -/
structure BurSt where
  /-- The CLOCK hand (R177). -/
  hand : Nat
  /-- The sketch: counter number (row × 2^20 + index) and value (R175). -/
  sketch : Tbl Nat
  /-- Fills in progress by frame. -/
  fills : Tbl Fill
  /-- Burrow reads in progress: frame, context, sector of the command, sectors left (R174, R183). -/
  readers : List (Nat × Nat × Nat)
  /-- The sixteen pool 3 buffers of the sketch (R175). -/
  bufs : List Nat
  /-- Number of the next fill. -/
  fillGen : Nat
  /-- Pins that wait for fills: of command slot n under n, of command context c under 8 + c. -/
  pinWait : Tbl PinWait
  /-- When the sketch was last halved, or enabled (R175). -/
  agedUs : Nat
  deriving DecidableEq, Repr

/-- What an outstanding read request of a link fetches (R206). -/
inductive ReqKind where
  /-- Submission entries: queue, first index, contexts taken for them. -/
  | sqe (q first : Nat) (ctxs : List Nat)
  /-- Data of a command: context, byte offset in the command's data. -/
  | data (ctx off : Nat)
  /-- A part of a PRP list, or of an SGL segment, of a command, with the bytes of the segment that follow it (R196). -/
  | list (ctx : Nat) (sgl : Bool) (rest : Nat)
  deriving DecidableEq, Repr

/-- A read request (R204): link, tag, function, what it fetches, length, bytes that have arrived, its time. -/
structure Req where
  link : Nat
  tag : Nat
  f : Nat
  kind : ReqKind
  addr : Nat
  len : Nat
  got : List Byte
  sentUs : Nat
  deriving DecidableEq, Repr

/-- A quarantined tag and the end of its quarantine in µs (R205). `silent` marks a tag whose completions are discarded
without an error: its function was reset (R210). -/
structure Quar where
  link : Nat
  tag : Nat
  endUs : Nat
  silent : Bool
  deriving DecidableEq, Repr

/-- HIF beside its registers and configuration space. -/
structure HifSt where
  /-- Outstanding requests (R204). -/
  reqs : List Req
  /-- Requests that wait for a tag (R204) or for Bus Master Enable. -/
  reqWait : List Req
  quar : List Quar
  /-- Completions held while Bus Master Enable is 0, in arrival order (R209). -/
  held : List CplTlp
  /-- Ports whose PERST_N is asserted, and the time at which PERST_N of a port deasserted (R191). -/
  perst : List Nat
  perstUs : Tbl Nat
  /-- Physical functions whose INTA is asserted (R201). -/
  inta : List Nat
  deriving DecidableEq, Repr

/-- Where a command context stands (R220, R221, R227). -/
inductive Stage where
  /-- Its entry is being fetched. -/
  | fetching
  /-- A record is not granted. -/
  | waiting
  /-- Its command may run, or runs, in CMD. -/
  | running
  /-- Its entry stands in the firmware ring at an index and has not been taken. -/
  | ringed (index : Nat)
  /-- Firmware has taken it. -/
  | taken
  /-- Its status is final; its completion entry waits. -/
  | committed
  /-- Dropped; internal operations have not ended. -/
  | draining
  deriving DecidableEq, Repr

/-- A lock record (R225): namespace index, first sector, sectors, exclusive, whole namespace, place in registration
order, granted. -/
structure LockRec where
  ns : Nat
  first : Nat
  count : Nat
  excl : Bool
  whole : Bool
  seq : Nat
  granted : Bool
  deriving DecidableEq, Repr

/-- A command context (R220). `dma` holds the host address ranges of the command's data that its PRPs or SGLs have given so
far, and `dmaNeed` the bytes that they have still to describe. `left` counts internal operations that have not ended. `got` holds, by sector of the
command, data that has arrived; `stg` its staging sectors, `raw` the host bytes of a
sector as they arrive, `merges` the merge reads of partial sectors and their data (R168). `err` is the first error status, 0 for none. `durLeft` and
`durSeq` are what durability waits for: staging sectors, then a journal sequence. -/
structure Ctx where
  f : Nat
  sq : Nat
  cq : Nat
  seq : Nat
  sqe : Sqe
  stage : Stage
  tunnel : Option Nat
  recA : Option LockRec
  recB : Option LockRec
  started : Bool
  left : Nat
  got : Tbl (List Byte)
  dma : List (Nat × Nat)
  dmaNeed : Nat
  stg : List Nat
  merges : Tbl (Option (List Byte))
  raw : Tbl (List Byte)
  staged : Bool
  err : Nat
  dw0 : Nat
  dw1 : Nat
  waitDur : Bool
  durLeft : List Nat
  durSeq : Nat
  fences : List Nat
  deriving DecidableEq, Repr

/-- An I/O or admin submission queue (R216 to R219, R229). -/
structure Sq where
  base : Nat
  size : Nat
  cq : Nat
  prio : Nat
  head : Nat
  tail : Nat
  /-- Entries of fetches that are under way. -/
  inFetch : Nat
  /-- Fetch stopped by a Fence (its context), by a deletion, or by a full firmware ring. -/
  fence : Option Nat
  deleting : Option Nat
  fwHold : Bool
  lockStop : Bool
  deriving DecidableEq, Repr

/-- A completion entry that has a slot and is not yet written (R223). -/
structure Cpl where
  ctx : Nat
  sq : Nat
  sqHead : Nat
  cid : Nat
  status : Nat
  dw0 : Nat
  dw1 : Nat
  deriving DecidableEq, Repr

/-- A completion queue: base, size, interrupt vector and enable, next slot, head, phase, entries that wait. -/
structure Cq where
  base : Nat
  size : Nat
  iv : Nat
  ien : Bool
  tail : Nat
  head : Nat
  phase : Bool
  wait : List Cpl
  deriving DecidableEq, Repr

/-- Coalescing of a vector: entries posted since its last message and the time of the first (R224). -/
structure Coal where
  count : Nat
  firstUs : Nat
  deriving DecidableEq, Repr

/-- Fetch arbitration within a function: queue served last and commands left of its turn, credits of the high, medium
and low classes (R218). -/
structure Arb where
  lastQ : Nat
  turnLeft : Nat
  hi : Nat
  mid : Nat
  lo : Nat
  deriving DecidableEq, Repr

/-- CMD beside its registers. Queues are keyed by function × 65,536 + queue. -/
structure CmdSt where
  ctxs : Tbl Ctx
  sqs : Tbl Sq
  cqs : Tbl Cq
  coal : Tbl Coal
  arb : Tbl Arb
  /-- Deficit of each function and the function served last (R218). -/
  deficit : Tbl Nat
  lastFn : Nat
  /-- Next registration sequence of commands and of lock records (R219, R227). -/
  seq : Nat
  recSeq : Nat
  /-- Functions that have created an I/O queue since the last controller reset (R215). -/
  created : List Nat
  /-- ACQUIREs that wait, by lock slot: context, whether record B belongs to it, whether it named record B (R240). -/
  acquires : Tbl (Nat × Bool × Bool)
  /-- Functions whose fetch stopped for a shutdown or CFS, or whose SHST is complete (R236, R237). -/
  stopped : List Nat
  /-- Whether CMD_ACT_CTL.PAUSE is in force (R238), and whether a power-fail flush has stopped fetch (R390). -/
  paused : Bool
  flushStop : Bool
  /-- Functions whose fetch found no context and waits for one (R220). -/
  noCtx : List Nat
  deriving DecidableEq, Repr

/-- A namespace as Namespace Management made it (R243, R244): size in LBAs, format, whether metadata is extended,
protection settings, NMIC, attached functions, placement handles, and its number among all namespaces ever created. -/
structure NsInfo where
  nsze : Nat
  fmt : Nat
  ext : Bool
  dps : Nat
  nmic : Nat
  attached : List Nat
  handles : List Nat
  number : Nat
  deriving DecidableEq, Repr

/-- An asynchronous event of a function: type, information, log page (R250). -/
structure Aen where
  f : Nat
  ty : Nat
  info : Nat
  lid : Nat
  deriving DecidableEq, Repr

/-- An entry of the Error Information log (R419): count, function, SQID, CID, status, first LBA, NSID, error log
sequence. -/
structure ErrEntry where
  count : Nat
  f : Nat
  sqid : Nat
  cid : Nat
  status : Nat
  nsid : Nat
  logSeq : Nat
  deriving DecidableEq, Repr

/-- A Secure Deallocate request (R155, R256): identifier, namespace index, state 0 waiting, 1 running, 2 complete,
3 incomplete, stripes to collect, stripes collected, blocks that could not be erased, Power On Hours. -/
structure SecReq where
  id : Nat
  ns : Nat
  state : Nat
  todo : List Nat
  total : Nat
  done : Nat
  failed : Nat
  hours : Nat
  deriving DecidableEq, Repr

/-- Placement of an FDP handle (R142, R143): its open reclaim unit, a stripe, and the sectors that the unit still takes. -/
structure RuHandle where
  stripe : Nat
  left : Nat
  deriving DecidableEq, Repr

/-- An FDP event (R252): 0 Reclaim Unit Not Written To Capacity, 1 Media Reallocated; handle, NSID, time in ms. -/
structure FdpEvent where
  kind : Nat
  handle : Nat
  nsid : Nat
  ms : Nat
  deriving DecidableEq, Repr

/-- A service dump that is held: its size in 4 KiB units and the draw of its sealed bytes (R260). -/
structure Dump where
  units : Nat
  draw : Nat
  deriving DecidableEq, Repr

/-- The NVM subsystem as firmware keeps it: namespaces, features, events, logs. -/
structure NvmSt where
  ns : Tbl NsInfo
  /-- Namespaces ever created on the unit (R243). -/
  everNs : Nat
  /-- Feature values that differ from their defaults: function × 2^32 + identifier × 2^16 + sub-index (R249); function
  256 stands for the subsystem. -/
  feats : Tbl Nat
  /-- Outstanding Asynchronous Event Requests: contexts, oldest first (R250). -/
  aers : List Nat
  /-- Events that wait, oldest first, and types that wait for their log to be read: function, type (R250). -/
  events : List Aen
  blocked : List (Nat × Nat)
  /-- Changed Namespace List of each function (R244). -/
  changed : List (Nat × Nat)
  errLog : List ErrEntry
  errCount : Nat
  secReqs : List SecReq
  secNext : Nat
  /-- Telemetry window update count (R251), and its time. -/
  telSeq : Nat
  telUs : Nat
  /-- The telemetry window as last refreshed: its bytes of the subsystem, and for each function whose window has been
  filled since its reset the words HIF_FNf_STATE and CMD_FNf_STATE (R251). -/
  telBytes : List Byte
  telFns : Tbl (Nat × Nat)
  /-- The service dump (R260). -/
  dump : Option Dump
  /-- Open reclaim units by placement handle, and the FDP events logged, newest first (R142, R252). -/
  handles : Tbl RuHandle
  /-- The handle and the NSID whose data a dense stripe took last, by stripe: handle × 2^32 + NSID (R142, R143). -/
  ruStripe : Tbl Nat
  fdpEvents : List FdpEvent
  /-- The timestamp feature: value and µs at its Set (R249, FID 0Eh). -/
  stamp : Option (Nat × Nat)
  /-- The last operational power state of each function (R383). -/
  lastOp : Tbl Nat
  deriving DecidableEq, Repr

/-- CRY beside its registers: key material and what a pipe remembers. -/
structure CrySt where
  /-- Key pairs of position 0 and of position 1, by slot (R264). -/
  key0 : Tbl (List Byte)
  key1 : Tbl (List Byte)
  /-- Derived keys by derived slot (R271). -/
  derived : Tbl (List Byte)
  /-- The position that a stripe row has bound for a slot: stripe, row, slot, position (R263). -/
  binds : List (Nat × Nat × Nat × Nat)
  /-- Changeovers that have started and are not installed: slot and fresh key pair (R266). -/
  changeover : Tbl (List Byte)
  /-- Generate requests of the DRBG since its last seed (R274). -/
  drbgReqs : Nat
  /-- When the entropy source failed last (R376). -/
  entLostUs : Nat
  /-- Whether the fault monitor holds CRY_ENT.OK at 0 (Table 19.4, class 7). -/
  entHeld : Bool
  /-- The Opal locking ranges, with their lock state (R276, R277). -/
  opal : List OpalRange
  /-- The credentials of the Opal authorities and the DataStore table, empty as delivered (R276). -/
  opalPins : List Byte
  opalStore : List Byte
  /-- Misses of the pipes' key caches, which CRY_CNT5 shows (R263). -/
  misses : Nat
  deriving DecidableEq, Repr

/-- CPR beside its registers: waiting job slots in the order of their GO writes, and the slot that each engine runs
(R288). -/
structure CprSt where
  waiting : List Nat
  running : Tbl Nat
  deriving DecidableEq, Repr

/-- A merge-buffer entry of an SRAM (R300): SRAM 0 buffer, 1 queue-context, 2 command-context; word address, and the bytes
of the word that narrow writes have filled. -/
structure Merge where
  sram : Nat
  word : Nat
  mask : Nat
  deriving DecidableEq, Repr

/-- Bytes of buffer SRAM from `first` to below `last` that the allocation of their buffer left undefined, under a draw (R294). -/
structure Stale where
  first : Nat
  last : Nat
  draw : Nat
  deriving DecidableEq, Repr

/-- BPM beside its registers. -/
structure BpmSt where
  /-- Head of each pool's free list; 0 for an empty list (R295). -/
  heads : Tbl Nat
  /-- Internal addresses of the allocated buffers: the allocation bitmap (R295). -/
  used : List Nat
  /-- Hardware requesters that wait, oldest first: size, requester (R294). -/
  waiters : List (Nat × Nat)
  /-- Buffers given to hardware requesters: requester, address. -/
  grants : List (Nat × Nat)
  /-- Frees queued during a rebuild (R297). -/
  freeQ : List Nat
  merges : List Merge
  /-- Words (address / 8) of buffer SRAM that are uncorrectable or poisoned (R299, R300). -/
  bad : List Nat
  /-- Those of them that BPM has written with poison (R300). -/
  poisoned : List Nat
  /-- The corrected word whose write-back waits (R299). -/
  writeback : Option Nat
  deriving DecidableEq, Repr

/-- UDM beside its registers: waiting channels of each engine in the order of their GO writes (R307), and words of
tightly-coupled memories with a parity error (R304). -/
structure UdmSt where
  waiting : Tbl (List Nat)
  parity : List Nat
  deriving DecidableEq, Repr

/-- MBX beside its registers (R321, R326, R333). -/
structure MbxSt where
  /-- Deadline, in µs of the timer clock, of each channel whose timer runs (R326). -/
  timers : Tbl Nat
  /-- Time of the last KICK or release of each core (R321). -/
  kicked : Tbl Nat
  deriving DecidableEq, Repr

/-- The OTP array beside its fixed contents (Table 15.7): security version, key use bits, LEVEL2, and the SRAM remap
fuses by group × 8 + entry. -/
structure OtpSt where
  secver : Nat
  keyUse : List Nat
  level2 : Bool
  remaps : Tbl Nat
  deriving DecidableEq, Repr

/-- A complete checkpoint (R49, R51): its sequence, its begin page, the media address of its manifest, and its regions 1 to 4:
the bytes other than 0 of the run map, the exception pool and the stripe table by offset, and the namespace table's entries
other than 0. Of region 5, firmware's own state, it holds the progress of migrations and the open folds. -/
structure Ckpt where
  seq : Nat
  start : Nat
  manifest : Nat
  runs : List Host.Cell
  excs : List Host.Cell
  stripes : List Host.Cell
  ns : List (Nat × Nat)
  migr : Tbl Nat
  folds : Tbl Nat
  deriving DecidableEq, Repr

/-- What the Sett holds (R45, R51, R347, R352): whether it is blank, LEVEL_MARK, the Sett instance, the anchor sequence,
whether the newest durable page carries SHUTDOWN (R52), the journal pages from the begin page of the older checkpoint on, the
newest page's sequence, and the two newest complete checkpoints, newest first. -/
structure SettSt where
  blank : Bool
  levelMark : Nat
  instance_ : Nat
  anchorSeq : Nat
  clean : Bool
  pages : List JPage
  tail : Nat
  ckpts : List Ckpt
  deriving DecidableEq, Repr

/-- Values that the booted image gives device firmware (Table 15.4, R131): PCI_IDENT, the holdup declaration, and the
defaults that the image may change. -/
structure ImageSt extends ImageDecl where
  ssvid : Nat
  ssid : Nat
  oui : Nat
  tnvmcap : Nat
  psid : List Byte
  holdupMj : Nat
  bootKey : Nat
  bootPkgOff : Nat
  bootPkgLen : Nat
  deriving DecidableEq, Repr

/-- SYS beside its registers. -/
structure SysSt where
  /-- Global die numbers that hold Sett copies A and B (R347). -/
  settA : List Nat
  settB : List Nat
  otp : OtpSt
  sett : SettSt
  image : ImageSt
  /-- Key blobs in the Sett's key area, by slot, and the COUNT from which a slot's advance since its export is measured (R269). -/
  keyArea : Tbl (List Byte)
  keyCount : Tbl Nat
  deriving DecidableEq, Repr

/-- An entry of the firmware slot table (Table 16.3), with the package that its slot holds. -/
structure FwSlot where
  valid : Bool
  failed : Bool
  len : Nat
  secver : Nat
  rev : Nat
  fmt : Nat
  fmtMin : Nat
  advance : Bool
  pkg : List Byte
  deriving DecidableEq, Repr

/-- The firmware slot table in force (Table 16.3); slots are numbered from 1. -/
structure FwTable where
  seqNo : Nat
  active : Nat
  previous : Nat
  confirmPending : Bool
  fellBack : Bool
  order : List Nat
  confirmAt : Nat
  s : Nat
  k : Nat
  slots : List FwSlot
  deriving DecidableEq, Repr

/-- A sanitize operation (R372 to R377): 1 block erase, 2 crypto erase; the phase reached, AUSE, the block number that is being erased, and the erases of it that have not ended. -/
structure SanRun where
  op : Nat
  phase : Nat
  ause : Bool
  b : Nat
  left : List Nat
  deriving DecidableEq, Repr

/-- A Format in progress (R371): namespace index, new format, extended, DPS, SES, the phase. -/
structure FmtRun where
  ns : Nat
  fmt : Nat
  ext : Bool
  dps : Nat
  ses : Nat
  phase : Nat
  /-- Runs cleared so far, and stripes that a block erase has still to collect (R371). -/
  done : Nat
  todo : List Nat
  deriving DecidableEq, Repr

/-- An activation that waits for its drain (R238, R364): context of the Firmware Commit, none for R365; slot; time of PAUSE; the
page of HBM where the new package has been placed. -/
structure Activation where
  ctx : Option Nat
  slot : Nat
  pausedUs : Nat
  page : Nat
  deriving DecidableEq, Repr

/-- Firmware update, Sanitize and Format (16). -/
structure FwSt where
  table : FwTable
  /-- The download buffer: pieces received, by offset (R361). -/
  pieces : Tbl (List Byte)
  /-- Attempts counted for the table (R368). -/
  attempts : Nat
  activating : Option Activation
  /-- A running sanitize, whether the subsystem is in failure mode with the AUSE of the failed one, SSTAT [2:0], Global
  Data Erased, and CDW10 of the last Sanitize. -/
  san : Option SanRun
  failed : Option Bool
  sstat : Nat
  gde : Bool
  scdw10 : Nat
  formats : List FmtRun
  deriving DecidableEq, Repr

/-- PWR beside its registers. It keeps its state over a warm start (R408). -/
structure PwrSt where
  /-- The last samples of a millisecond, newest first (R382). -/
  samples : List Nat
  /-- µs of samples since the last rise of P, up to 1,000, and µs during which the average has stayed below 90 % of the
  budget. -/
  sinceRise : Nat
  belowUs : Nat
  /-- Temperature time in µs that has not filled its unit: warning, critical, TMT1, TMT2 (R385, R386). -/
  warnUs : Nat
  critUs : Nat
  tmt1Us : Nat
  tmt2Us : Nat
  /-- Critical Warning bit 1 (R385). -/
  tempWarn : Bool
  /-- When the last flush started (R391), and its energy in nJ while it runs (R390). -/
  flushUs : Nat
  flushNj : Nat
  /-- Whether a thermal shutdown belongs to the flush that runs (R388, R389). -/
  thermal : Bool
  /-- Whether THERM_TRIP_N is low (R388). -/
  tripped : Bool
  /-- The greatest FLUSH_MARK among the durable pages of the last flush (R393). -/
  flushMark : Nat
  deriving DecidableEq, Repr

/-- A request in a command slot of an MCTP port (R398), or a whole message that waits for its check: the link of port 1 or the
SMBus address of the requester, its endpoint ID and the tag, the message, the context of a tunnelled command, and its place
in arrival order (R403). -/
structure OobReq where
  link : Nat
  src : Nat
  tag : Nat
  msg : List Byte
  ctx : Option Nat
  arrived : Nat
  deriving DecidableEq, Repr

/-- A message being assembled on a port (R396): link or requester, source endpoint, tag, next packet sequence, bytes. -/
structure Assembly where
  link : Nat
  src : Nat
  tag : Nat
  seqNo : Nat
  data : List Byte
  deriving DecidableEq, Repr

/-- OOB beside its registers. Slots are keyed by port × 2 + slot. -/
structure OobSt where
  slots : Tbl OobReq
  /-- Messages being assembled, by port, oldest first. -/
  asm : List (Nat × Assembly)
  /-- Whole messages that wait for their check, by port, oldest first (R398). -/
  whole : List (Nat × OobReq)
  /-- MCTP transmission unit of each port and the SMBus rate in use (R396, R403). -/
  mtu0 : Nat
  mtu1 : Nat
  freq : Nat
  /-- Health Status Change: flags enabled, flags set (R404); ALERT_N low. -/
  chgEn : Nat
  chg : Nat
  alert : Bool
  /-- Whether port 0 is idle under R405. -/
  swapped : Bool
  /-- The 256 B of VPD (Table 18.1). -/
  vpd : List Byte
  /-- Whole messages that have arrived. -/
  arrivals : Nat
  deriving DecidableEq, Repr

/-- FLT beside its registers (R412, R413, R417). -/
structure FltSt where
  /-- Upper 16 bits of T0 of each element (R412 compares time in 48 bits). -/
  t0Hi : Tbl Nat
  /-- Word of the last counted error of each lane element (R413). -/
  laneWord : Tbl Nat
  /-- Time, in ms, of the window start of each word-tracker entry (R414). -/
  wordT0 : Tbl Nat
  /-- µs of the last reset of FLT (R418). -/
  resetUs : Nat
  /-- µs of the fatal controller fault that holds, for AUTO_S (R417). -/
  fatalUs : Option Nat
  deriving DecidableEq, Repr

/-- States of the IEEE 1149.1 TAP controller (R448). -/
inductive TapState where
  | reset
  | idle
  | selectDr
  | captureDr
  | shiftDr
  | exit1Dr
  | pauseDr
  | exit2Dr
  | updateDr
  | selectIr
  | captureIr
  | shiftIr
  | exit1Ir
  | pauseIr
  | exit2Ir
  | updateIr
  deriving DecidableEq, Repr

/-- The TAP (R448): its state, instruction, instruction shift register, the selected data register as it shifts, the
update latch of the boundary register, first cell nearest TDI, and TDO. -/
structure TapSt where
  st : TapState
  ir : Nat
  irShift : Nat
  drShift : List Bool
  bound : List Bool
  tdo : Option Bool
  deriving DecidableEq, Repr

/-- The whole machine. -/
structure State where
  /-- The run state of the device. -/
  phase : Phase
  /-- The register file: every field that differs from its reset value, sorted. -/
  regs : List RCell
  /-- HBM, buffer SRAM and the cores' memories, byte by byte (R316). -/
  mem : List Host.Cell
  /-- Ranges of buffer SRAM whose bytes are undefined: an allocation gave them out, and nothing has written them since (R294). -/
  stale : List Stale
  /-- What the device has sent out, oldest first. -/
  out : List Out
  /-- What the last access to the internal bus answered. -/
  bus : BusResult
  /-- How many free values have been drawn (the model's own field). -/
  freeCount : Nat
  /-- The timer clock in microseconds (R18). -/
  timeUs : Nat
  /-- Mailboxes and cores (14). -/
  mbx : MbxSt
  /-- Fault monitor (19). -/
  flt : FltSt
  /-- Map walker and journal (02). -/
  map : MapSt
  /-- Flash channels (03). -/
  fch : FchSt
  /-- Codec (04). -/
  cdc : CdcSt
  /-- Tracking engine (05). -/
  trk : TrkSt
  /-- HBM and staging (07). -/
  hbm : HbmSt
  /-- Burrow (07). -/
  bur : BurSt
  /-- Host ports (08). -/
  hif : HifSt
  /-- Queues, contexts and locks (09). -/
  cmd : CmdSt
  /-- Namespaces, features, events and logs (10). -/
  nvm : NvmSt
  /-- Buffer pool and SRAM protection (13). -/
  bpm : BpmSt
  /-- Utility DMA (13). -/
  udm : UdmSt
  /-- Key store and entropy (11). -/
  cry : CrySt
  /-- System control and boot (15). -/
  sys : SysSt
  /-- What device firmware keeps of the media (06). -/
  media : MediaSt
  /-- Compression jobs (12). -/
  cpr : CprSt
  /-- Firmware slots, Sanitize and Format (16). -/
  fw : FwSt
  /-- Power, temperature and the flush (17). -/
  pwr : PwrSt
  /-- Out-of-band management (18). -/
  oob : OobSt
  /-- The test access port (21). -/
  tap : TapSt
  /-- The low half of a 128-bit register whose high half has not been written: address, value (R317). -/
  latch : Option (Nat × Nat)
  /-- The commands that wait, first in, first out. -/
  pending : List Instr
  deriving DecidableEq, Repr

/-- Why the machine stops. No command of the 8840 stops the machine: the closed type has no use beside the interface. -/
inductive Fault where
  /-- Raised by no command. Safe. -/
  | none
  deriving DecidableEq, Repr

/-- Why a command is refused. -/
inductive Refusal where
  /-- A command that has no meaning yet: raised by `exec` alone, by the command's name. Safe. -/
  | notModelled (mnemonic : String)
  deriving DecidableEq, Repr

/-- The machine right after reset: rails not yet in range, every register at its reset value, no command waiting. -/
def State.reset : State where
  phase := .off
  regs := []
  mem := []
  stale := []
  out := []
  bus := .idle
  freeCount := 0
  timeUs := 0
  mbx := ⟨[], []⟩
  flt := ⟨[], [], [], 0, none⟩
  map := ⟨none, [], 0, 0, [], false, [], [], 0, 0, ⟨[], 0, 0⟩, ⟨[], 0, 0⟩, [], 0, [], [], [], [], [], none⟩
  fch := ⟨[], [], [], [], [], [], [], false⟩
  cdc := ⟨4194304, [], [], [], [], 0, 0⟩
  trk := ⟨[], [], 0, [], [], []⟩
  hbm := ⟨[], ⟨[], 0, 0⟩, [], [], [], [], 0, false⟩
  bur := ⟨0, [], [], [], [], 0, [], 0⟩
  hif := ⟨[], [], [], [], [], [], []⟩
  cmd := ⟨[], [], [], [], [], [], 0, 0, 0, [], [], [], false, false, []⟩
  nvm := ⟨[], 0, [], [], [], [], [], [], 0, [], 0, 0, 0, [], [], none, [], [], [], none, []⟩
  bpm := ⟨[], [], [], [], [], [], [], [], none⟩
  udm := ⟨[], []⟩
  cry := ⟨[], [], [], [], [], 0, 0, false, [], [], [], 0⟩
  sys := ⟨[], [], ⟨0, [3, 2, 0, 0], false, []⟩, ⟨true, 0, 0, 0, true, [], 0, []⟩, ⟨⟨false, 16, [], 64, 10, 72, 4, 8, 150, 7, 160, 90, 50, []⟩, 0, 0, 0, 0, [], 0, 0, 0, 0⟩, [], []⟩
  media := {
    s0 := 0, grown := [], growWait := [], migrAt := [], marks := [], dieTab := [], epochWait := [], pe := []
    readOnly := false, spareLow := false, backupFailed := false
    health := ⟨0, 0, 0, 0, 0, 0, 0, 0, 0, 0, 0, 0, 0, 0, 0, []⟩, saved := ⟨0, 0, 0, 0, 0, 0, 0, 0, 0, 0, 0, 0, 0, 0, 0, []⟩
    colls := [], migr := [], refresh := [], refreshJob := none, scrub := none, requal := none
    progUs := [], closedUs := [], fromReserve := [], toClose := [], streams := [], fixes := [], ends := [], failPlanes := [], lost := [], rowFails := [], badRows := [], holdupMin := 0 }
  cpr := ⟨[], []⟩
  fw := ⟨⟨0, 0, 0, false, false, [], 0, 1, 0, []⟩, [], 0, none, none, none, 0, false, 0, []⟩
  pwr := ⟨[], 1000, 0, 0, 0, 0, 0, false, 0, 0, false, false, 0⟩
  oob := ⟨[], [], [], 64, 64, 0, 0, 0, false, false, [], 0⟩
  tap := ⟨.reset, 1, 0, [], [], none⟩
  latch := none
  pending := []

end Sys2Proof.Machine
end

