-- ==== Sys2Proof/Machine/Ops.lean ====
section
/-! DEFINITION. The named operations over the register file, tables and memory. Everything a command does to a
register or to memory goes through these. -/

namespace Sys2Proof.Machine

/-! Bit fields of a number. -/

/-- Bits [lo+w-1:lo] of `x`. -/
def bits (x lo w : Nat) : Nat := x / 2 ^ lo % 2 ^ w

/-- `x` with bits [lo+w-1:lo] replaced by `v`. -/
def setBits (x lo w v : Nat) : Nat := x - bits x lo w * 2 ^ lo + v % 2 ^ w * 2 ^ lo

/-- 1 for true. -/
def b2n (b : Bool) : Nat := if b then 1 else 0

/-- The numbers of a list, each once. -/
def uniq (l : List Nat) : List Nat := l.foldr (fun a r => if r.contains a then r else a :: r) []

/-- The signed reading of a `w`-bit number. -/
def signed (w v : Nat) : Int := if v < 2 ^ (w - 1) then (v : Int) else (v : Int) - (2 : Int) ^ w

/-- The `w`-bit two's complement of an integer. -/
def unsigned (w : Nat) (x : Int) : Nat := (x % (2 : Int) ^ w).toNat

/-- `x` limited to the range from `lo` to `hi`. -/
def clampInt (lo hi x : Int) : Int := if x < lo then lo else if hi < x then hi else x

/-! Tables sorted by key. -/

/-- The entry of key `k`. -/
def tget {α : Type} (t : Tbl α) (k : Nat) : Option α :=
  match t with
  | [] => none
  | (a, v) :: r => if a = k then some v else tget r k

/-- The table with key `k` set to `v`. -/
def tput {α : Type} (t : Tbl α) (k : Nat) (v : α) : Tbl α :=
  match t with
  | [] => [(k, v)]
  | (a, w) :: r => if k < a then (k, v) :: (a, w) :: r else if k = a then (k, v) :: r else (a, w) :: tput r k v

/-- The table without key `k`. -/
def tdel {α : Type} (t : Tbl α) (k : Nat) : Tbl α :=
  match t with
  | [] => []
  | (a, w) :: r => if a = k then tdel r k else (a, w) :: tdel r k

/-- The entry of key `k`, or a default. -/
def tgetD {α : Type} (t : Tbl α) (k : Nat) (d : α) : α := (tget t k).getD d

/-- The lowest number below `n`, from `k` on, that is no key of the table. -/
def tfree {α : Type} (t : Tbl α) (k n : Nat) : Option Nat :=
  match n with
  | 0 => none
  | m + 1 => if (tget t k).isNone then some k else tfree t (k + 1) m

/-! The register file. -/

/-- Order of register cells: identity, then first index, then second. -/
def rlt (id i j : Nat) (c : RCell) : Bool :=
  if id ≠ c.id then decide (id < c.id) else if i ≠ c.i then decide (i < c.i) else decide (j < c.j)

/-- The stored value of a cell. -/
def rfind (l : List RCell) (id i j : Nat) : Option Nat :=
  match l with
  | [] => none
  | c :: r => if c.id = id ∧ c.i = i ∧ c.j = j then some c.val else rfind r id i j

/-- The cells without one cell. -/
def rdel (l : List RCell) (id i j : Nat) : List RCell :=
  match l with
  | [] => []
  | c :: r => if c.id = id ∧ c.i = i ∧ c.j = j then rdel r id i j else c :: rdel r id i j

/-- The cells with one cell set. -/
def rput (l : List RCell) (id i j v : Nat) : List RCell :=
  match l with
  | [] => [⟨id, i, j, v⟩]
  | c :: r =>
    if c.id = id ∧ c.i = i ∧ c.j = j then ⟨id, i, j, v⟩ :: r
    else if rlt id i j c then ⟨id, i, j, v⟩ :: c :: r
    else c :: rput r id i j v

/-- The value of copy `i`, `j` of a field in a list of cells: its stored value, else its reset value (R3, R8). -/
def rget (l : List RCell) (f : Fld) (i j : Nat) : Nat := (rfind l f.id i j).getD (fldReset f i)

/-- The cells with a field set to a value, cut to the field's width. A field at its reset value is not stored. -/
def rset (l : List RCell) (f : Fld) (v i j : Nat) : List RCell :=
  if v % 2 ^ f.width = fldReset f i then rdel l f.id i j else rput (rdel l f.id i j) f.id i j (v % 2 ^ f.width)

/-- The value of copy `i`, `j` of a field. -/
def State.get (s : State) (f : Fld) (i : Nat := 0) (j : Nat := 0) : Nat := rget s.regs f i j

/-- A field set to a value. -/
def State.set (s : State) (f : Fld) (v : Nat) (i : Nat := 0) (j : Nat := 0) : State := { s with regs := rset s.regs f v i j }

/-- Whether a one-bit field is 1. -/
def State.on (s : State) (f : Fld) (i : Nat := 0) (j : Nat := 0) : Bool := s.get f i j ≠ 0

/-- An event counter advanced by `n`: it saturates at all ones (R6). -/
def State.bump (s : State) (f : Fld) (i : Nat := 0) (n : Nat := 1) (j : Nat := 0) : State :=
  s.set f (min (s.get f i j + n) (2 ^ f.width - 1)) i j

/-- Whether the address of a field's register lies from `lo` to below `hi`. -/
def cellIn (lo hi : Nat) (c : RCell) : Bool := lo ≤ c.id / 256 && c.id / 256 < hi

/-- Every register whose address lies from `lo` to below `hi` at its reset value (R8). -/
def State.resetRegs (s : State) (lo hi : Nat) : State :=
  { s with regs := s.regs.filter fun c => !cellIn lo hi c }

/-- The cells of one function (first index `i`) with addresses from `lo` to below `hi` at their reset values. -/
def State.resetRegsAt (s : State) (lo hi i : Nat) : State :=
  { s with regs := s.regs.filter fun c => !(cellIn lo hi c && c.i = i) }

/-- Base address of block window `n` (R316). -/
def winBase (n : Nat) : Nat := 0x00F000000000 + n * 0x01000000

/-! Outcomes. -/

/-- Whether the blocks are out of reset: power is up and no hold is in force (R20, R335, R391). -/
def State.live (s : State) : Bool := s.phase = .running || s.phase = .halted

/-- The register file with the cells of some windows taken from another one, in the order of identities. -/
def blendRegs (r : Reach) (a b : List RCell) : List RCell :=
  (b.filter fun c => r.reg c.id).foldr (fun c l => rput l c.id c.i c.j c.val) (a.filter fun c => !r.reg c.id)

/-- The effect `t` of a command on `s`, within the command's reach. The timer clock and the queue lie in no reach. -/
def confine (r : Reach) (s t : State) : State :=
  { s with
    regs := blendRegs r s.regs t.regs
    freeCount := if r.has .free then t.freeCount else s.freeCount
    phase := if r.has .phase then t.phase else s.phase
    mem := if r.has .mem then t.mem else s.mem
    stale := if r.has .mem then t.stale else s.stale
    out := if r.has .out then t.out else s.out
    bus := if r.has .bus then t.bus else s.bus
    mbx := if r.has .mbx then t.mbx else s.mbx
    flt := if r.has .flt then t.flt else s.flt
    map := if r.has .map then t.map else s.map
    fch := if r.has .fch then t.fch else s.fch
    cdc := if r.has .cdc then t.cdc else s.cdc
    trk := if r.has .trk then t.trk else s.trk
    hbm := if r.has .hbm then t.hbm else s.hbm
    bur := if r.has .bur then t.bur else s.bur
    hif := if r.has .hif then t.hif else s.hif
    cmd := if r.has .cmd then t.cmd else s.cmd
    nvm := if r.has .nvm then t.nvm else s.nvm
    bpm := if r.has .bpm then t.bpm else s.bpm
    udm := if r.has .udm then t.udm else s.udm
    cry := if r.has .cry then t.cry else s.cry
    sys := if r.has .sys then t.sys else s.sys
    media := if r.has .media then t.media else s.media
    cpr := if r.has .cpr then t.cpr else s.cpr
    fw := if r.has .fw then t.fw else s.fw
    pwr := if r.has .pwr then t.pwr else s.pwr
    oob := if r.has .oob then t.oob else s.oob
    tap := if r.has .tap then t.tap else s.tap
    latch := if r.has .latch then t.latch else s.latch }

/-- The outcome of a command of the blocks: its effect while they are out of reset, and none while they are held. -/
def act (r : Reach) (s : State) (f : State → State) : Host.Outcome State Fault Refusal :=
  if s.live then .next (confine r s (f s)) else .next s

/-- A free value (`Config.freeValue`) and the state with the draw counted. -/
def State.fresh (s : State) : Nat × State :=
  (Config.freeValue s.freeCount, { s with freeCount := s.freeCount + 1 })

/-- Free bytes (`Config.freeBytes`) and the state with the draw counted. -/
def State.freshBytes (s : State) (n : Nat) : List Byte × State :=
  (Config.freeBytes s.freeCount n, { s with freeCount := s.freeCount + 1 })

/-- Something sent out of the device. -/
def State.emit (s : State) (o : Out) : State := { s with out := s.out ++ [o] }

/-! Memory. -/

/-- What a byte that nothing has written reads as (log entry 4). -/
def memDefault : Byte := 0

/-- The stored byte of an address. -/
def memGet (m : List Host.Cell) (a : Nat) : Byte := (tget m a).getD memDefault

/-- The canonical form of memory: addresses strictly rising and no listed byte equal to the default. -/
def memWf : List Host.Cell → Bool
  | [] => true
  | [(_, b)] => b ≠ memDefault
  | (a, b) :: (c, d) :: r => decide (a < c) && decide (b ≠ memDefault) && memWf ((c, d) :: r)

/-- Memory with one byte written. Writing the default removes the entry. -/
def memPut (m : List Host.Cell) (a : Nat) (b : Byte) : List Host.Cell :=
  if b = memDefault then tdel m a else tput m a b

/-- End of HBM (R316). -/
def hbmEnd : Nat := 0x001200000000

/-- Base and end of buffer SRAM (R316). -/
def sramBase : Nat := 0x004000000000
def sramEnd : Nat := 0x004008000000

/-- The pseudo-channel of an HBM address (R163). -/
def pcOf (a : Nat) : Nat := a / 64 % 64

/-- Whether the line of an HBM address cannot be read: the stack reports it uncorrectable, or its pseudo-channel is
failed (R163, R183). -/
def lineBad (s : State) (a : Nat) : Bool :=
  s.hbm.unreadable.contains (a / 64) || bits (s.get HBM_PC_FAILED_FAILED) (pcOf a) 1 = 1

/-- Base, size in bytes and parity base of window `w` when it is enabled (R164, R165). -/
def winOf (s : State) (w : Nat) : Option (Nat × Nat × Nat) :=
  if s.on HBM_WINw_BASE_EN w then
    some (s.get HBM_WINw_BASE_BASE w * 4096, s.get HBM_WINw_SIZE_PAGES w * 4096, s.get HBM_WINw_PAR_PAR w * 4096)
  else none

/-- The enabled window that holds an address, searched from window `w` for `n` windows. -/
def findWin (s : State) (a w n : Nat) : Option (Nat × Nat × Nat) :=
  match n with
  | 0 => none
  | m + 1 =>
    match winOf s w with
    | some (b, z, p) => if b ≤ a ∧ a < b + z then some (b, z, p) else findWin s a (w + 1) m
    | none => findWin s a (w + 1) m

/-- Address of the parity byte of the byte at `a` in a window (R164). -/
def parityAddr (b p a : Nat) : Nat :=
  let g := (a - b) / 64 / 15
  p + g / 64 * 4096 + (15 * g + 15) % 64 * 64 + a % 64

/-- Addresses of the bytes of the group of `a` at the same place in their lines, parity first, without `a` itself; a
line beyond the window's end is left out and so counts as zero (R164). -/
def groupOthers (b z p a : Nat) : List Nat :=
  let g := (a - b) / 64 / 15
  parityAddr b p a ::
    ((List.range 15).map fun k => b + (15 * g + k) * 64 + a % 64).filter fun x => x ≠ a && x < b + z

/-- One byte of HBM as a reader gets it: stored, rebuilt from its group, or a data error (R165). -/
def hbmByte (s : State) (a : Nat) : Option Byte :=
  if lineBad s a then
    match findWin s a 0 16 with
    | none => none
    | some (b, z, p) =>
      let o := groupOthers b z p a
      if o.any (lineBad s) then none else some (o.foldl (fun x y => x ^^^ memGet s.mem y) 0)
  else some (memGet s.mem a)

/-- The free value of an undefined byte of an allocated buffer (R294). -/
def staleByte (s : State) (a : Nat) : Option Byte :=
  (s.stale.find? fun x => decide (x.first ≤ a) && decide (a < x.last)).map fun x => Config.freeByte x.draw a

/-- Undefined ranges without one byte, which has been written. -/
def staleCut (l : List Stale) (a : Nat) : List Stale :=
  l.flatMap fun x =>
    if x.first ≤ a ∧ a < x.last then
      (if x.first < a then [{ x with last := a }] else []) ++ (if a + 1 < x.last then [{ x with first := a + 1 }] else [])
    else [x]

/-- One byte of any memory as a reader gets it: an uncorrectable or poisoned word of buffer SRAM and a byte of a
tightly-coupled memory with a parity error are data errors (R299, R304). -/
def readByte (s : State) (a : Nat) : Option Byte :=
  if a < hbmEnd then hbmByte s a
  else if s.bpm.bad.contains (a / 8) || s.udm.parity.contains a then none
  else some ((staleByte s a).getD (memGet s.mem a))

/-- One byte written to HBM: the parity byte of its group follows, a line on a failed pseudo-channel is skipped, and a
line that was unreadable is readable again (R163, R164, R183). -/
def hbmPut (s : State) (a : Nat) (b : Byte) : State :=
  let failed := bits (s.get HBM_PC_FAILED_FAILED) (pcOf a) 1 = 1
  let m1 := match findWin s a 0 16 with
    | none => s.mem
    | some (wb, _, p) =>
      let pa := parityAddr wb p a
      if bits (s.get HBM_PC_FAILED_FAILED) (pcOf pa) 1 = 1 then s.mem
      else memPut s.mem pa (memGet s.mem pa ^^^ (hbmByte s a).getD (memGet s.mem a) ^^^ b)
  { s with
    mem := if failed then m1 else memPut m1 a b
    hbm := { s.hbm with unreadable := s.hbm.unreadable.filter (· ≠ a / 64) } }

/-- One byte written. -/
def writeByte (s : State) (a : Nat) (b : Byte) : State :=
  if a < hbmEnd then hbmPut s a b
  else { s with mem := memPut s.mem a b, stale := staleCut s.stale a, udm := { s.udm with parity := s.udm.parity.filter (· ≠ a) } }

/-- `n` bytes from `a` (R2: little-endian order of addresses), or none where a byte has a data error. -/
def readBytes (s : State) (a n : Nat) : Option (List Byte) :=
  match n with
  | 0 => some []
  | m + 1 =>
    match readByte s a, readBytes s (a + 1) m with
    | some b, some r => some (b :: r)
    | _, _ => none

/-- Bytes written from `a` upward, one by one. -/
def putBytes (s : State) (a : Nat) (l : List Byte) : State :=
  match l with
  | [] => s
  | b :: r => putBytes (writeByte s a b) (a + 1) r

/-- The groups of parity windows that `n` bytes from `a` touch: first byte, end, address of the parity line (R164). -/
def groupsIn (s : State) (a n : Nat) : List (Nat × Nat × Nat) :=
  (List.range 16).flatMap fun w =>
    match winOf s w with
    | none => []
    | some (b, z, p) =>
      let lo := max a b
      let hi := min (a + n) (b + z)
      if hi ≤ lo then []
      else
        (List.range ((hi - b + 959) / 960 - (lo - b) / 960)).map fun k =>
          let g := b + ((lo - b) / 960 + k) * 960
          (g, min (g + 960) (b + z), parityAddr b p g)

/-- The XOR of the lines of a group: byte `k` of its parity line. -/
def xorLine (l : List Byte) (k : Nat) : Byte := (List.range 15).foldl (fun x j => x ^^^ l.getD (64 * j + k) 0) 0

/-- The parity of a group after a write of `l` from `a`: a group written whole has its parity line computed from the data alone, a
line on a failed pseudo-channel is skipped; a group written in part counts (R164, R183). -/
def groupParity (a : Nat) (l : List Byte) (s : State) (g : Nat × Nat × Nat) : State :=
  if g.1 < a ∨ a + l.length < g.2.1 then { s with hbm := { s.hbm with partials := s.hbm.partials + 1 } }
  else if bits (s.get HBM_PC_FAILED_FAILED) (pcOf g.2.2) 1 = 1 then s
  else
    let d := (l.drop (g.1 - a)).take (g.2.1 - g.1)
    { s with
      mem := (List.range 64).foldl (fun m k => memPut m (g.2.2 + k) (xorLine d k)) s.mem
      hbm := { s.hbm with unreadable := s.hbm.unreadable.filter (· ≠ g.2.2 / 64) } }

/-- Bytes written from `a` upward by one access, with the parity of the groups that they touch (R164). -/
def writeBytes (s : State) (a : Nat) (l : List Byte) : State :=
  let t := putBytes s a l
  if hbmEnd ≤ a then t else (groupsIn s a l.length).foldl (groupParity a l) t

/-! Lines read from HBM, words read from buffer SRAM (R165, R299). -/

/-- What a read of an uncorrectable word of buffer SRAM records: UE, BPM_ERR, CNT6 and the group's UE_CNT (R299). -/
def noteWord (s : State) (w : Nat) : State :=
  let g := (w * 8 - sramBase) / 0x400000
  let s := ((s.set BPM_STATUS_UE 1).bump BPM_CNTn_COUNT 6).bump BPM_GRPg_STATE_UE_CNT g
  ((s.set BPM_ERR_ADDR (w * 8)).set BPM_ERR_GROUP g).set BPM_ERR_POISON (b2n (s.bpm.poisoned.contains w))

/-- What a read of one line of HBM records: rebuilt from parity, or not served. -/
def noteLine (s : State) (a : Nat) : State :=
  if hbmEnd ≤ a ∨ !lineBad s a then s
  else if (hbmByte s a).isSome then (s.set HBM_STATUS_RECON 1).bump HBM_CNTn_COUNT 0
  else (s.set HBM_STATUS_LINE_UNCORR 1).bump HBM_CNTn_COUNT 1

/-- The lines of a range of HBM recorded, or the words of one of buffer SRAM. -/
def noteLines (s : State) (a n : Nat) : State :=
  if hbmEnd ≤ a then (s.bpm.bad.filter fun w => decide (a < w * 8 + 8) && decide (w * 8 < a + n)).foldl noteWord s
  else (List.range ((a + n + 63) / 64 - a / 64)).foldl (fun s k => noteLine s ((a / 64 + k) * 64)) s

/-- The number that a byte list spells, first byte least significant (R2). -/
def leNat : List Byte → Nat
  | [] => 0
  | b :: r => b.toNat + 256 * leNat r

/-- `n` bytes of a number, least significant first (R2). -/
def natLe (v n : Nat) : List Byte :=
  match n with
  | 0 => []
  | m + 1 => BitVec.ofNat 8 (v % 256) :: natLe (v / 256) m

/-- A little-endian number of `n` bytes in memory, or none on a data error. -/
def readLe (s : State) (a n : Nat) : Option Nat := (readBytes s a n).map leNat

/-- A little-endian number of `n` bytes in memory; 0 where a byte has a data error. -/
def readLeD (s : State) (a n : Nat) : Nat := (readLe s a n).getD 0

/-- A little-endian number of `n` bytes written to memory. -/
def writeLe (s : State) (a n v : Nat) : State := writeBytes s a (natLe v n)

/-- Memory below `a + n` from `a` written with zeros. -/
def zeroBytes (s : State) (a n : Nat) : State := writeBytes s a (List.replicate n 0)

end Sys2Proof.Machine
end

