-- ==== Sys2Proof/Machine/FltBase.lean ====
section
/-! DEFINITION. The fault monitor's counting of events, windows and log entries (R411 to R413, R418). What a lasting
declaration does to other blocks is in FltAct. -/

namespace Sys2Proof.Machine

/-- Element index of a channel, a pseudo-channel, a core, a lane, a tracked word, an engine, and the single elements
(Table 19.3). A die's element index is its global die number. -/
def elemChannel (ch : Nat) : Nat := 0x0800 + ch
def elemPc (p : Nat) : Nat := 0x0900 + p
def elemCore (n : Nat) : Nat := 0x0940 + n
def elemEngine (e : Nat) : Nat := 0x0980 + e
def elemEntropy : Nat := 0x0984
def elemMbx : Nat := 0x0985
def elemMedia : Nat := 0x0986
def elemWord (i : Nat) : Nat := 0x0990 + i
def elemLane (g lane : Nat) : Nat := 0x1000 + g * 0x80 + lane

/-- The class of an element index; none where Table 19.3 assigns the index to no element. -/
def elemClass (e : Nat) : Option Nat :=
  if e < 0x0800 then some 0
  else if e < 0x0900 then some 1
  else if e < 0x0940 then some 2
  else if e < 0x0980 then some 3
  else if e < 0x0984 then some 6
  else if e = 0x0984 then some 7
  else if e = 0x0985 then some 8
  else if e = 0x0986 then some 9
  else if 0x0990 ≤ e ∧ e < 0x09D0 then some 5
  else if 0x1000 ≤ e ∧ (e - 0x1000) / 0x80 < 39 ∧ e % 0x80 < 73 then some 4
  else none

/-- Milliseconds of the timer clock, compared in 48 bits (R412). -/
def nowMs (s : State) : Nat := s.timeUs / 1000 % 2 ^ 48

/-- A new entry of the error log in the layout of Table 19.7, overwriting the oldest (R418). -/
def fltLog (s : State) (kind elem cls cause data : Nat) : State :=
  let q := s.get FLT_LOG_SEQ_SEQ
  let i := q % 1024
  let s := s.set FLT_LOGi_V (s.timeUs - s.flt.resetUs) i 0
  let s := s.set FLT_LOGi_V (q + elem * 2 ^ 32 + cls * 2 ^ 48 + kind * 2 ^ 56) i 1
  let s := s.set FLT_LOGi_V (cause % 2 ^ 16) i 2
  let s := s.set FLT_LOGi_V data i 3
  s.set FLT_LOG_SEQ_SEQ (q + 1)

/-- The start of an element's window in milliseconds. -/
def elemT0 (s : State) (e : Nat) : Nat := s.get FLT_ELEMe_T0 e + tgetD s.flt.t0Hi e 0 * 2 ^ 32

/-- An element's window start set. -/
def setElemT0 (s : State) (e t : Nat) : State :=
  let s := s.set FLT_ELEMe_T0 t e
  { s with flt := { s.flt with t0Hi := tput s.flt.t0Hi e (t / 2 ^ 32) } }

/-- A window count written to an element, and to its word-tracker entry when it is a word. -/
def setWinCnt (s : State) (e v : Nat) : State :=
  let s := s.set FLT_ELEMe_WIN_CNT v e
  if 0x0990 ≤ e ∧ e < 0x09D0 then s.set FLT_WORDi_WIN_CNT v (e - 0x0990) else s

/-- WIN_CNT, T0 and LASTING of an element cleared (R415). -/
def fltClear (s : State) (e : Nat) : State := (setElemT0 (setWinCnt s e 0) e 0).set FLT_ELEMe_LASTING 0 e

/-- The window of an event: a new fixed window, or one more event of the open one (R412). -/
def fltWindow (s : State) (e c : Nat) : State :=
  let t := nowMs s
  if s.get FLT_ELEMe_WIN_CNT e = 0 ∨ t - elemT0 s e ≥ s.get FLT_CLASSc_CFG_W_MS c then
    setElemT0 (setWinCnt s e 1) e t
  else setWinCnt s e (min (s.get FLT_ELEMe_WIN_CNT e + 1) 255)

/-- A lasting declaration: LASTING of the element, FLT_STATUS, FLT_LAST and the kind 2 entry (R412, R418). -/
def fltDeclare (s : State) (e c code data : Nat) : State :=
  let s := s.set FLT_ELEMe_LASTING 1 e
  let s := s.set FLT_STATUS_LASTING 1
  let s := s.set FLT_LAST_ELEMENT e
  let s := s.set FLT_LAST_CLASS c
  fltLog s 2 e c code data

/-- One event of element `e` under R412. `once` marks the events that are lasting whatever N is. Answers the state and
whether this event declared the element lasting. -/
def fltCount (s : State) (e code data : Nat) (once : Bool) : State × Bool :=
  match elemClass e with
  | none => (s, false)
  | some c =>
    let s := s.set FLT_ELEMe_TOTAL (min (s.get FLT_ELEMe_TOTAL e + 1) 65535) e
    let s := if s.on FLT_CLASSc_CFG_LOG c then fltLog s 1 e c code data else s
    if s.on FLT_ELEMe_LASTING e then (s, false)
    else
      let s := fltWindow s e c
      let n := s.get FLT_CLASSc_CFG_N c
      if once || (0 < n && n ≤ s.get FLT_ELEMe_WIN_CNT e) then (fltDeclare s e c code data, true)
      else (s, false)

/-- An event whose class has no lasting action: an invalid media address (R11), a binding violation (R325). -/
def fltPlain (s : State) (e code data : Nat) : State := (fltCount s e code data false).1

end Sys2Proof.Machine
end

