-- ==== Sys2Proof/Machine/HifBase.lean ====
section
/-! DEFINITION. Functions and links (R187, R192, R193), MSI-X and INTx (R199 to R201), and error reporting (R211). -/

namespace Sys2Proof.Machine

/-- The link of a function (Table 8.2). -/
def linkOf (s : State) (f : Nat) : Nat :=
  if s.on HIF_PORTp_CFG_BIFURCATE (f / 64) then 2 * (f / 64) + f % 64 / 32 else 2 * (f / 64)

/-- The physical function of a link. -/
def pfOf (l : Nat) : Nat := l / 2 * 64 + l % 2 * 32

/-- Whether a function is the physical function of its link, and a virtual function's number. -/
def isPf (s : State) (f : Nat) : Bool := f = pfOf (linkOf s f)
def vfNum (s : State) (f : Nat) : Nat := f - pfOf (linkOf s f)

/-- Whether a link is there: the port is enabled, and the second half only on a bifurcated port (R187). -/
def linkEnabled (s : State) (l : Nat) : Bool :=
  s.on HIF_PORTp_CFG_ENABLE (l / 2) && (l % 2 = 0 || s.on HIF_PORTp_CFG_BIFURCATE (l / 2))

/-- The limit of TOTAL_VFS (R192). -/
def vfLimit (s : State) (l : Nat) : Nat := if s.on HIF_PORTp_CFG_BIFURCATE (l / 2) then 31 else 63

/-- The functions that a link can have, physical function first. -/
def linkFns (s : State) (l : Nat) : List Nat := (List.range (s.get HIF_LINKl_CFG_TOTAL_VFS l + 1)).map fun n => pfOf l + n

/-- Whether a function is present. -/
def fnPresent (s : State) (f : Nat) : Bool := s.on HIF_FNf_STATE_PRESENT f

/-- Whether a virtual function exists by the SR-IOV capability of its link (R193). -/
def vfExists (s : State) (f : Nat) : Bool :=
  let p := pfOf (linkOf s f)
  let n := vfNum s f
  s.on CFG_SRIOV_CTL_VFE p && decide (1 ≤ n) && decide (n ≤ s.get CFG_SRIOV_NUM_NUMVFS p)
    && (s.on CFG_SRIOV_CTL_ARI p || decide (n ≤ 7))

/-- The number of MSI-X vectors of a function (R199). -/
def vecCount (s : State) (f : Nat) : Nat :=
  if isPf s f then s.get HIF_LINKl_CFG_MSIX_PF (linkOf s f) else s.get HIF_LINKl_CFG_MSIX_VF (linkOf s f)

/-- BAR0 size in bytes, and the bound B on queue pairs (R197, R215). -/
def bar0Bytes (s : State) (f : Nat) : Nat := 2 ^ s.get HIF_LINKl_CFG_BAR0_SIZE (linkOf s f) * 1024
def barPairs (s : State) (f : Nat) : Nat := (bar0Bytes s f - 4096) / 8 - 1

/-- Bus Master Enable of a function. -/
def bme (s : State) (f : Nat) : Bool := s.on HIF_FNf_STATE_BME f

/-- Whether a vector's message is held back (R200). -/
def vecGated (s : State) (f v : Nat) : Bool := s.on VEC_CTRL_MASK f v || s.on CFG_MSIX_FMASK f || !bme s f

/-- The message of a vector sent to the address of its table entry, with the entry's data (R200). -/
def sendMsix (s : State) (f v : Nat) : State := s.emit (.msix f v (s.get VEC_ADDR_V f v) (s.get VEC_DATA_V f v))

/-- A vector fires (R200): its message is sent, or its PBA bit is set; at most once while that bit is set. -/
def fireVec (s : State) (f v : Nat) : State :=
  if !s.on CFG_MSIX_EN f ∨ vecCount s f ≤ v ∨ s.on VEC_PBA_P f v then s
  else if vecGated s f v then s.set VEC_PBA_P 1 f v
  else sendMsix s f v

/-- The message of one set PBA bit sent when nothing holds it back (R200). -/
def pbaSend (s : State) (f v : Nat) : State :=
  if s.on VEC_PBA_P f v ∧ !vecGated s f v then sendMsix (s.set VEC_PBA_P 0 f v) f v else s

/-- Every pending vector of a function tried. -/
def pbaSendAll (s : State) (f : Nat) : State := (List.range (vecCount s f)).foldl (fun s v => pbaSend s f v) s

/-- The key of a queue of a function. -/
def qkey (f q : Nat) : Nat := f * 65536 + q

/-- Entries of a completion queue that host software has not released. -/
def cqUsed (c : Cq) : Nat := (c.tail + c.size - c.head) % (max c.size 1)

/-- Whether a completion queue of the function has entries and interrupts enabled. -/
def intPending (s : State) (f : Nat) : Bool :=
  s.cmd.cqs.any fun x => x.1 / 65536 = f && x.2.ien && cqUsed x.2 ≠ 0

/-- Whether INTA of a physical function is to be asserted (R201). -/
def intaWanted (s : State) (f : Nat) : Bool :=
  isPf s f && !s.on CFG_MSIX_EN f && !s.on CFG_COMMAND_INTDIS f && !s.on NVME_INTM_BIT f && intPending s f

/-- INTA of a function brought to what R201 asks, with its message. -/
def updInta (s : State) (f : Nat) : State :=
  let want := intaWanted s f
  let now := s.hif.inta.contains f
  if want = now then s
  else if want then ({ s with hif := { s.hif with inta := f :: s.hif.inta } }).emit (.intx f true)
  else ({ s with hif := { s.hif with inta := s.hif.inta.filter (· ≠ f) } }).emit (.intx f false)

/-! Error reporting (R211). -/

/-- Bits of the Uncorrectable and Correctable Error Status registers. -/
def uncDlp : Nat := 4
def uncPoison : Nat := 12
def uncFcp : Nat := 13
def uncCto : Nat := 14
def uncUnexp : Nat := 16
def uncOverflow : Nat := 17
def uncMalformed : Nat := 18
def uncEcrc : Nat := 19
def uncUr : Nat := 20
def uncInternal : Nat := 22
def corRx : Nat := 0
def corBadTlp : Nat := 6
def corBadDllp : Nat := 7
def corRollover : Nat := 8
def corReplay : Nat := 12
def corAdvisory : Nat := 13
def corInternal : Nat := 14

/-- An error message of a severity (0 correctable, 1 non-fatal, 2 fatal) sent where the function's Device Control, or
SERR# Enable for the uncorrectable ones, enables it, with its Device Status bit set. -/
def errMessage (s : State) (f sev : Nat) : State :=
  let s := if sev = 0 then s.set CFG_DEVCTL_CED 1 f else if sev = 1 then s.set CFG_DEVCTL_NFED 1 f else s.set CFG_DEVCTL_FED 1 f
  let en :=
    if sev = 0 then s.on CFG_DEVCTL_CERE f
    else if sev = 1 then s.on CFG_DEVCTL_NFERE f || s.on CFG_COMMAND_SERR f
    else s.on CFG_DEVCTL_FERE f || s.on CFG_COMMAND_SERR f
  if en then s.emit (.errMsg (linkOf s f) sev) else s

/-- A correctable error of function `f`. -/
def aerCor (s : State) (f bit : Nat) : State :=
  let s := s.set CFG_AER_COR_STS (setBits (s.get CFG_AER_COR_STS f) bit 1 1) f
  if bits (s.get CFG_AER_CORMASK_MASK f) bit 1 = 1 then s else errMessage s f 0

/-- An uncorrectable error logged: status bit, and the header of the first error (R211). -/
def aerLogUnc (s : State) (f bit header : Nat) : State :=
  let s := if s.get CFG_AER_UNC_STS f = 0 then (s.set CFG_AER_CAP_FIRST bit f).set CFG_AER_HDR_V header f else s
  s.set CFG_AER_UNC_STS (setBits (s.get CFG_AER_UNC_STS f) bit 1 1) f

/-- An uncorrectable error of function `f`, reported with its severity where it is not masked. -/
def aerUnc (s : State) (f bit header : Nat) : State :=
  let s := aerLogUnc s f bit header
  if bits (s.get CFG_AER_UNCMASK_MASK f) bit 1 = 1 then s
  else errMessage s f (if bits (s.get CFG_AER_UNCSEV_SEV f) bit 1 = 1 then 2 else 1)

/-- The function that logs an error of a request to function `f`: itself, or the physical function of its link where it does not
exist (log entry 107). -/
def errFn (s : State) (f : Nat) : Nat := if fnPresent s f then f else pfOf (linkOf s f)

/-- A posted memory write to a function that is answered with Unsupported Request: dropped, logged, and reported where the function's
Unsupported Request Reporting is enabled (R195, R198, R210, R211). The header log holds a free value (log entry 6). -/
def urLog (s : State) (f header : Nat) : State :=
  let s := s.set CFG_DEVCTL_URD 1 f
  if s.on CFG_DEVCTL_URRE f then aerUnc s f uncUr header else aerLogUnc s f uncUr header
def urPosted (s : State) (f : Nat) : State :=
  let (h, s) := s.fresh
  urLog s (errFn s f) h

/-- An error reported as Advisory Non-Fatal where its severity is non-fatal, and as fatal where it is fatal
(R206, R207). -/
def aerAdvisory (s : State) (f bit header : Nat) : State :=
  if bits (s.get CFG_AER_UNCSEV_SEV f) bit 1 = 1 then aerUnc s f bit header
  else aerCor (aerLogUnc s f bit header) f corAdvisory

/-- A configuration write that is answered with Unsupported Request: the completion carries it, so it is Advisory Non-Fatal where its
severity is non-fatal (R193, R211). -/
def urAnswered (s : State) (f : Nat) : State :=
  let (h, s) := s.fresh
  let g := errFn s f
  let s := s.set CFG_DEVCTL_URD 1 g
  (if s.on CFG_DEVCTL_URRE g then aerAdvisory s g uncUr h else aerLogUnc s g uncUr h).emit (.cfgCpl f 1)

end Sys2Proof.Machine
end

