-- ==== Sys2Proof/Machine/CmdBase.lean ====
section
/-! DEFINITION. Command contexts, lock records, completion slots and asynchronous events: the operations that every
command shares (R219 to R227, R250, R419). -/

namespace Sys2Proof.Machine

/-! Status fields: bits [7:0] the code, [10:8] the type, [14] DNR where the spec gives it (Table 10.9). -/

def stOk : Nat := 0
def stInvalidOpcode : Nat := 0x01
def stInvalidField : Nat := 0x02
def stCidConflict : Nat := 0x03
def stDataTransfer : Nat := 0x04
def stInternal : Nat := 0x06
def stAbortRequested : Nat := 0x07
def stSqDeletion : Nat := 0x08
def stInvalidNs : Nat := 0x0B
def stSequence : Nat := 0x0C
def stSanitizeFailed : Nat := 0x1C
def stSanitizeInProgress : Nat := 0x1D
def stWriteProtected : Nat := 0x20
def stPlacementHandle : Nat := 0x2A
def stLbaRange : Nat := 0x80
def stFormatInProgress : Nat := 0x84
def stCqInvalid : Nat := 0x100
def stInvalidQid : Nat := 0x101
def stInvalidQsize : Nat := 0x102
def stAbortLimit : Nat := 0x103
def stAerLimit : Nat := 0x105
def stInvalidSlot : Nat := 0x106
def stInvalidImage : Nat := 0x107
def stInvalidVector : Nat := 0x108
def stInvalidLog : Nat := 0x109
def stInvalidFormat : Nat := 0x10A
def stInvalidQdel : Nat := 0x10C
def stNotSaveable : Nat := 0x10D
def stNotChangeable : Nat := 0x10E
def stFwNeedsReset : Nat := 0x111
def stFwMaxTime : Nat := 0x112
def stFwProhibited : Nat := 0x113
def stOverlap : Nat := 0x114
def stNsCapacity : Nat := 0x115
def stNsUnavailable : Nat := 0x116
def stNsAttached : Nat := 0x118
def stNsPrivate : Nat := 0x119
def stNsNotAttached : Nat := 0x11A
def stCtrlList : Nat := 0x11C
def stWriteFault : Nat := 0x280
def stUnrecovered : Nat := 0x281
def stGuard : Nat := 0x282
def stAppTag : Nat := 0x283
def stRefTag : Nat := 0x284
def stCompare : Nat := 0x285
def stAccessDenied : Nat := 0x286
/-- A vendor status of Table 10.9, with DNR as the table gives. -/
def stVendor (code : Nat) (dnr : Bool) : Nat := 0x100 + code + (if dnr then 0x4000 else 0)
def stBurrowNotAvailable : Nat := stVendor 0xC0 true
def stPinLimit : Nat := stVendor 0xC1 true
def stVerifyFailed : Nat := stVendor 0xC2 false
def stNotSmaller : Nat := stVendor 0xC3 true
def stDieState : Nat := stVendor 0xC4 true
def stRequalFailed : Nat := stVendor 0xC5 true
def stEpochExhausted : Nat := stVendor 0xC6 true
def stRebuildPending : Nat := stVendor 0xC7 false
def stNoConfirmation : Nat := stVendor 0xC8 true
def stSecQueueFull : Nat := stVendor 0xC9 false
def stNoDump : Nat := stVendor 0xCA true
def stDstTooSmall : Nat := stVendor 0xCB true
def stCompInvalid : Nat := stVendor 0xCC true

/-! Contexts. -/

/-- Number of shared contexts, and the first index of those reserved for admin and for tunnelled commands (R220). -/
def ctxShared : Nat := 326648
def ctxAdmin (f : Nat) : Nat := ctxShared + 4 * f
def ctxTunnel : Nat := ctxShared + 1024

def ctxOf (s : State) (c : Nat) : Option Ctx := tget s.cmd.ctxs c
def setCtx (s : State) (c : Nat) (x : Ctx) : State := { s with cmd := { s.cmd with ctxs := tput s.cmd.ctxs c x } }

/-- A context changed, where it is held. -/
def updCtx (s : State) (c : Nat) (g : Ctx → Ctx) : State :=
  match ctxOf s c with
  | some x => setCtx s c (g x)
  | none => s

/-- CMD_FNf_STATE.LOCK_WAIT recomputed: commands of the function that wait for a grant (R239). -/
def countWaits (s : State) (f : Nat) : State :=
  s.set CMD_FNf_STATE_LOCK_WAIT ((s.cmd.ctxs.filter fun x => x.2.f = f && x.2.stage = .waiting).length) f

/-- The number of contexts that CMD keeps free for functions below CTX_MIN (R220). -/
def ctxKept (s : State) : Nat :=
  (List.range 256).foldl (fun n f => n + (s.get CMD_FNf_CFG0_CTX_MIN f - s.get CMD_FNf_STATE_CTX_USED f)) 0

/-- The context that an entry of queue `q` of function `f` takes (R220), the lowest free one of its kind (log entry
12). -/
def pickCtx (s : State) (f q : Nat) : Option Nat :=
  if q = 0 then tfree s.cmd.ctxs (ctxAdmin f) 4
  else
    let used := s.get CMD_FNf_STATE_CTX_USED f
    let free := s.get CMD_CTX_FREE_COUNT
    if used < s.get CMD_FNf_CFG0_CTX_MIN f ∨ (used < s.get CMD_FNf_CFG1_CTX_MAX f ∧ ctxKept s < free) then
      tfree s.cmd.ctxs 0 ctxShared
    else none

/-- A context taken: the counts of shared contexts move (R220). -/
def takeCtx (s : State) (c : Nat) (x : Ctx) : State :=
  let s := setCtx s c x
  if c < ctxShared then
    let s := s.set CMD_CTX_FREE_COUNT (s.get CMD_CTX_FREE_COUNT - 1)
    s.set CMD_FNf_STATE_CTX_USED (s.get CMD_FNf_STATE_CTX_USED x.f + 1) x.f
  else s

/-- A context given back. Fetch that found no context resumes for its function; a function that holds none of its own resumes too, since
none of its own can free (R220, log entry 108). -/
def freeCtx (s : State) (c : Nat) : State :=
  match ctxOf s c with
  | none => s
  | some x =>
    let left := tdel s.cmd.ctxs c
    let s := { s with cmd := { s.cmd with ctxs := left, noCtx := s.cmd.noCtx.filter fun f => f ≠ x.f && left.any fun y => y.2.f = f } }
    let s :=
      if c < ctxShared then
        let s := s.set CMD_CTX_FREE_COUNT (s.get CMD_CTX_FREE_COUNT + 1)
        s.set CMD_FNf_STATE_CTX_USED (s.get CMD_FNf_STATE_CTX_USED x.f - 1) x.f
      else s
    countWaits s x.f

/-! Lock records (R225 to R228). -/

/-- Whether two records of different commands conflict (R225). -/
def recConflict (a b : LockRec) : Bool :=
  a.ns = b.ns && (a.whole || b.whole || (decide (a.first < b.first + b.count) && decide (b.first < a.first + a.count)))
    && (a.excl || b.excl || a.whole || b.whole)

/-- The records of a context. -/
def ctxRecs (x : Ctx) : List LockRec := x.recA.toList ++ x.recB.toList

/-- Whether nothing registered earlier by another context conflicts with a record (R227). -/
def grantable (s : State) (c : Nat) (r : LockRec) : Bool :=
  s.cmd.ctxs.all fun x => x.1 = c || (ctxRecs x.2).all fun o => !(decide (o.seq < r.seq) && recConflict o r)

/-- A record granted where it can be. -/
def tryGrant (s : State) (c : Nat) (r : LockRec) : LockRec := { r with granted := r.granted || grantable s c r }

/-- Records registered in one cycle, with one place in registration order; those that nothing blocks are granted,
together (R227). -/
def registerRecs (s : State) (c : Nat) (a b : Option LockRec) : State :=
  let q := s.cmd.recSeq
  let a := a.map fun r => tryGrant s c { r with seq := q, granted := false }
  let b := b.map fun r => tryGrant s c { r with seq := q, granted := false }
  let both := (a.toList ++ b.toList).all fun r => r.granted
  let fix (r : Option LockRec) : Option LockRec := r.map fun r => { r with granted := both }
  let s := { s with cmd := { s.cmd with recSeq := q + 1 } }
  updCtx s c fun x => { x with
    recA := match fix a with | some r => some r | none => x.recA
    recB := match fix b with | some r => some r | none => x.recB }

/-- Whether every record of a context is granted. -/
def allGranted (x : Ctx) : Bool := (ctxRecs x).all fun r => r.granted

/-- All records of a context released. -/
def releaseRecs (s : State) (c : Nat) : State := updCtx s c fun x => { x with recA := none, recB := none }

/-! Asynchronous events (R250). -/

/-- Whether a function's controller is enabled. -/
def ctrlOn (s : State) (f : Nat) : Bool := s.on NVME_CC_EN f

/-- An event of a type, an information value and a log page for one controller; it waits until ASYNC_EVENT_POST. -/
def aenAdd (s : State) (f ty info lid : Nat) : State :=
  if ctrlOn s f then { s with nvm := { s.nvm with events := s.nvm.events ++ [⟨f, ty, info, lid⟩] } } else s

/-- An entry of the Error Information log, newest first, 256 kept (R419). -/
def errAdd (s : State) (f sqid cid status nsid : Nat) : State :=
  let e : ErrEntry := ⟨s.nvm.errCount + 1, f, sqid, cid, status, nsid, s.get FLT_LOG_SEQ_SEQ⟩
  { s with nvm := { s.nvm with errLog := (e :: s.nvm.errLog).take 256, errCount := s.nvm.errCount + 1 } }

/-- One event of an element; a lasting declaration adds an error entry (R412, R419). -/
def fltElem (s : State) (e code data : Nat) (once : Bool) : State × Bool :=
  let (s, lasting) := fltCount s e code data once
  (if lasting then errAdd s 0 0xFFFF 0xFFFF stInternal 0 else s, lasting)

/-- Whether a status adds an error entry (R419). -/
def errStatus (st : Nat) : Bool := bits st 8 3 = 2 || bits st 0 11 = stInternal || bits st 0 11 = stDataTransfer

/-! Completion slots (R223). -/

/-- Whether a completion queue has no room for one more entry behind those that wait (R223). -/
def cqNoRoom (c : Cq) : Bool := c.size ≤ cqUsed c + c.wait.length + 1

/-- The head of a submission queue. -/
def sqHead (s : State) (f q : Nat) : Nat := match tget s.cmd.sqs (qkey f q) with | some x => x.head | none => 0

/-- A completion slot reserved for an entry. An entry that finds the queue full waits with its context (R223). -/
def reserveSlot (s : State) (f cq : Nat) (e : Cpl) : State :=
  match tget s.cmd.cqs (qkey f cq) with
  | none => s
  | some q =>
    let s := if cqNoRoom q then (s.set CMD_STATUS_CQ_FULL 1).bump CMD_CNTn_COUNT 7 else s
    { s with cmd := { s.cmd with cqs := tput s.cmd.cqs (qkey f cq) { q with wait := q.wait ++ [e] } } }

/-- Whether a command slot of the out-of-band endpoint waits for a context (R402). -/
def slotHolds (s : State) (k c : Nat) : Bool :=
  match tget s.oob.slots k with | some r => r.ctx = some c | none => false

/-- Contexts of tunnelled commands that have committed and whose request is gone given back (R399). -/
def freeOrphans (s : State) : State :=
  (s.cmd.ctxs.filter fun x => x.2.stage = .committed && (match x.2.tunnel with | some k => !slotHolds s k x.1 | none => false)).foldl
    (fun s x => freeCtx s x.1) s

/-- A command's status made final: the entry gets its slot, its records are released (R221, R223, R227). A tunnelled
command keeps its result for the request in its slot; where that request is gone, it ends (R399, R402). -/
def commitCtx (s : State) (c status dw0 dw1 : Nat) : State :=
  match ctxOf s c with
  | none => s
  | some x =>
    let s := if errStatus status then errAdd s x.f x.sq x.sqe.cid status x.sqe.nsid else s
    let s := setCtx s c { x with stage := .committed, err := status, dw0 := dw0, dw1 := dw1, recA := none, recB := none }
    let s := countWaits s x.f
    match x.tunnel with
    | some k => if slotHolds s k c then s else freeCtx s c
    | none => reserveSlot s x.f x.cq ⟨c, x.sq, sqHead s x.f x.sq, x.sqe.cid, status, dw0, dw1⟩

/-- An internal operation of a context ended; a dropped command whose last one ends gives its context back (R221). -/
def opEnd (s : State) (c : Nat) : State :=
  match ctxOf s c with
  | none => s
  | some x =>
    let n := x.left - 1
    if x.stage = .draining ∧ n = 0 then freeCtx s c else setCtx s c { x with left := n }

/-- The first error of a command kept. -/
def ctxErr (s : State) (c st : Nat) : State := updCtx s c fun x => if x.err = 0 then { x with err := st } else x

/-! Dropping commands (R210, R236). -/

/-- The pending read requests of a context that have no tag yet forgotten: they never started. -/
def dropWaitReqs (s : State) (c : Nat) : State :=
  let mine (r : Req) : Bool := match r.kind with | .data k _ => k = c | .list k _ _ => k = c | .sqe _ _ _ => false
  let n := (s.hif.reqWait.filter mine).length
  let s := { s with hif := { s.hif with reqWait := s.hif.reqWait.filter fun r => !mine r } }
  updCtx s c fun x => { x with left := x.left - n }

/-- Staging sectors of a write whose data has not fully arrived given back without retirement (R210, R231): their
entries leave the table, and the sectors join the free list. -/
def releaseUnstaged (s : State) (c : Nat) : State :=
  match ctxOf s c with
  | none => s
  | some x =>
    if x.staged then s
    else
      let mine := x.stg.filter fun i => (tget s.hbm.stg i).isSome
      let s := { s with hbm := { s.hbm with
        stg := mine.foldl tdel s.hbm.stg
        stgFree := { s.hbm.stgFree with back := s.hbm.stgFree.back ++ mine }
        held := s.hbm.held.filter fun h => h.ctx ≠ c } }
      let s := s.set HBM_DIRTY_SECTORS s.hbm.stg.length
      let s := s.set HBM_STG_FREE_COUNT (s.get HBM_STG_FREE_COUNT + mine.length)
      setCtx s c { x with stg := [] }

/-- A command dropped without a completion entry: its records and context go when its internal operations have ended;
an entry in the firmware ring or taken by firmware counts as one such operation (R210, R222, R236). -/
def dropCtx (s : State) (c : Nat) : State :=
  match ctxOf s c with
  | none => s
  | some x =>
    if x.stage = .draining then s
    else
    let s := if x.stage = .fetching then s else s.bump CMD_CNTn_COUNT 9
    let s := dropWaitReqs (releaseUnstaged s c) c
    let s := { s with nvm := { s.nvm with aers := s.nvm.aers.filter (· ≠ c) } }
    let fw := match x.stage with | .ringed _ => 1 | .taken => 1 | _ => 0
    let s := updCtx s c fun y => { y with stage := .draining, left := y.left + fw }
    match ctxOf s c with
    | some y => if y.left = 0 then freeCtx s c else countWaits s x.f
    | none => s

/-- The contexts of a function in index order. -/
def fnCtxs (s : State) (f : Nat) : List Nat :=
  (s.cmd.ctxs.filter fun x => x.2.f = f && x.2.tunnel = none).map Prod.fst

/-- The entries of a function's completion queues that wait for a slot thrown away. -/
def discardWaits (s : State) (f : Nat) : State :=
  { s with cmd := { s.cmd with cqs := s.cmd.cqs.map fun x => if x.1 / 65536 = f then (x.1, { x.2 with wait := [] }) else x } }

/-- Every command of a function dropped, and its waiting completion entries discarded (R210, R236). -/
def dropAll (s : State) (f : Nat) : State := (fnCtxs s f).foldl dropCtx (discardWaits s f)

/-- Fetch of a function stopped until its controller is enabled again. -/
def stopFetch (s : State) (f : Nat) : State :=
  if s.cmd.stopped.contains f then s else { s with cmd := { s.cmd with stopped := f :: s.cmd.stopped } }

/-- CSTS.CFS of a controller set (R206, R214, Table 9.5): fetch stops and its commands are dropped. -/
def setCfs (s : State) (f : Nat) : State :=
  ((dropAll (stopFetch s f) f).set NVME_CSTS_CFS 1 f).set CMD_STATUS_CFS 1

/-- Change flags set; ALERT_N is asserted when an enabled one becomes 1 (R404). -/
def raiseFlags (s : State) (d : Nat) : State :=
  let fresh := (d &&& (2 ^ 11 - 1)) &&& ((2 ^ 11 - 1) ^^^ (s.oob.chg &&& (2 ^ 11 - 1)))
  let s := { s with oob := { s.oob with chg := s.oob.chg ||| d } }
  if fresh &&& s.oob.chgEn = 0 then s
  else
    let s := s.set OOB_STATUS_ALERT 1
    if s.oob.alert then s else ({ s with oob := { s.oob with alert := true } }).emit (.pin .alertN (some false))

/-- The 16 bytes of a completion entry. -/
def cqeBytes (e : Cpl) (phase : Bool) : List Byte :=
  natLe e.dw0 4 ++ natLe e.dw1 4 ++ natLe (e.sqHead + e.sq * 65536) 4 ++ natLe (e.cid + b2n phase * 65536 + e.status * 131072) 4

/-- The Error event of a fatal fault posted to a controller's oldest outstanding request, at once, since the controller stops
(R417, Tables 9.5 and 10.8); it waits with the other events where no request is outstanding or no entry can be written. -/
def postFatal (s : State) (f : Nat) : State :=
  match s.nvm.aers.find? fun a => (match ctxOf s a with | some y => y.f = f | none => false), tget s.cmd.cqs (qkey f 0) with
  | some a, some q =>
    if s.nvm.blocked.any (fun b => b.1 = f && b.2 / 256 = 0) ∨ !bme s f ∨ q.size ≤ cqUsed q + 1 then aenAdd s f 0 0x03 0x01
    else
      let wrap := q.size ≤ q.tail + 1
      let cid := match ctxOf s a with | some y => y.sqe.cid | none => 0
      let s := s.emit (.memWrite f (q.base + 16 * q.tail) (cqeBytes ⟨a, 0, sqHead s f 0, cid, 0, 0x010300, 0⟩ q.phase) false false)
      let s := { s with
        cmd := { s.cmd with cqs := tput s.cmd.cqs (qkey f 0) ({ q with
          tail := if wrap then 0 else q.tail + 1
          phase := if wrap then !q.phase else q.phase }) }
        nvm := { s.nvm with aers := s.nvm.aers.filter (· ≠ a), blocked := s.nvm.blocked ++ [(f, 0x01)] } }
      let s := s.bump CMD_CNTn_COUNT 1
      updInta (if q.ien then fireVec s f q.iv else s) f
  | _, _ => aenAdd s f 0 0x03 0x01

/-- The fatal controller fault (R417): FLT_FATAL, the log entry, CFS on every controller, the Error event, and the
Uncorrectable Internal Error of every link that is up. Drive Functional 0 is read from FLT_FATAL.ACTIVE; its change flag,
bit 10, is set (R404). -/
def fatalFault (s : State) (cause : Nat) : State :=
  let s := if s.on FLT_FATAL_ACTIVE then s else raiseFlags s (2 ^ 10)
  let s := ((s.set FLT_FATAL_ACTIVE 1).set FLT_FATAL_CAUSE cause).set FLT_STATUS_FATAL 1
  let s := fltLog s 3 0xFFFF 0xFF cause 0
  let s := { s with flt := { s.flt with fatalUs := some (s.flt.fatalUs.getD s.timeUs) } }
  let s := errAdd s 0 0xFFFF 0xFFFF stInternal 0
  let s := (List.range 256).foldl (fun s f => if fnPresent s f ∧ ctrlOn s f then setCfs (postFatal s f) f else s) s
  (List.range 8).foldl (fun s l => if s.on HIF_LINKl_STATUS_UP l then aerUnc s (pfOf l) uncInternal 0 else s) s

end Sys2Proof.Machine
end

