-- ==== Sys2Proof/Machine/HifOps.lean ====
section
/-! DEFINITION. Read requests of the links: tags, timeouts and quarantine (R204, R205), and the host addresses of a
command's data (R202, R206). -/

namespace Sys2Proof.Machine

/-- Timeout and quarantine in µs of a Completion Timeout Value (Table 8.8). -/
def ctoTimes (v : Nat) : Nat × Nat :=
  if v = 1 then (90, 200)
  else if v = 2 then (9000, 20000)
  else if v = 5 then (50000, 110000)
  else if v = 6 then (200000, 420000)
  else if v = 9 then (850000, 1800000)
  else if v = 10 then (3300000, 7000000)
  else if v = 13 then (12000000, 26000000)
  else if v = 14 then (60000000, 128000000)
  else (40000, 100000)

/-- The timeout of a request of function `f`, and its quarantine (R205). -/
def ctoUs (s : State) (f : Nat) : Nat := (ctoTimes (s.get CFG_DEVCTL2_CTOV f)).1
def quarUs (s : State) (f : Nat) : Nat :=
  (ctoTimes (if s.on CFG_DEVCTL2_CTOD f then 0 else s.get CFG_DEVCTL2_CTOV f)).2

/-- The tag pool of a link (R204). -/
def tagPool (s : State) (l : Nat) : Nat :=
  let p := pfOf l
  if s.on HIF_LINKl_STATUS_FLIT l ∧ s.on CFG_DEVCTL3_TAG14 p then 8192
  else if s.on CFG_DEVCTL2_TAG10 p then 768
  else if s.on CFG_DEVCTL_EXTTAG p then 256
  else 32

/-- Whether a tag of a link is in use or quarantined. -/
def tagTaken (s : State) (l t : Nat) : Bool :=
  (s.hif.reqs.any fun r => r.link = l && r.tag = t) || (s.hif.quar.any fun q => q.link = l && q.tag = t)

/-- The lowest free tag of a link from `t` on, of `n` tags (log entry 12). -/
def freeTagFrom (s : State) (l t n : Nat) : Option Nat :=
  match n with
  | 0 => none
  | m + 1 => if tagTaken s l t then freeTagFrom s l (t + 1) m else some t

/-- OUT_READS of a function and QUAR_NOW of a link brought up to date. -/
def countReads (s : State) (f l : Nat) : State :=
  let s := s.set HIF_FNf_STATE_OUT_READS ((s.hif.reqs.filter fun r => r.f = f).length) f
  s.set HIF_LINKl_CNT_QUAR_NOW ((s.hif.quar.filter fun q => q.link = l).length) l

/-- A read request sent with a tag, or kept waiting for one or for Bus Master Enable (R204, R209). TAG_LOW is set while
the free pool is empty. -/
def sendReq (s : State) (r : Req) : State :=
  let wait (s : State) : State := { s with hif := { s.hif with reqWait := s.hif.reqWait ++ [r] } }
  if !bme s r.f then wait s
  else
    match freeTagFrom s r.link 0 (tagPool s r.link) with
    | none => wait (s.set HIF_STATUS_TAG_LOW 1)
    | some t =>
      let r := { r with tag := t, sentUs := s.timeUs }
      let s := { s with hif := { s.hif with reqs := s.hif.reqs ++ [r] } }
      let s := if (freeTagFrom s r.link 0 (tagPool s r.link)).isNone then s.set HIF_STATUS_TAG_LOW 1 else s
      (countReads s r.f r.link).emit (.memRead r.link t r.f r.addr r.len (s.on CFG_DEVCTL_RO r.f))

/-- The requests that wait tried again, in order. -/
def retryReqs (s : State) : State :=
  s.hif.reqWait.foldl sendReq { s with hif := { s.hif with reqWait := [] } }

/-- The outstanding request of a tag. -/
def reqOf (s : State) (l t : Nat) : Option Req := s.hif.reqs.find? fun r => r.link = l && r.tag = t

/-- A request ended: its tag is free again, and waiting requests are tried. -/
def freeReq (s : State) (r : Req) : State :=
  let s := { s with hif := { s.hif with reqs := s.hif.reqs.filter fun x => !(x.link = r.link && x.tag = r.tag) } }
  retryReqs (countReads s r.f r.link)

/-- A request ended with its tag quarantined from now (R205). -/
def quarReq (s : State) (silent : Bool) (r : Req) : State :=
  let s := { s with hif := { s.hif with
    reqs := s.hif.reqs.filter fun x => !(x.link = r.link && x.tag = r.tag)
    quar := s.hif.quar ++ [⟨r.link, r.tag, s.timeUs + quarUs s r.f, silent⟩] } }
  countReads s r.f r.link

/-! Host addresses of a command's data. -/

/-- The memory page size of a function's controller. -/
def pageSize (s : State) (f : Nat) : Nat := 2 ^ (12 + s.get NVME_CC_MPS f)

/-- A read request of a command for a list or for data: `left` counts it. -/
def ctxReq (s : State) (c : Nat) (kind : ReqKind) (addr len : Nat) : State :=
  match ctxOf s c with
  | none => s
  | some x =>
    let s := setCtx s c { x with left := x.left + 1 }
    sendReq s ⟨linkOf s x.f, 0, x.f, kind, addr, len, [], s.timeUs⟩

/-- The most bytes that one read of a function asks for: its Max_Read_Request_Size (R196). -/
def maxRead (s : State) (f : Nat) : Nat := 128 * 2 ^ min 5 (s.get CFG_DEVCTL_MRRS f)

/-- The PRP list at `a` read as far as it is needed and as its page goes, at most the Max_Read_Request_Size at once. -/
def askPrpList (s : State) (c a : Nat) : State :=
  match ctxOf s c with
  | none => s
  | some x =>
    let p := pageSize s x.f
    let want := (x.dmaNeed + p - 1) / p
    ctxReq s c (.list c false 0) a (min (min (want * 8) (p - a % p)) (maxRead s x.f))

/-- An SGL segment at `a` of `n` bytes read, at most the Max_Read_Request_Size at once. -/
def askSegment (s : State) (c a n : Nat) : State :=
  match ctxOf s c with
  | none => s
  | some x => ctxReq s c (.list c true (n - maxRead s x.f)) a (min n (maxRead s x.f))

/-- An SGL descriptor: address, length, type. -/
def sglDesc (l : List Byte) : Nat × Nat × Nat := (leNat (l.take 8), leNat ((l.drop 8).take 4), (leNat ((l.drop 15).take 1)) / 16)

/-- One SGL descriptor applied: a data block extends the ranges, a bit bucket only takes bytes, a segment is read. -/
def takeSgl (s : State) (c : Nat) (d : Nat × Nat × Nat) : State :=
  match ctxOf s c with
  | none => s
  | some x =>
    if x.dmaNeed = 0 then s
    else if d.2.2 = 0 then
      let n := min d.2.1 x.dmaNeed
      setCtx s c { x with dma := x.dma ++ [(d.1, n)], dmaNeed := x.dmaNeed - n }
    else if d.2.2 = 2 ∨ d.2.2 = 3 then askSegment s c d.1 d.2.1
    else ctxErr (setCtx s c { x with dmaNeed := 0 }) c stInvalidField

/-- The addresses of a command's data asked for: `n` bytes (R206). The first range is taken from the entry itself. -/
def startDma (s : State) (c n : Nat) : State :=
  match ctxOf s c with
  | none => s
  | some x =>
    if n = 0 then s
    else if x.sqe.psdt ≠ 0 then
      takeSgl (setCtx s c { x with dma := [], dmaNeed := n }) c (x.sqe.dptr1, x.sqe.dptr2 % 2 ^ 32, x.sqe.dptr2 / 2 ^ 60)
    else
      let p := pageSize s x.f
      let a := min n (p - x.sqe.dptr1 % p)
      let r := n - a
      if r = 0 then setCtx s c { x with dma := [(x.sqe.dptr1, a)], dmaNeed := 0 }
      else if r ≤ p then setCtx s c { x with dma := [(x.sqe.dptr1, a), (x.sqe.dptr2, r)], dmaNeed := 0 }
      else askPrpList (setCtx s c { x with dma := [(x.sqe.dptr1, a)], dmaNeed := r }) c x.sqe.dptr2

/-- The host addresses of the `n` bytes of the destination of Compress or Decompress, whose PRP entry is CDW14 and CDW15
(R257): an entry within one page is the address, any other names a PRP list. -/
def startDst (s : State) (c n : Nat) : State :=
  match ctxOf s c with
  | none => s
  | some x =>
    let a := x.sqe.cdw14 + x.sqe.cdw15 * 2 ^ 32
    if a % pageSize s x.f + n ≤ pageSize s x.f then setCtx s c { x with dma := [(a, n)], dmaNeed := 0 }
    else askPrpList (setCtx s c { x with dma := [], dmaNeed := n }) c a

/-- The 8 B numbers of a byte string. -/
def words8 (l : List Byte) : List Nat := (List.range (l.length / 8)).map fun k => leNat ((l.drop (8 * k)).take 8)

/-- Entries of a PRP list taken, the part that was read ending at address `e`: each gives a page; the last entry of a page of a list that
is not enough names the next list, and a part that ends before its page is followed by the next one. -/
def takePrps (s : State) (c e : Nat) (l : List Nat) : State :=
  match l with
  | [] => (match ctxOf s c with | some x => if x.dmaNeed = 0 then s else askPrpList s c e | none => s)
  | a :: r =>
    match ctxOf s c with
    | none => s
    | some x =>
      let p := pageSize s x.f
      if x.dmaNeed = 0 then s
      else if r = [] ∧ p < x.dmaNeed ∧ e % p = 0 then askPrpList s c a
      else
        let n := min p x.dmaNeed
        takePrps (setCtx s c { x with dma := x.dma ++ [(a, n)], dmaNeed := x.dmaNeed - n }) c e r

/-- A part of a list or a segment of a command has arrived; `e` is the address at its end, `rest` what follows it of its segment. -/
def listArrived (s : State) (c : Nat) (sgl : Bool) (e rest : Nat) (d : List Byte) : State :=
  let s := if sgl then
      (List.range (d.length / 16)).foldl (fun s k => takeSgl s c (sglDesc ((d.drop (16 * k)).take 16))) s
    else takePrps s c e (words8 d)
  let more := match ctxOf s c with | some x => sgl && rest ≠ 0 && x.dmaNeed ≠ 0 | none => false
  opEnd (if more then askSegment s c e rest else s) c

/-- The part of some ranges from byte `off` for `n` bytes. -/
def cutRanges (l : List (Nat × Nat)) (off n : Nat) : List (Nat × Nat) :=
  match l with
  | [] => []
  | (a, k) :: r =>
    if n = 0 then []
    else if k ≤ off then cutRanges r (off - k) n
    else
      let m := min n (k - off)
      (a + off, m) :: cutRanges r 0 (n - m)

/-- Data written to host memory at some ranges, one TLP for each piece up to the Max_Payload_Size; `ro` is the
function's Enable Relaxed Ordering (R202). `ep off n` says whether the `n` bytes at `off` of the data fail the SRAM check: a TLP with
such bytes has its EP bit set (R208). -/
def pieceFuel : Nat := 40000
def emitPieces (ep : Nat → Nat → Bool) (s : State) (f mps fuel off a : Nat) (d : List Byte) : State :=
  match fuel with
  | 0 => s
  | k + 1 =>
    if d = [] then s
    else
      let p := d.take mps
      emitPieces ep (s.emit (.memWrite f a p (s.on CFG_DEVCTL_RO f) (ep off p.length))) f mps k (off + mps) (a + mps) (d.drop mps)

/-- Data written to the ranges of host memory in order; its first byte is byte `off` of what `ep` speaks of. -/
def writeChecked (ep : Nat → Nat → Bool) (s : State) (f off : Nat) (l : List (Nat × Nat)) (d : List Byte) : State :=
  match l with
  | [] => s
  | (a, n) :: r =>
    writeChecked ep (emitPieces ep s f (128 * 2 ^ min 2 (s.get CFG_DEVCTL_MPS f)) pieceFuel off a (d.take n)) f (off + n) r (d.drop n)

/-- Data written to the ranges of host memory in order, none of which fails a check. -/
def writeRanges (s : State) (f : Nat) (l : List (Nat × Nat)) (d : List Byte) : State := writeChecked (fun _ _ => false) s f 0 l d

/-- Data of a command written to host memory from byte `off` of its buffer. -/
def ctxWrite (s : State) (c off : Nat) (d : List Byte) : State :=
  match ctxOf s c with
  | none => s
  | some x => writeRanges s x.f (cutRanges x.dma off d.length) d

/-- Whether every address of a command's data is known. -/
def dmaReady (x : Ctx) : Bool := x.dmaNeed = 0

end Sys2Proof.Machine
end

