-- ==== Sys2Proof/Machine/SealOps.lean ====
section
/-! DEFINITION. Byte strings, derived keys and GCM sealing (R43, R50, R270, R272). -/

namespace Sys2Proof.Machine

/-- Quotient rounded up; by 0 it is 0. -/
def ceilDiv (a b : Nat) : Nat := (a + b - 1) / b

/-- The number in bytes [a, a+n) of a list, little-endian. -/
def leAt (l : List Byte) (a n : Nat) : Nat := leNat ((l.drop a).take n)

/-- A byte string of exactly `n` bytes: cut, or filled with zeros. -/
def fit (l : List Byte) (n : Nat) : List Byte := l.take n ++ List.replicate (n - l.length) 0

/-- The unit ID as 16 bytes, and a 32-bit number as 4 bytes big-endian (R270). -/
def unitId (s : State) : List Byte := natLe (s.get SYS_UNIT_ID_V 0 0) 8 ++ natLe (s.get SYS_UNIT_ID_V 0 1) 8
def be32 (x : Nat) : List Byte := (natLe x 4).reverse

/-- ASCII bytes of a label. -/
def ascii (t : String) : List Byte := t.toList.map fun c => BitVec.ofNat 8 c.toNat

/-- The key derived for a label and a generation (R270). -/
def derive (s : State) (label : List Byte) (gen : Nat) : List Byte :=
  Config.deriveKey Config.rootKey (be32 1 ++ label ++ [0] ++ unitId s ++ be32 gen ++ be32 256)

/-- The 16 upper-case hexadecimal digits of a 64-bit number in ASCII (R43). -/
def hex16 (x : Nat) : List Byte :=
  (List.range 16).map fun k => let d := bits x (60 - 4 * k) 4; BitVec.ofNat 8 (if d < 10 then 48 + d else 55 + d)

/-- A label of the Sett's records: its text and the Sett instance (Table 11.5). -/
def settLabel (s : State) (t : String) : List Byte := ascii t ++ hex16 s.sys.sett.instance_

/-- A Sett page of 4,096 B sealed under SETT-REC: 4,064 B, then a drawn nonce in 16 B, which is the additional data, then the tag
(R347, R360; the nonce's place in its field: log entry 111). -/
def settPage4k (s : State) (pt : List Byte) : List Byte × State :=
  let (n, s) := s.fresh
  let nonce := natLe n 12
  let key := derive s (ascii "SETT-REC") 0
  let c := Config.gcmEnc key nonce (fit nonce 16) (fit pt 4064)
  (c ++ fit nonce 16 ++ Config.gcmTag key nonce (fit nonce 16) c, s)

/-- A new anchor page (Table 15.6): its sequence rises. The addresses of the slot table are firmware's choice. -/
def writeAnchor (s : State) : State :=
  let s := { s with sys := { s.sys with sett := { s.sys.sett with anchorSeq := s.sys.sett.anchorSeq + 1 } } }
  let x := s.sys.sett
  let (a, s) := s.fresh
  let (b, s) := s.fresh
  let (p, s) := settPage4k s (natLe 0xA4C5 2 ++ natLe 0 2 ++ natLe x.anchorSeq 8 ++ natLe x.levelMark 1 ++ natLe 0 3
    ++ natLe (a % 2 ^ 42) 8 ++ natLe (b % 2 ^ 42) 8 ++ natLe x.instance_ 8)
  s.emit (.settRecord true p)

/-- Plaintext sealed: ciphertext and tag (R272). -/
def sealBytes (key nonce aad pt : List Byte) : List Byte :=
  let c := Config.gcmEnc key nonce aad pt
  c ++ Config.gcmTag key nonce aad c

end Sys2Proof.Machine
end

