-- ==== Sys2Proof/Machine/CryOps.lean ====
section
/-! DEFINITION. The key store and the XTS pipes: positions, binding, usage counts and changeover (R261 to R268), slot
blobs (R269) and derivation (R270, R271). -/

namespace Sys2Proof.Machine

/-- A key slot's position holds a key. -/
def keyValid (s : State) (slot pos : Nat) : Bool :=
  if pos = 0 then s.on CRY_SLOTs_STATE_VALID0 slot else s.on CRY_SLOTs_STATE_VALID1 slot

/-- The key pair of a position. -/
def keyOf (s : State) (slot pos : Nat) : List Byte := if pos = 0 then tgetD s.cry.key0 slot [] else tgetD s.cry.key1 slot []

/-- A position's key pair and its VALID bit set, or zeroized. -/
def setKey (s : State) (slot pos : Nat) (k : Option (List Byte)) : State :=
  if pos = 0 then
    let s := { s with cry := { s.cry with key0 := match k with | some v => tput s.cry.key0 slot v | none => tdel s.cry.key0 slot } }
    s.set CRY_SLOTs_STATE_VALID0 (b2n k.isSome) slot
  else
    let s := { s with cry := { s.cry with key1 := match k with | some v => tput s.cry.key1 slot v | none => tdel s.cry.key1 slot } }
    s.set CRY_SLOTs_STATE_VALID1 (b2n k.isSome) slot

/-- Bytes of the DRBG (R274): one generate request. -/
def drbg (s : State) (n : Nat) : List Byte × State :=
  let (b, s) := s.freshBytes n
  (b, { s with cry := { s.cry with drbgReqs := s.cry.drbgReqs + 1 } })

/-- The current position of a slot. -/
def curPos (s : State) (slot : Nat) : Nat := s.get CRY_SLOTs_STATE_CUR slot

/-- A changeover held (R267). -/
def holdChange (s : State) (slot : Nat) : State :=
  (s.set CRY_SLOTs_STATE_HELD 1 slot).set CRY_STATUS_LIMIT_HELD 1

/-- What reaching the limit does (R266, R267): a changeover starts, or is held. -/
def limitCheck (s : State) (slot : Nat) : State :=
  if s.get CRY_SLOTs_STATE_COUNT slot < s.get CRY_XTS_LIMIT_LIMIT ∨ (tget s.cry.changeover slot).isSome then s
  else if s.on CRY_SLOTs_STATE_OLD_VALID slot ∨ !s.on CRY_ENT_OK then holdChange s slot
  else
    let (k, s) := drbg s 64
    { s with cry := { s.cry with changeover := tput s.cry.changeover slot k } }

/-- The key-cache misses of `n` data units counted: a free number of them, since the spec gives no pipe its units (R263, log
entry 59). -/
def countMisses (s : State) (n : Nat) : State :=
  let k := Config.keyMisses (s.get CRY_CNTn_COUNT 0) (s.get CRY_CNTn_COUNT 1) % (n + 1)
  { s with cry := { s.cry with misses := s.cry.misses + k } }

/-! Slot blobs (R269). -/

/-- The 144 B that a slot blob wraps (Table 11.3). -/
def blobInner (s : State) (slot : Nat) : List Byte :=
  let fl := s.get CRY_SLOTs_STATE_VALID0 slot + 2 * s.get CRY_SLOTs_STATE_VALID1 slot + 4 * curPos s slot
    + 8 * s.get CRY_SLOTs_STATE_OLD_VALID slot + 16 * s.get CRY_SLOTs_STATE_HELD slot
  natLe slot 2 ++ natLe fl 1 ++ natLe 0 5 ++ natLe (s.get CRY_SLOTs_STATE_COUNT slot) 8
    ++ fit (keyOf s slot 0) 64 ++ fit (keyOf s slot 1) 64

/-- A slot's 160 B blob (Table 11.3). -/
def slotBlob (s : State) (slot : Nat) : List Byte :=
  natLe 0x6B59 2 ++ natLe slot 2 ++ natLe 1 1 ++ natLe 0 3 ++ fit (Config.kwpWrap (derive s (ascii "KEY-WRAP") 0) (blobInner s slot)) 152

/-- A slot blob exported by device firmware to the key area of the Sett, in place of the earlier one; and a blob removed. -/
def saveKey (s : State) (slot : Nat) : State :=
  { s with sys := { s.sys with
    keyArea := tput s.sys.keyArea slot (slotBlob s slot)
    keyCount := tput s.sys.keyCount slot (s.get CRY_SLOTs_STATE_COUNT slot) } }
def dropKey (s : State) (slot : Nat) : State :=
  { s with sys := { s.sys with keyArea := tdel s.sys.keyArea slot, keyCount := tdel s.sys.keyCount slot } }

/-- Slots that hold a key. -/
def keyedSlots (s : State) : List Nat := uniq (s.cry.key0.map Prod.fst ++ s.cry.key1.map Prod.fst)

/-- Every slot exported, at a clean shutdown and in the power-fail flush (R269). -/
def exportKeys (s : State) : State := (keyedSlots s).foldl saveKey s

/-- A slot exported once its COUNT has advanced by 2^31 since its last export (R269). -/
def exportDue (s : State) (slot : Nat) : State :=
  if tgetD s.sys.keyCount slot 0 + 2 ^ 31 ≤ s.get CRY_SLOTs_STATE_COUNT slot then saveKey s slot else s

/-- `n` data units encrypted under a position counted: only under CUR (R266). -/
def countUnits (s : State) (slot pos n : Nat) : State :=
  let s := (countMisses s n).bump CRY_CNTn_COUNT 0 n
  if pos = curPos s slot then
    limitCheck (exportDue (s.set CRY_SLOTs_STATE_COUNT (min (s.get CRY_SLOTs_STATE_COUNT slot + n) (2 ^ 48 - 1)) slot) slot) slot
  else s

/-- The data units of a sector: tweak and bytes (R261). -/
def dataUnits (lba4k : Bool) (sector : Nat) (d : List Byte) : List (Nat × List Byte) :=
  if lba4k then [(sector, d)]
  else (List.range 8).map fun i => (8 * sector + i, (d.drop (512 * i)).take 512)

/-- A sector encrypted under a slot's position; none where the position holds no key (R268). -/
def xtsSeal (s : State) (slot pos : Nat) (lba4k : Bool) (sector : Nat) (d : List Byte) : Option (List Byte) × State :=
  if keyValid s slot pos then
    let u := dataUnits lba4k sector d
    (some (u.flatMap fun x => Config.xtsEnc (keyOf s slot pos) x.1 x.2), countUnits s slot pos u.length)
  else (none, s.set CRY_STATUS_KEY_ABSENT 1)

/-- A sector decrypted under a slot's position; none where the position holds no key (R268). -/
def xtsOpen (s : State) (slot pos : Nat) (lba4k : Bool) (sector : Nat) (d : List Byte) : Option (List Byte) × State :=
  if keyValid s slot pos then
    let u := dataUnits lba4k sector d
    (some (u.flatMap fun x => Config.xtsDec (keyOf s slot pos) x.1 x.2), (countMisses s u.length).bump CRY_CNTn_COUNT 1 u.length)
  else (none, s.set CRY_STATUS_KEY_ABSENT 1)

/-- The position that a row uses for a slot: bound at the slot's first data unit in the row (R263). -/
def bindPos (s : State) (stripe row slot : Nat) : Nat × State :=
  match s.cry.binds.find? fun b => b.1 = stripe && b.2.1 = row && b.2.2.1 = slot with
  | some b => (b.2.2.2, s)
  | none => (curPos s slot, { s with cry := { s.cry with binds := (stripe, row, slot, curPos s slot) :: s.cry.binds } })

/-- The bindings of a row forgotten when its accumulator is free. -/
def unbindRow (s : State) (stripe row : Nat) : State :=
  { s with cry := { s.cry with binds := s.cry.binds.filter fun b => b.1 ≠ stripe || b.2.1 ≠ row } }

/-! Key commands (Table 11.2). -/

/-- GEN_PENDING bit of a slot. -/
def setPending (s : State) (slot v : Nat) : State :=
  s.set CRY_GEN_PENDINGi_PENDING (setBits (s.get CRY_GEN_PENDINGi_PENDING (slot / 64)) (slot % 64) 1 v) (slot / 64)

/-- Both positions zeroized with the slot's state. -/
def eraseSlot (s : State) (slot : Nat) : State :=
  let s := setKey (setKey s slot 0 none) slot 1 none
  let s := ((s.set CRY_SLOTs_STATE_OLD_VALID 0 slot).set CRY_SLOTs_STATE_HELD 0 slot).set CRY_SLOTs_STATE_COUNT 0 slot
  { s with cry := { s.cry with changeover := tdel s.cry.changeover slot } }

/-- GEN_KEY: none without entropy. -/
def genKey (s : State) (slot : Nat) : Option State :=
  if !s.on CRY_ENT_OK then none
  else
    let s := eraseSlot s slot
    let (k, s) := drbg s 64
    some (setPending ((setKey s slot 0 (some k)).set CRY_SLOTs_STATE_CUR 0 slot) slot 0)

/-- RETIRE_OLD: none while OLD_VALID is 0. -/
def retireOld (s : State) (slot : Nat) : Option State :=
  if s.on CRY_SLOTs_STATE_OLD_VALID slot then
    some ((setKey s slot (1 - curPos s slot) none).set CRY_SLOTs_STATE_OLD_VALID 0 slot)
  else none

/-- A changeover installed: CUR, OLD_VALID, COUNT, GEN_PENDING, GEN_CHANGE (R266). COUNT begins again, and so does its advance. -/
def installKey (s : State) (slot : Nat) : State :=
  match tget s.cry.changeover slot with
  | none => s
  | some k =>
    let p := 1 - curPos s slot
    let s := { s with
      cry := { s.cry with changeover := tdel s.cry.changeover slot }
      sys := { s.sys with keyCount := tdel s.sys.keyCount slot } }
    let s := (setKey s slot p (some k)).set CRY_SLOTs_STATE_CUR p slot
    let s := ((s.set CRY_SLOTs_STATE_OLD_VALID 1 slot).set CRY_SLOTs_STATE_COUNT 0 slot).set CRY_SLOTs_STATE_HELD 0 slot
    (setPending s slot 1).set CRY_STATUS_GEN_CHANGE 1

/-- A slot restored from the inner bytes of its blob (R269): COUNT is the stored one plus 2^32, saturating. A changeover of what the
slot held before is over. -/
def restoreSlot (s : State) (slot : Nat) (p : List Byte) : State :=
  let fl := leAt p 2 1
  let s := { s with cry := { s.cry with changeover := tdel s.cry.changeover slot } }
  let s := setKey s slot 0 (if bits fl 0 1 = 1 then some ((p.drop 16).take 64) else none)
  let s := setKey s slot 1 (if bits fl 1 1 = 1 then some ((p.drop 80).take 64) else none)
  let s := ((s.set CRY_SLOTs_STATE_CUR (bits fl 2 1) slot).set CRY_SLOTs_STATE_OLD_VALID (bits fl 3 1) slot)
  let s := s.set CRY_SLOTs_STATE_HELD (bits fl 4 1) slot
  s.set CRY_SLOTs_STATE_COUNT (min (leAt p 8 8 + 2 ^ 32) (2 ^ 48 - 1)) slot

/-- An authentication that failed: AUTH_FAIL of CRY_STATUS, and CRY_CNT4 (R273, R279). -/
def authFail (s : State) : State := (s.set CRY_STATUS_AUTH_FAIL 1).bump CRY_CNTn_COUNT 4

/-- IMPORT of a blob into a slot: the state with its result code (0 OK, 2 AUTH_FAIL, 4 BAD_ARG). -/
def importSlot (s : State) (slot : Nat) (blob : List Byte) : State × Nat :=
  if leAt blob 0 2 ≠ 0x6B59 ∨ leAt blob 4 1 ≠ 1 then (s, 4)
  else
    match Config.kwpUnwrap (derive s (ascii "KEY-WRAP") 0) (blob.drop 8) with
    | none => (authFail s, 2)
    | some p =>
      if leAt p 0 2 ≠ leAt blob 2 2 ∨ leAt p 0 2 ≠ slot then (authFail s, 2)
      else (restoreSlot s slot p, 0)

end Sys2Proof.Machine
end

