-- ==== Sys2Proof/Machine/PiOps.lean ====
section
/-! DEFINITION. The arithmetic of the stripe code (R100) and the guards of protection information (R95). -/

namespace Sys2Proof.Machine

/-! GF(2^8) with field polynomial 0x11D and g = 0x02. -/

/-- Multiplication by g. -/
def gfTimes2 (b : Byte) : Byte := if b.getLsbD 7 then (b <<< 1) ^^^ 0x1D else b <<< 1

/-- `b` times g to the power `m`. -/
def gfShift (m : Nat) (b : Byte) : Byte := Nat.rec b (fun _ x => gfTimes2 x) m

/-- The product of two elements. -/
def gfMul (a b : Byte) : Byte :=
  (List.range 8).foldl (fun r k => if b.getLsbD k then r ^^^ gfShift k a else r) 0

/-- The inverse of an element other than 0: its 254th power. -/
def gfInv (a : Byte) : Byte := (List.range 253).foldl (fun r _ => gfMul r a) a

/-- Byte by byte exclusive or; the longer list is cut. -/
def xorBytes (a b : List Byte) : List Byte := List.zipWith (· ^^^ ·) a b

/-- Bytes of a payload (R93). -/
def payloadBytes : Nat := 4160

/-- The exclusive or of payloads. -/
def xorAll (l : List (List Byte)) : List Byte := l.foldl xorBytes (List.replicate payloadBytes 0)

/-- The sum of g^m times the payload of member m over some data members (R100). -/
def gfSum (l : List (Nat × List Byte)) : List Byte := xorAll (l.map fun x => x.2.map (gfShift x.1))

/-- P and Q of the 32 data payloads (R100). -/
def parityP (l : List (List Byte)) : List Byte := xorAll l
def parityQ (l : List (List Byte)) : List Byte := gfSum ((List.range l.length).zip l)

/-- One data member recovered with P, or with Q alone (R100). -/
def oneMissing (p : List Byte) (rest : List (Nat × List Byte)) : List Byte := xorBytes p (xorAll (rest.map Prod.snd))
def oneMissingQ (b : Nat) (q : List Byte) (rest : List (Nat × List Byte)) : List Byte :=
  (xorBytes q (gfSum rest)).map (gfMul (gfInv (gfShift b 1)))

/-- Data member `b` recovered where `a` is missing too (R100). -/
def twoMissing (a b : Nat) (p q : List Byte) (rest : List (Nat × List Byte)) : List Byte :=
  let p1 := oneMissing p rest
  let q1 := xorBytes q (gfSum rest)
  (xorBytes q1 (p1.map (gfShift a))).map (gfMul (gfInv (gfShift a 1 ^^^ gfShift b 1)))

/-- The payload of member position `pos` of row `row` from the payloads of 32 other positions: `dataOf` and the parity
positions are those of R25. `d` gives the data member of a position, none for P and Q. -/
def recoverPos (isP isQ : Nat → Bool) (d : Nat → Option Nat) (pos : Nat) (got : Tbl (List Byte)) : List Byte :=
  let data := got.filterMap fun x => (d x.1).map fun m => (m, x.2)
  let p := (got.find? fun x => isP x.1).map Prod.snd
  let q := (got.find? fun x => isQ x.1).map Prod.snd
  let missing := (List.range 32).filter fun m => !(data.any fun x => x.1 = m)
  match d pos with
  | some b =>
    match p, q with
    | some p, some q =>
      match missing.find? fun m => m ≠ b with
      | some a => twoMissing a b p q data
      | none => oneMissing p data
    | some p, none => oneMissing p data
    | none, some q => oneMissingQ b q data
    | none, none => List.replicate payloadBytes 0
  | none =>
    let full : List (Nat × List Byte) :=
      match missing with
      | [] => data
      | a :: _ =>
        match p, q with
        | some p, _ => (a, oneMissing p data) :: data
        | none, some q => (a, oneMissingQ a q data) :: data
        | none, none => data
    if isP pos then xorAll (full.map Prod.snd) else gfSum full

/-! Guards. -/

/-- One bit of a CRC register of `w` bits, most significant bit first. -/
def crcBit (w poly r : Nat) : Nat := if r / 2 ^ (w - 1) % 2 = 1 then (r * 2 % 2 ^ w) ^^^ poly else r * 2 % 2 ^ w

/-- The 16-bit guard of 8 B protection information: polynomial 0x8BB7, start 0. -/
def guard16 (l : List Byte) : Nat :=
  l.foldl (fun r b => (List.range 8).foldl (fun x _ => crcBit 16 0x8BB7 x) (r ^^^ (b.toNat * 2 ^ 8))) 0

/-- The 64-bit guard of 16 B protection information: polynomial 0xAD93D23594C93659, reflected, start and final all
ones; `0x9A6C9329AC4BC9B5` is the reflected polynomial. -/
def guard64 (l : List Byte) : Nat :=
  (l.foldl (fun r b => (List.range 8).foldl
    (fun x _ => if x % 2 = 1 then (x / 2) ^^^ 0x9A6C9329AC4BC9B5 else x / 2) (r ^^^ b.toNat)) (2 ^ 64 - 1)) ^^^ (2 ^ 64 - 1)

end Sys2Proof.Machine
end

