-- ==== Sys2Proof/Machine/BpmOps.lean ====
section
/-! DEFINITION. Buffer pools, free lists and their checks (R293 to R297), narrow writes of buffer SRAM (R300), word
remap and lane steering (R301 to R303). -/

namespace Sys2Proof.Machine

/-- Base address, buffer size in bytes and buffer count of a pool (R293). -/
def poolBase (s : State) (p : Nat) : Nat := sramBase + s.get BPM_POOLn_CFG_BASE p * 65536
def poolSize (s : State) (p : Nat) : Nat := s.get BPM_POOLn_CFG_SIZE p * 512
def poolCount (s : State) (p : Nat) : Nat := s.get BPM_POOLn_CFG_COUNT p
def poolEnd (s : State) (p : Nat) : Nat := poolBase s p + poolSize s p * poolCount s p

/-- The pool that an address lies in. -/
def poolOf (s : State) (a : Nat) : Option Nat := (List.range 4).find? fun p => poolBase s p ≤ a && a < poolEnd s p

/-- Whether the geometry passes the checks of R293. -/
def poolsOk (s : State) : Bool :=
  (List.range 4).all fun p =>
    1 ≤ s.get BPM_POOLn_CFG_SIZE p && s.get BPM_POOLn_CFG_SIZE p ≤ 512 && 1 ≤ poolCount s p && poolEnd s p ≤ sramEnd
      && (List.range 4).all fun q => p = q || decide (poolEnd s p ≤ poolBase s q) || decide (poolEnd s q ≤ poolBase s p)

/-- FREE of a pool set, with MIN_FREE the lowest since its last read. -/
def setFree (s : State) (p n : Nat) : State :=
  (s.set BPM_POOLn_STATE_FREE n p).set BPM_POOLn_STATE_MIN_FREE (min (s.get BPM_POOLn_STATE_MIN_FREE p) n) p

/-- A pool's list discarded and its rebuild started (R297). -/
def startRebuild (s : State) (p : Nat) : State :=
  ({ s with bpm := { s.bpm with heads := tdel s.bpm.heads p } }).set BPM_POOLn_STATE_REBUILDING 1 p

/-- Links of a rebuilt list, in ascending address order (log entry 12). -/
def writeLinks (s : State) (l : List Nat) : State :=
  match l with
  | [] => s
  | a :: r => writeLinks (writeLe s a 8 (r.headD 0)) r

/-- Buffers of a pool whose bitmap bit is 0, ascending. -/
def freeBuffers (s : State) (p : Nat) : List Nat :=
  ((List.range (poolCount s p)).map fun k => poolBase s p + k * poolSize s p).filter fun a => !s.bpm.used.contains a

/-- Whether a link read from a buffer of pool `p` may be trusted (R297). -/
def linkOk (s : State) (p link : Nat) : Bool :=
  link = 0 || (poolOf s link = some p && (link - poolBase s p) % poolSize s p = 0 && !s.bpm.used.contains link)

/-- The `n` bytes of an allocated buffer undefined (R294). -/
def undefine (s : State) (a n : Nat) : State :=
  let (_, t) := s.fresh
  { t with stale := ⟨a, a + n, s.freeCount⟩ :: s.stale.filter fun x => decide (x.last ≤ a) || decide (a + n ≤ x.first) }

/-- The head of a pool's list taken, its contents undefined; a bad link starts a rebuild (R294, R295, R297). None while the list is
empty or being rebuilt. -/
def poolTake (s : State) (p : Nat) : Option (Nat × State) :=
  let h := tgetD s.bpm.heads p 0
  if h = 0 ∨ s.on BPM_POOLn_STATE_REBUILDING p then none
  else
    let s := { s with bpm := { s.bpm with used := h :: s.bpm.used } }
    let s := noteLines ((setFree s p (s.get BPM_POOLn_STATE_FREE p - 1)).bump BPM_CNTn_COUNT 0) h 8
    let t := undefine s h (poolSize s p)
    match readLe s h 8 with
    | some l =>
      if linkOk s p l then
        some (h, { t with bpm := { t.bpm with heads := if l = 0 then tdel t.bpm.heads p else tput t.bpm.heads p l } })
      else some (h, startRebuild (t.set BPM_STATUS_LIST_CORRUPT 1) p)
    | none => some (h, startRebuild (t.set BPM_STATUS_LIST_CORRUPT 1) p)

/-- The pools that can serve a size, smallest buffers first (R294). -/
def poolsFor (s : State) (size : Nat) : List Nat :=
  let ok := (List.range 4).filter fun p => size ≤ poolSize s p
  let ins (l : List Nat) (p : Nat) : List Nat :=
    (l.takeWhile fun q => poolSize s q ≤ poolSize s p) ++ p :: (l.dropWhile fun q => poolSize s q ≤ poolSize s p)
  ok.foldl ins []

/-- A buffer for a size (R294): from the smallest fitting pool, or from a larger one where the empty pool spills. -/
def bufferFor (s : State) (size : Nat) : Option (Nat × State) :=
  match poolsFor s size with
  | [] => none
  | p :: r =>
    match poolTake s p with
    | some x => some x
    | none =>
      if tgetD s.bpm.heads p 0 = 0 ∧ !s.on BPM_POOLn_STATE_REBUILDING p ∧ s.on BPM_POOLn_CFG_SPILL p then
        (r.findSome? fun q => poolTake s q).map fun x => (x.1, x.2.bump BPM_CNTn_COUNT 3)
      else none

/-- `n` buffers of one pool: all or none, never from another pool (R294). -/
def takeBuffers (s : State) (p n : Nat) : Option (List Nat × State) :=
  match n with
  | 0 => some ([], s)
  | m + 1 =>
    match poolTake s p with
    | none => none
    | some (a, t) => (takeBuffers t p m).map fun x => (a :: x.1, x.2)

/-- A returned pointer checked and pushed at the head of its list (R295, R296); queued while the list is rebuilt. -/
def freeBufferAt (s : State) (a : Nat) : State :=
  let reject (s : State) (reason : Nat) : State :=
    (((s.set BPM_STATUS_BAD_FREE 1).set BPM_BAD_FREE_ADDR a).set BPM_BAD_FREE_REASON reason).bump BPM_CNTn_COUNT 4
  match poolOf s a with
  | none => reject s 1
  | some p =>
    if (a - poolBase s p) % poolSize s p ≠ 0 then reject s 2
    else if !s.bpm.used.contains a then reject s 3
    else if s.on BPM_POOLn_STATE_REBUILDING p then { s with bpm := { s.bpm with freeQ := s.bpm.freeQ ++ [a] } }
    else
      let s := writeLe s a 8 (tgetD s.bpm.heads p 0)
      let s := { s with bpm := { s.bpm with
        heads := tput s.bpm.heads p a
        used := s.bpm.used.filter (· ≠ a)
        grants := s.bpm.grants.filter fun g => g.2 ≠ a } }
      (setFree s p (s.get BPM_POOLn_STATE_FREE p + 1)).bump BPM_CNTn_COUNT 1

/-- Whether a requester is the host port for a Read: the number of a command context that holds one (log entry 112). -/
def portRead (s : State) (who : Nat) : Bool :=
  match ctxOf s who with
  | some x => x.sq ≠ 0 && x.sqe.opcode = 2
  | none => false

/-- The words of a buffer all written: none of them is uncorrectable or waits in the merge buffer (R299, R300). -/
def healBuffer (s : State) (a n : Nat) : State :=
  let keep (w : Nat) : Bool := decide (w * 8 < a) || decide (a + n ≤ w * 8)
  { s with bpm := { s.bpm with
    bad := s.bpm.bad.filter keep
    poisoned := s.bpm.poisoned.filter keep
    merges := s.bpm.merges.filter fun m => m.sram ≠ 0 || keep m.word } }

/-- Size in bytes of the buffer at an address. -/
def bufferSize (s : State) (a : Nat) : Nat :=
  match poolOf s a with
  | some p => poolSize s p
  | none => 0

/-- A buffer given to a hardware requester. The host port writes the decrypted data of its Read to it at once (R294, log entry 112). -/
def grantTo (s : State) (who a : Nat) : State :=
  let s := { s with bpm := { s.bpm with grants := s.bpm.grants ++ [(who, a)] } }
  if portRead s who then healBuffer s a (bufferSize s a) else s

/-- Waiting requesters served in request order, up to the first that still finds no buffer (R294). -/
def serveWaiters (s : State) (fuel : Nat) : State :=
  match fuel with
  | 0 => s
  | n + 1 =>
    match s.bpm.waiters with
    | [] => s
    | (size, who) :: r =>
      match bufferFor s size with
      | none => s
      | some (a, t) => serveWaiters (grantTo { t with bpm := { t.bpm with waiters := r } } who a) n

/-- Buffers given back by a block: waiting requesters are then served (R294, R296). -/
def giveBuffers (s : State) (l : List Nat) : State :=
  let s := l.foldl freeBufferAt s
  serveWaiters s s.bpm.waiters.length

/-! The end of a rebuild (R297). -/

/-- Whether any pool is being rebuilt. -/
def anyRebuilding (s : State) : Bool := (List.range 4).any fun p => s.on BPM_POOLn_STATE_REBUILDING p

/-- The frees of a pool that waited for its rebuild, applied in order. -/
def applyQueuedFrees (s : State) (p : Nat) : State :=
  let mine := s.bpm.freeQ.filter fun a => poolOf s a = some p
  mine.foldl freeBufferAt { s with bpm := { s.bpm with freeQ := s.bpm.freeQ.filter fun a => poolOf s a ≠ some p } }

/-- A pool's list rebuilt from its bitmap (R297). -/
def rebuildList (s : State) (p : Nat) : State :=
  let l := freeBuffers s p
  let s := writeLinks s l
  let s := { s with bpm := { s.bpm with heads := match l with | [] => tdel s.bpm.heads p | a :: _ => tput s.bpm.heads p a } }
  (s.set BPM_POOLn_STATE_FREE l.length p).set BPM_POOLn_STATE_REBUILDING 0 p

/-- The end of a pool's rebuild: the list is whole, queued frees are applied, waiting requesters are served (R297). -/
def endRebuild (s : State) (p : Nat) : State :=
  let s := applyQueuedFrees (rebuildList s p) p
  let s := if anyRebuilding s then s else s.set BPM_CTRL_REBUILD 0
  serveWaiters s s.bpm.waiters.length

/-- An allocation by firmware or by a block enable waits while its pool is rebuilt: it sees the pool as the rebuild leaves it (R297, log
entry 110). -/
def afterRebuild (s : State) (p : Nat) : State := if s.on BPM_POOLn_STATE_REBUILDING p then endRebuild s p else s

/-- `n` buffers of one pool for a block enable: all or none (R294). -/
def claim (s : State) (p n : Nat) : Option (List Nat × State) := takeBuffers (afterRebuild s p) p n

/-! Narrow writes (R300). -/

/-- The word of an address no longer uncorrectable: a full 64-bit write replaced it. -/
def healWord (s : State) (w : Nat) : State :=
  { s with bpm := { s.bpm with bad := s.bpm.bad.filter (· ≠ w), poisoned := s.bpm.poisoned.filter (· ≠ w) } }

/-- A merge entry written to its SRAM: a partial one reads the word first, and a word that cannot be read is
poisoned (R300). -/
def mergeWrite (s : State) (m : Merge) : State :=
  let s := { s with bpm := { s.bpm with merges := s.bpm.merges.filter (· ≠ m) } }
  if m.mask = 255 then healWord s m.word
  else
    let s := s.bump BPM_CNTn_COUNT 7
    if s.bpm.bad.contains m.word then
      noteWord { s with bpm := { s.bpm with poisoned := m.word :: s.bpm.poisoned.filter (· ≠ m.word) } } m.word
    else s

/-- One byte of a narrow write: it joins the entry of its word, or takes a new one, evicting the oldest of sixteen. -/
def mergeByte (s : State) (a : Nat) (b : Byte) : State :=
  let s := writeByte s a b
  match s.bpm.merges.find? fun m => m.sram = 0 && m.word = a / 8 with
  | some m =>
    let m2 := { m with mask := m.mask ||| 2 ^ (a % 8) }
    let s := { s with bpm := { s.bpm with merges := s.bpm.merges.map fun x => if x = m then m2 else x } }
    if m2.mask = 255 then mergeWrite s m2 else s
  | none =>
    let old := s.bpm.merges.filter fun m => m.sram = 0
    let s := if old.length < 16 then s else match old with | m :: _ => mergeWrite s m | [] => s
    { s with bpm := { s.bpm with merges := s.bpm.merges ++ [⟨0, a / 8, 2 ^ (a % 8)⟩] } }

/-- Bytes stored by a bus master: whole words of buffer SRAM go straight in, narrower ones through the merge buffer. -/
def storeBytes (s : State) (a : Nat) (l : List Byte) : State :=
  if sramBase ≤ a ∧ a < sramEnd then
    if a % 8 = 0 ∧ l.length % 8 = 0 then
      let s := writeBytes s a l
      (List.range (l.length / 8)).foldl (fun s k =>
        let t := healWord s (a / 8 + k)
        { t with bpm := { t.bpm with merges := t.bpm.merges.filter fun m => m.sram ≠ 0 || m.word ≠ a / 8 + k } }) s
    else (l.zip (List.range l.length)).foldl (fun s x => mergeByte s (a + x.2) x.1) s
  else writeBytes s a l

/-! Remap and steering. -/

/-- A lasting word fault: the word copied to a free spare and its remap entry learned (R301). -/
def learnRemap (s : State) (group word : Nat) : State :=
  match (List.range 8).find? fun e => !s.on BPM_REMAPg_e_VALID group e with
  | none => s.set BPM_STATUS_REMAP_FULL 1
  | some e =>
    let s := ((s.set BPM_REMAPg_e_WORD word group e).set BPM_REMAPg_e_LEARNED 1 group e).set BPM_REMAPg_e_VALID 1 group e
    s.set BPM_STATUS_REMAP 1

/-- A lasting lane fault: steered and swept, or recorded as the second (R302, R303). -/
def steerLane (s : State) (group lane : Nat) : State :=
  if s.on BPM_GRPg_STATE_STEERED group then (s.set BPM_GRPg_STATE_LANE2 lane group).set BPM_STATUS_LANE2 1
  else
    let s := (s.set BPM_GRPg_STATE_STEER_LANE lane group).set BPM_GRPg_STATE_STEERED 1 group
    (s.set BPM_GRPg_STATE_SWEEP 1 group).set BPM_STATUS_STEER 1

end Sys2Proof.Machine
end

