-- ==== Sys2Proof/Machine/BurIdx.lean ====
section
/-! DEFINITION. The Burrow's index, frame table and sketch (R173 to R175), and the run entry's address (R23). -/

namespace Sys2Proof.Machine

/-- Address of a run entry (R23). -/
def runAddr (s : State) (run : Nat) : Nat := s.get MAP_RUN_BASE_BASE * 4096 + run * 8

/-- A run entry (Table 2.1). -/
def runEntry (s : State) (run : Nat) : Nat := readLeD s (runAddr s run) 8

/-- A run entry written as one 8-byte unit (R34). -/
def setRunEntry (s : State) (run e : Nat) : State := writeLe s (runAddr s run) 8 e

/-- One bit of a run entry written. -/
def setRunBit (s : State) (run k : Nat) (v : Bool) : State := setRunEntry s run (setBits (runEntry s run) k 1 (b2n v))

/-- Whether BURROW, EXC and STAGED of a run entry are set (Table 2.1). -/
def runBurrow (s : State) (run : Nat) : Bool := bits (runEntry s run) 36 1 = 1
def runExc (s : State) (run : Nat) : Bool := bits (runEntry s run) 37 1 = 1
def runStaged (s : State) (run : Nat) : Bool := bits (runEntry s run) 41 1 = 1

/-- The hash of R28, R31, R174: the high `log2` bits of the product. -/
def hash32 (x k log2 : Nat) : Nat := x * k % 2 ^ 32 / 2 ^ (32 - log2)

/-- The index set of a segment (R174). -/
def burSet (s : State) (run seg : Nat) : Nat := hash32 (run * 32 + seg) 0x9E3779B1 (s.get BUR_IDX_CFG_IDX_LOG2)

/-- Address of tag `k` of a set (Table 7.3). -/
def tagAddr (s : State) (set k : Nat) : Nat := s.get BUR_IDX_BASE_BASE * 4096 + set * 64 + k * 8

/-- Address of the descriptor of frame `f`: the frame table follows the index (R174). -/
def frameAddr (s : State) (f : Nat) : Nat :=
  s.get BUR_IDX_BASE_BASE * 4096 + 2 ^ s.get BUR_IDX_CFG_IDX_LOG2 * 64 + f * 8

/-- A frame descriptor and its fields. -/
def frameWord (s : State) (f : Nat) : Nat := readLeD s (frameAddr s f) 8
def frameRun (w : Nat) : Nat := bits w 0 29
def frameSeg (w : Nat) : Nat := bits w 29 5
def frameUse (w : Nat) : Nat := bits w 34 2
def framePin (w : Nat) : Bool := bits w 36 1 = 1
def frameState (w : Nat) : Nat := bits w 37 3
def frameReaders (w : Nat) : Nat := bits w 40 8

/-- A frame descriptor written. -/
def setFrame (s : State) (f w : Nat) : State := writeLe s (frameAddr s f) 8 w

/-- A frame descriptor from its fields. -/
def mkFrame (run seg use : Nat) (pin : Bool) (st readers : Nat) : Nat :=
  run + seg * 2 ^ 29 + use * 2 ^ 34 + b2n pin * 2 ^ 36 + st * 2 ^ 37 + readers * 2 ^ 40

/-- Address of line `j` of frame `f` (R173). -/
def frameLine (s : State) (f j : Nat) : Nat :=
  s.get BUR_BASE_BASE * 2 ^ 22 + f / 64 * 2 ^ 22 + j * 4096 + f % 64 * 64

/-- The tag of a segment in its set: its place and frame. -/
def findTag (s : State) (run seg : Nat) : Option (Nat × Nat) :=
  let set := burSet s run seg
  ((List.range 8).find? fun k =>
    let t := readLeD s (tagAddr s set k) 8
    bits t 63 1 = 1 && bits t 20 29 = run && bits t 49 5 = seg).map fun k => (k, bits (readLeD s (tagAddr s set k) 8) 0 20)

/-- The frame whose tag names the segment, whatever its state. -/
def burFrame (s : State) (run seg : Nat) : Option Nat := (findTag s run seg).map Prod.snd

/-- The frame that `burrow_holds` of R32 answers: valid, below 255 readers, on a pseudo-channel that works (R174). -/
def burHolds (s : State) (run seg : Nat) : Option Nat :=
  match burFrame s run seg with
  | none => none
  | some f =>
    let w := frameWord s f
    if s.on BUR_CTRL_ENABLE ∧ frameState w = 2 ∧ frameReaders w < 255
        ∧ bits (s.get HBM_PC_FAILED_FAILED) (f % 64) 1 = 0 then some f else none

/-- The tag of a segment removed. -/
def dropTag (s : State) (run seg : Nat) : State :=
  match findTag s run seg with
  | none => s
  | some (k, _) => writeLe s (tagAddr s (burSet s run seg) k) 8 0

/-- The lowest free tag place in the set of a segment (log entry 12). -/
def freeTag (s : State) (run seg : Nat) : Option Nat :=
  (List.range 8).find? fun k => bits (readLeD s (tagAddr s (burSet s run seg) k) 8) 63 1 = 0

/-- The four multipliers of the sketch (R175). -/
def sketchK (r : Nat) : Nat :=
  match r with
  | 0 => 0x9E3779B1
  | 1 => 0x85EBCA77
  | 2 => 0xC2B2AE3D
  | _ => 0x27D4EB2F

/-- Counter number of a segment in row `r` of the sketch (R175). -/
def sketchIdx (r run seg : Nat) : Nat := r * 2 ^ 20 + (run * 32 + seg) * sketchK r % 2 ^ 32 / 2 ^ 12

/-- The estimate of a segment: the least of its four counters (R175). -/
def sketchEst (s : State) (run seg : Nat) : Nat :=
  ((List.range 4).map fun r => tgetD s.bur.sketch (sketchIdx r run seg) 0).foldl min 255

/-- One counter set; a counter at 0 is not stored. -/
def sketchPut (t : Tbl Nat) (k v : Nat) : Tbl Nat := if v = 0 then tdel t k else tput t k v

/-- The four counters of a segment advanced once, saturating at 255 (R175). -/
def sketchCount (s : State) (run seg : Nat) : State :=
  { s with bur := { s.bur with sketch := (List.range 4).foldl (fun t r =>
      sketchPut t (sketchIdx r run seg) (min 255 (tgetD t (sketchIdx r run seg) 0 + 1))) s.bur.sketch } }

/-- The four counters of a segment raised to at least `v` (R181, Table 7.6 BOOST). -/
def sketchRaise (s : State) (run seg v : Nat) : State :=
  { s with bur := { s.bur with sketch := (List.range 4).foldl (fun t r =>
      sketchPut t (sketchIdx r run seg) (max v (tgetD t (sketchIdx r run seg) 0))) s.bur.sketch } }

end Sys2Proof.Machine
end

