-- ==== Sys2Proof/Machine/MapOps.lean ====
section
/-! DEFINITION. The map's structures in HBM and the operations on them: run entries, stripe descriptors and owners
(R23 to R26, R453), chains of buckets (R27 to R31, R37), the walker (R32, R33) and the re-run queue (R39). -/

namespace Sys2Proof.Machine

/-! Media addresses. -/

/-- A media address from its fields (Table 1.2); bits [41:31] are the global die number. -/
def mkMedia (die plane block page sec : Nat) : Nat :=
  die * 2 ^ 31 + plane * 2 ^ 29 + block * 2 ^ 15 + page * 4 + sec

/-- Fields of a media address (Table 1.2). -/
def mediaDie (m : Nat) : Nat := bits m 31 11
def mediaPlane (m : Nat) : Nat := bits m 29 2
def mediaBlock (m : Nat) : Nat := bits m 15 14
def mediaPage (m : Nat) : Nat := bits m 2 13
def mediaSector (m : Nat) : Nat := bits m 0 2

/-- Fields of FCH_DIEd of a global die. -/
def dieState (s : State) (die : Nat) : Nat := s.get FCH_DIEd_STATE (die / 8) (die % 8)
def dieModel (s : State) (die : Nat) : Nat := s.get FCH_DIEd_MODEL (die / 8) (die % 8)
def dieEpoch (s : State) (die : Nat) : Nat := s.get FCH_DIEd_EPOCH (die / 8) (die % 8)

/-- What FCH keeps for a channel (R62). -/
def chanOf (s : State) (ch : Nat) : ChSt := tgetD s.fch.chans ch ⟨0, 0, 0, false, false, false, 0, 0, 0, none, 0, 0, 0⟩

/-- Whether a den is populated: one of its channels declares a die (R11, R62). -/
def denPopulated (s : State) (den : Nat) : Bool :=
  (List.range 16).any fun c => (chanOf s (den * 16 + c)).present ≠ 0

/-- Whether a media address is valid under R11. -/
def mediaValid (s : State) (m : Nat) : Bool :=
  let die := mediaDie m
  m < 2 ^ 42 && denPopulated s (die / 128) && dieState s die ≠ 0
    && mediaBlock m < s.get FCH_MODELm_GEOM_BLOCKS (dieModel s die)
    && mediaPage m < s.get FCH_MODELm_GEOM_PAGES (dieModel s die)

/-- The invalid-address event of an engine that issues no operation for it (R11). -/
def badMediaEvent (s : State) (m : Nat) : State := fltPlain s elemMedia 1 m

/-! Stripes. -/

/-- Address of a stripe descriptor, its header word and its member word (Table 2.2). -/
def stripeAddr (s : State) (stripe : Nat) : Nat := s.get MAP_STRIPE_BASE_BASE * 4096 + stripe * 256
def stripeHdr (s : State) (stripe : Nat) : Nat := readLeD s (stripeAddr s stripe) 8
def stripeState (h : Nat) : Nat := bits h 0 2
def stripeMode (h : Nat) : Nat := bits h 2 2
def stripeRows (h : Nat) : Nat := bits h 4 14
def memberWord (s : State) (stripe p : Nat) : Nat := readLeD s (stripeAddr s stripe + 16 + 4 * p) 4
def memberDie (w : Nat) : Nat := bits w 0 11
def memberBlock (w : Nat) : Nat := bits w 11 14

/-- Whether more than `k` of `n` stripes from `i` on are free (R134). -/
def moreFree (s : State) (i n k : Nat) : Bool :=
  match n with
  | 0 => false
  | m + 1 =>
    if stripeState (stripeHdr s i) = 0 then (match k with | 0 => true | j + 1 => moreFree s (i + 1) m j)
    else moreFree s (i + 1) m k

/-- Whether the free stripes are no more than the free-stripe reserve (R134). -/
def reserveStops (s : State) : Bool := !moreFree s 0 (s.get MAP_STRIPE_COUNT_COUNT) s.sys.image.reserve

/-! The signature of a stripe (R155): 512 bits at the start of its descriptor's firmware area, bit run mod 512 for a run with data in
the stripe (log entry 105). -/

/-- Whether a stripe may hold data of a run. -/
def inSignature (s : State) (stripe run : Nat) : Bool := bits (readLeD s (stripeAddr s stripe + 152 + run % 512 / 8) 1) (run % 8) 1 = 1

/-- Runs put into a stripe's signature. -/
def sign (s : State) (stripe : Nat) (runs : List Nat) : State :=
  runs.foldl (fun s run =>
    let a := stripeAddr s stripe + 152 + run % 512 / 8
    writeLe s a 1 (setBits (readLeD s a 1) (run % 8) 1 1)) s

/-- The walker's cached copy of a descriptor, and the one that it works with: cached or read from HBM; none on a data error
(R26). -/
def cachedDesc (s : State) (stripe : Nat) : Option (List Byte) := (s.map.descCache.find? fun x => x.1 = stripe).map Prod.snd
def walkerDesc (s : State) (stripe : Nat) : Option (List Byte) :=
  match cachedDesc s stripe with
  | some d => some d
  | none => readBytes s (stripeAddr s stripe) 152

/-- Header word and member word of a descriptor's bytes (Table 2.2). -/
def descHdr (d : List Byte) : Nat := leAt d 0 8
def descMember (d : List Byte) (p : Nat) : Nat := leAt d (16 + 4 * p) 4

/-- A cached descriptor kept coherent with a write of `n` bytes at an offset (R24). -/
def cacheWrite (s : State) (stripe off n v : Nat) : State :=
  { s with map := { s.map with descCache := s.map.descCache.map fun x =>
      if x.1 = stripe then (x.1, x.2.take off ++ natLe v n ++ x.2.drop (off + n)) else x } }

/-- Whether the members of a descriptor lie on 34 distinct channels (R26). -/
def descChannelsOk (d : List Byte) : Bool := decide (((List.range 34).map fun p => memberDie (descMember d p) / 8).Nodup)
def stripeChannelsOk (s : State) (stripe : Nat) : Bool :=
  decide (((List.range 34).map fun p => memberDie (memberWord s stripe p) / 8).Nodup)

/-- Member position of data member `m` in a row (R25). -/
def posOf (row m : Nat) : Nat := (2 * row + 2 + m) % 34

/-- Data member of a position in a row: none for the parity positions (R25). -/
def dataOf (row p : Nat) : Option Nat :=
  let d := (p + 34 * row - 2 * row % 34 + 34 - 2) % 34
  if d < 32 then some d else none

/-- Media address of plane, sector-in-page of a member's page (R25). -/
def memberMedia (s : State) (stripe row p plane sec : Nat) : Nat :=
  let w := memberWord s stripe p
  mkMedia (memberDie w) plane (memberBlock w) row sec

/-- Placement of sector-in-run `q` of a mapped run (R25). -/
def place (s : State) (stripe row q : Nat) : Nat :=
  memberMedia s stripe row (posOf row (q / 16)) (q / 4 % 4) (q % 4)

/-- The same by the walker's descriptor. -/
def placeIn (d : List Byte) (row q : Nat) : Nat :=
  let w := descMember d (posOf row (q / 16))
  mkMedia (memberDie w) (q / 4 % 4) (memberBlock w) row (q % 4)

/-- Address of a stripe owner entry (R453). -/
def ownerAddr (s : State) (die block : Nat) : Nat := s.get MAP_OWNER_BASE_BASE * 4096 + (die * 16384 + block) * 4

/-- The owner of a media address: stripe and member position (R453). -/
def ownerOf (s : State) (m : Nat) : Option (Nat × Nat) :=
  let e := readLeD s (ownerAddr s (mediaDie m) (mediaBlock m)) 4
  let stripe := bits e 0 20
  let st := stripeState (stripeHdr s stripe)
  if bits e 20 1 = 1 ∧ stripe < s.get MAP_STRIPE_COUNT_COUNT ∧ (st = 1 ∨ st = 2) then
    ((List.range 34).find? fun p =>
      let w := memberWord s stripe p
      memberDie w = mediaDie m && memberBlock w = mediaBlock m).map fun p => (stripe, p)
  else none

/-- A member word and its stripe owner entry written in one operation (R24, R453). -/
def putMember (s : State) (stripe p w : Nat) : State :=
  let s := cacheWrite (writeLe s (stripeAddr s stripe + 16 + 4 * p) 4 w) stripe (16 + 4 * p) 4 w
  writeLe s (ownerAddr s (memberDie w) (memberBlock w)) 4 (stripe + 2 ^ 20)

/-! Bucket pools. -/

/-- A bucket pool: base address, log2 of its primary buckets, all its buckets, and whether it is the staging map. -/
structure Pool where
  base : Nat
  log2 : Nat
  total : Nat
  stg : Bool
  deriving DecidableEq, Repr

/-- The exception pool (R27) and the staging map (R31). -/
def excPool (s : State) : Pool :=
  ⟨s.get MAP_EXC_BASE_BASE * 4096, s.get MAP_EXC_CFG_PRIM_LOG2, s.get MAP_EXC_TOTAL_TOTAL, false⟩
def stgPool (s : State) : Pool :=
  ⟨s.get MAP_STG_BASE_BASE * 4096, s.get MAP_STG_CFG_STG_LOG2 - 1, 2 ^ s.get MAP_STG_CFG_STG_LOG2, true⟩

/-- Word `k` of bucket `b` (word 0 is the header), its address and a write of it. -/
def bWordAddr (p : Pool) (b k : Nat) : Nat := p.base + b * 64 + k * 8
def bWord (s : State) (p : Pool) (b k : Nat) : Nat := readLeD s (bWordAddr p b k) 8
def setBWord (s : State) (p : Pool) (b k w : Nat) : State := writeLe s (bWordAddr p b k) 8 w

/-- Header fields (Table 2.3). -/
def hdrRun (h : Nat) : Nat := bits h 0 29
def hdrCount (h : Nat) : Nat := bits h 29 3
def hdrNext (h : Nat) : Nat := bits h 32 27
def hdrNextValid (h : Nat) : Bool := bits h 59 1 = 1
def hdrUsed (h : Nat) : Bool := bits h 63 1 = 1

/-- A header from its fields. -/
def mkHdr (run count next : Nat) (nv : Bool) : Nat := run + count * 2 ^ 29 + next * 2 ^ 32 + b2n nv * 2 ^ 59 + 2 ^ 63

/-- Entry fields (Table 2.3). -/
def eLoc (e : Nat) : Nat := bits e 0 48
def eSector (e : Nat) : Nat := bits e 48 9
def eKind (e : Nat) : Nat := bits e 57 2
def eKeygen (e : Nat) : Nat := bits e 59 1
def eValid (e : Nat) : Bool := bits e 63 1 = 1

/-- Number of sectors that an entry covers (R27). -/
def eSpan (e : Nat) : Nat :=
  if eKind e = 0 then 1 else if eKind e = 1 then bits e 20 9 + 1 else bits e 0 9 + 1

/-- Whether an entry covers a sector. -/
def eCovers (e q : Nat) : Bool := eValid e && eSector e ≤ q && q < eSector e + eSpan e

/-- Entries: a media entry, a staging entry of `span` sectors, a deallocated (kind 2) or lost (kind 3) span. -/
def mkMediaEntry (q loc keygen : Nat) : Nat := loc + q * 2 ^ 48 + keygen * 2 ^ 59 + 2 ^ 63
def mkStgEntry (q idx span : Nat) : Nat := idx + (span - 1) * 2 ^ 20 + q * 2 ^ 48 + 2 ^ 57 + 2 ^ 63
def mkSpanEntry (kind q span : Nat) : Nat := (span - 1) + q * 2 ^ 48 + kind * 2 ^ 57 + 2 ^ 63

/-- An entry cut down to the sectors from `a`, `n` of them (R37). -/
def eCut (e a n : Nat) : Nat :=
  if eKind e = 0 then e
  else if eKind e = 1 then mkStgEntry a (bits e 0 20 + (a - eSector e)) n
  else mkSpanEntry (eKind e) a n

/-- What is left of an entry when the sectors from `a` to `b` are taken away: at most two entries (R37). -/
def eRemain (e a b : Nat) : List Nat :=
  let x := eSector e
  let y := x + eSpan e
  (if x < a then [eCut e x (a - x)] else []) ++ (if b + 1 < y then [eCut e (b + 1) (y - (b + 1))] else [])

/-- The home bucket of a run (R28, R31). -/
def homeOf (p : Pool) (run : Nat) : Nat := hash32 run 0x9E3779B1 p.log2

/-- The chain of a run from bucket `b`, ending at the first bucket that fails the RUN check (R33). -/
def chainFrom (s : State) (p : Pool) (run b fuel : Nat) : List Nat :=
  match fuel with
  | 0 => []
  | n + 1 =>
    let h := bWord s p b 0
    if hdrUsed h ∧ hdrRun h = run then
      b :: (if hdrNextValid h then chainFrom s p run (hdrNext h) n else [])
    else []

/-- The most buckets that a chain holds: one for each of 512 sectors, and more never. -/
def chainFuel : Nat := 513

/-- The first bucket of a run's chain: at PROBE for an exception chain, found by probing for a staging chain. -/
def chainHead (s : State) (p : Pool) (run : Nat) : Option Nat :=
  let e := runEntry s run
  let h := homeOf p run
  if p.stg then
    if bits e 41 1 = 1 then
      ((List.range 8).map fun d => (h + d) % 2 ^ p.log2).find? fun b =>
        hdrUsed (bWord s p b 0) && hdrRun (bWord s p b 0) = run
    else none
  else if bits e 37 1 = 1 then some ((h + bits e 38 3) % 2 ^ p.log2) else none

/-- The buckets of a run's chain in order. -/
def chainOf (s : State) (p : Pool) (run : Nat) : List Nat :=
  match chainHead s p run with
  | none => []
  | some b => chainFrom s p run b chainFuel

/-- The valid entries of some buckets: bucket, word number, entry. -/
def entriesOf (s : State) (p : Pool) (bs : List Nat) : List (Nat × Nat × Nat) :=
  bs.flatMap fun b => ((List.range 7).map fun k => (b, k + 1, bWord s p b (k + 1))).filter fun x => eValid x.2.2

/-- The valid entries of a run in chain order. -/
def runEntries (s : State) (p : Pool) (run : Nat) : List (Nat × Nat × Nat) := entriesOf s p (chainOf s p run)

/-- The entry of a run that covers sector `q`. -/
def findEntry (s : State) (p : Pool) (run q : Nat) : Option (Nat × Nat × Nat) :=
  (runEntries s p run).find? fun x => eCovers x.2.2 q

/-- The valid media entries of a run's chain, counted (R39). -/
def mediaCount (s : State) (run : Nat) : Nat :=
  ((runEntries s (excPool s) run).filter fun x => eKind x.2.2 = 0).length

/-- The next number of a free list: one given back, else the lowest that was never used (log entry 12). -/
def flPop (l : FreeList) : Option (Nat × FreeList) :=
  match l.back with
  | b :: r => some (b, { l with back := r })
  | [] => if l.next < l.stop then some (l.next, { l with next := l.next + 1 }) else none

/-- How many numbers a free list holds. -/
def flCount (l : FreeList) : Nat := l.back.length + (l.stop - l.next)

/-- A number given back. -/
def flPush (l : FreeList) (b : Nat) : FreeList := { l with back := b :: l.back }

/-- The free list of a pool, and the list replaced. -/
def poolFree (s : State) (p : Pool) : FreeList := if p.stg then s.map.stgFree else s.map.excFree
def setPoolFree (s : State) (p : Pool) (l : FreeList) : State :=
  if p.stg then { s with map := { s.map with stgFree := l } } else { s with map := { s.map with excFree := l } }

/-- Whether the buckets in use are at or above HIGH_WATER, and POOL_HIGH set when they are (R39). -/
def highWater (s : State) : Bool :=
  s.get MAP_EXC_USED_USED * 100 ≥ s.get MAP_EXC_CFG_HIGH_WATER * s.get MAP_EXC_TOTAL_TOTAL
def poolHigh (s : State) : State := if highWater s then s.set MAP_STATUS_POOL_HIGH 1 else s

/-- MAP_EXC_USED moved by one bucket; the staging map has no such count. -/
def poolUse (s : State) (p : Pool) (up : Bool) : State :=
  if p.stg then s
  else
    let s := s.set MAP_EXC_USED_USED (if up then s.get MAP_EXC_USED_USED + 1 else s.get MAP_EXC_USED_USED - 1)
    if up then poolHigh s else s

/-- A bucket given back: USED = 0, and an overflow bucket to the head of the free list (R29). -/
def freeBucket (s : State) (p : Pool) (b : Nat) : State :=
  let s := zeroBytes s (p.base + b * 64) 64
  let s := poolUse s p false
  if b < 2 ^ p.log2 then s else setPoolFree s p (flPush (poolFree s p) b)

/-- The bit of the run entry that says the run has a chain: EXC with PROBE, or STAGED. -/
def setHead (s : State) (p : Pool) (run : Nat) (on : Bool) (d : Nat) : State :=
  let e := runEntry s run
  setRunEntry s run
    (if p.stg then setBits e 41 1 (b2n on) else setBits (setBits e 37 1 (b2n on)) 38 3 (if on then d else 0))

/-- Why an insertion fails (R28, R38). -/
inductive InsErr where
  | poolFull
  | probeFail
  deriving DecidableEq, Repr

/-- The first free word of a bucket. -/
def freeWord (s : State) (p : Pool) (b : Nat) : Option Nat :=
  ((List.range 7).map (· + 1)).find? fun k => !eValid (bWord s p b k)

/-- An entry put into a bucket at word `k`, COUNT advanced. -/
def putInBucket (s : State) (p : Pool) (b k e : Nat) : State :=
  let s := setBWord s p b k e
  let h := bWord s p b 0
  setBWord s p b 0 (setBits h 29 3 (hdrCount h + 1))

/-- A new entry put into the chain of a run: the first bucket with a free entry, else an overflow bucket linked at the
tail, else a first bucket claimed within the probe window (R28, R29, R31). -/
def insertEntry (s : State) (p : Pool) (run e : Nat) : Except InsErr State :=
  let ch := chainOf s p run
  match ch.find? fun b => (freeWord s p b).isSome with
  | some b => .ok (putInBucket s p b ((freeWord s p b).getD 1) e)
  | none =>
    match ch.getLast? with
    | some t =>
      match flPop (poolFree s p) with
      | none => .error .poolFull
      | some (n, r) =>
        let s := setPoolFree s p r
        let s := zeroBytes s (p.base + n * 64) 64
        let s := setBWord s p n 0 (mkHdr run 0 0 false)
        let s := setBWord s p t 0 (setBits (setBits (bWord s p t 0) 32 27 n) 59 1 1)
        .ok (poolUse (putInBucket s p n 1 e) p true)
    | none =>
      let h := homeOf p run
      match (List.range 8).find? fun d => !hdrUsed (bWord s p ((h + d) % 2 ^ p.log2) 0) with
      | none => .error .probeFail
      | some d =>
        let b := (h + d) % 2 ^ p.log2
        let s := zeroBytes s (p.base + b * 64) 64
        let s := setBWord s p b 0 (mkHdr run 0 0 false)
        let s := putInBucket s p b 1 e
        .ok (poolUse (setHead s p run true d) p true)

/-- An entry's word cleared and COUNT lowered, the bucket kept in its chain. -/
def clearEntry (s : State) (p : Pool) (b k : Nat) : State :=
  let s := setBWord s p b k 0
  let h := bWord s p b 0
  setBWord s p b 0 (setBits h 29 3 (hdrCount h - 1))

/-- An empty bucket unlinked from the chain of its run (R29): the head takes over the second bucket's entries. -/
def unlinkBucket (s : State) (p : Pool) (run b : Nat) : State :=
  match chainOf s p run with
  | [] => s
  | [x] => if x = b then freeBucket (setHead s p run false 0) p b else s
  | x :: y :: r =>
    if x = b then
      let s := (List.range 7).foldl (fun s k => setBWord s p x (k + 1) (bWord s p y (k + 1))) s
      let s := setBWord s p x 0 (bWord s p y 0)
      freeBucket s p y
    else
      let prev := ((x :: y :: r).zip (y :: r)).find? fun z => z.2 = b
      match prev with
      | none => s
      | some (q, _) =>
        let h := bWord s p b 0
        let s := setBWord s p q 0 (setBits (setBits (bWord s p q 0) 32 27 (hdrNext h)) 59 1 (b2n (hdrNextValid h)))
        freeBucket s p b

/-- Every empty bucket of a run's chain unlinked, from the tail to the head. -/
def unlinkEmpty (s : State) (p : Pool) (run : Nat) : State :=
  (chainOf s p run).foldr (fun b s => if hdrCount (bWord s p b 0) = 0 then unlinkBucket s p run b else s) s

/-- The sectors from `a` to `b` taken from one entry: it is cleared, cut in place, or cut with a second piece to insert.
`fill` is a new entry to put in the place of the first one that is wholly covered. Answers the state, the pieces still
to insert, and the new entry when it has not been placed. -/
def cutOne (p : Pool) (a b : Nat) (st : State × List Nat × Option Nat) (x : Nat × Nat × Nat) :
    State × List Nat × Option Nat :=
  let (s, more, fill) := st
  match eRemain x.2.2 a b with
  | [] =>
    match fill with
    | some e => (setBWord s p x.1 x.2.1 e, more, none)
    | none => (clearEntry s p x.1 x.2.1, more, none)
  | [r] => (setBWord s p x.1 x.2.1 r, more, fill)
  | r :: r2 => (setBWord s p x.1 x.2.1 r, more ++ r2, fill)

/-- The sectors from `a` to `b` of a run given to a new entry, or to none: older entries are overwritten in place,
split, or removed, so that at most one entry covers any sector (R37). -/
def replaceSpan (s : State) (p : Pool) (run a b : Nat) (new : Option Nat) : Except InsErr State :=
  let olds := (runEntries s p run).filter fun x => eSector x.2.2 ≤ b && a < eSector x.2.2 + eSpan x.2.2
  let (s, more, fill) := olds.foldl (cutOne p a b) (s, [], new)
  match (more ++ fill.toList).foldlM (fun s e => insertEntry s p run e) s with
  | .error x => .error x
  | .ok s => .ok (unlinkEmpty s p run)

/-- A new entry set in a run's chain (R37). -/
def setEntry (s : State) (p : Pool) (run e : Nat) : Except InsErr State :=
  replaceSpan s p run (eSector e) (eSector e + eSpan e - 1) (some e)

/-- Every entry of a run's chain that a test picks, removed. -/
def removeEntries (s : State) (p : Pool) (run : Nat) (t : Nat → Bool) : State :=
  let s := ((runEntries s p run).filter fun x => t x.2.2).foldl (fun s x => clearEntry s p x.1 x.2.1) s
  unlinkEmpty s p run

/-! Watches and the re-run queue. -/

/-- Every watch on a run marked dirty: a map update touched the run (R40). -/
def touchRun (s : State) (run : Nat) : State :=
  { s with map := { s.map with watches := s.map.watches.map fun w =>
      if w.2.run = run then (w.1, { w.2 with dirty := true }) else w } }

/-- A run put on the re-run queue, at most once; dropped, to be offered again, when the queue holds 4,096 (R39). -/
def rerunAdd (s : State) (run reason : Nat) : State :=
  if s.map.rerun.any fun x => x.1 = run then s
  else if s.map.rerun.length ≥ 4096 then
    { s.set MAP_STATUS_RERUN_FULL 1 with map := { s.map with rerunDrop := tput s.map.rerunDrop run reason } }
  else
    let s := { s with map := { s.map with rerun := s.map.rerun ++ [(run, reason)], rerunDrop := tdel s.map.rerunDrop run } }
    s.set MAP_RERUN_DEPTH_DEPTH s.map.rerun.length

/-- The threshold in force (R39). -/
def rerunThreshold (s : State) : Nat :=
  if highWater s then s.get MAP_RERUN_CFG_EXC_THRESHOLD_HIGH else s.get MAP_RERUN_CFG_EXC_THRESHOLD

/-- A run checked against the re-run threshold after an exception insertion, and offered again when it was dropped (R39). -/
def rerunCheck (s : State) (run : Nat) : State :=
  match tget s.map.rerunDrop run with
  | some reason => rerunAdd s run reason
  | none => if mediaCount s run ≥ rerunThreshold s then rerunAdd s run 0 else s

/-- What a failed insertion records: POOL_FULL or PROBE_FAIL, and the run queued with the reason (R38). -/
def insertFail (s : State) (run : Nat) (e : InsErr) : State :=
  match e with
  | .poolFull => rerunAdd (s.set MAP_STATUS_POOL_FULL 1) run 2
  | .probeFail => rerunAdd (s.set MAP_STATUS_PROBE_FAIL 1) run 1

/-- An exception set, or its failure recorded (R38). -/
def setException (s : State) (run e : Nat) : Except (InsErr × State) State :=
  match setEntry s (excPool s) run e with
  | .ok s => .ok (rerunCheck (touchRun s run) run)
  | .error x => .error (x, insertFail s run x)

/-! The walker. -/

/-- What a lookup answers (R32, R33). `stripe` and `row` are given when the walker resolved through the run entry. -/
inductive Xlat where
  | staging (idx : Nat)
  | burrow (frame : Nat)
  | media (addr keygen : Nat) (row : Option (Nat × Nat))
  | zeros
  | unrecovered
  | corrupt
  | badMedia (addr : Nat)
  deriving DecidableEq, Repr

/-- A chain walked by a lookup: none when it is corrupt (R33). During replay a chain ends at the first bucket that fails the RUN
check. -/
def chainChecked (s : State) (p : Pool) (run b fuel : Nat) : Option (List Nat) :=
  match fuel with
  | 0 => none
  | n + 1 =>
    match readBytes s (p.base + b * 64) 64 with
    | none => none
    | some _ =>
      let h := bWord s p b 0
      if hdrUsed h ∧ hdrRun h = run then
        if hdrNextValid h then (chainChecked s p run (hdrNext h) n).map (b :: ·) else some [b]
      else if s.on MAP_CTRL_REPLAY then some [] else none

/-- The first staging bucket of a run as the walker probes for it: corrupt (none) where a bucket on the way cannot be read, else
the bucket, if there is one (R31, R33). -/
def probeStaging (s : State) (p : Pool) (run d fuel : Nat) : Option (Option Nat) :=
  match fuel with
  | 0 => some none
  | n + 1 =>
    let b := (homeOf p run + d) % 2 ^ p.log2
    match readBytes s (p.base + b * 64) 64 with
    | none => none
    | some _ => if hdrUsed (bWord s p b 0) ∧ hdrRun (bWord s p b 0) = run then some (some b) else probeStaging s p run (d + 1) n

/-- The staging index that a lookup finds for sector `q` of a run with STAGED set; the outer none is a corrupt walk (R33). -/
def walkStaging (s : State) (run q : Nat) : Option (Option Nat) :=
  let p := stgPool s
  match probeStaging s p run 0 8 with
  | none => none
  | some none => some none
  | some (some b) =>
    match chainChecked s p run b chainFuel with
    | none => none
    | some bs => some (((entriesOf s p bs).find? fun x => eCovers x.2.2 q).map fun x => bits x.2.2 0 20 + (q - eSector x.2.2))

/-- The staging index of sector `q` of a run, searched only while STAGED is 1: none for no entry. -/
def stagedAt (s : State) (run q : Nat) : Option Nat :=
  (findEntry s (stgPool s) run q).map fun x => bits x.2.2 0 20 + (q - eSector x.2.2)

/-- A media result checked under R11; during replay it is no corrupt lookup (R33, log entry 101). -/
def mediaResult (s : State) (m keygen : Nat) (row : Option (Nat × Nat)) : Xlat :=
  if mediaValid s m || s.on MAP_CTRL_REPLAY then .media m keygen row else .badMedia m

/-- Whether a descriptor passes the checks of R26 for a row. -/
def descOk (s : State) (d : List Byte) (stripe row : Nat) : Bool :=
  let h := descHdr d
  decide (stripe < s.get MAP_STRIPE_COUNT_COUNT) && (stripeState h = 1 || stripeState h = 2) && decide (row < stripeRows h) && descChannelsOk d

/-- The result of the run entry when no entry covers the sector (R26, R32). -/
def baseResult (s : State) (e q : Nat) : Xlat :=
  let stripe := bits e 2 20
  let row := bits e 22 13
  if bits e 0 2 = 1 then
    if s.get MAP_STRIPE_COUNT_COUNT ≤ stripe ∧ !s.on MAP_CTRL_REPLAY then .corrupt
    else
      match walkerDesc s stripe with
      | none => .corrupt
      | some d =>
        if descOk s d stripe row || s.on MAP_CTRL_REPLAY then mediaResult s (placeIn d row q) (bits e 35 1) (some (stripe, row))
        else .corrupt
  else if bits e 0 2 = 3 then .unrecovered
  else .zeros

/-- The exception part of a lookup (R32). -/
def excResult (s : State) (run e q : Nat) : Xlat :=
  let p := excPool s
  if bits e 37 1 = 1 then
    match chainChecked s p run ((homeOf p run + bits e 38 3) % 2 ^ p.log2) chainFuel with
    | none => .corrupt
    | some bs =>
      match (entriesOf s p bs).find? fun x => eCovers x.2.2 q with
      | none => baseResult s e q
      | some (_, _, x) =>
        if eKind x = 0 then mediaResult s (eLoc x) (eKeygen x) none
        else if eKind x = 2 then .zeros
        else if eKind x = 3 then .unrecovered
        else if s.on MAP_CTRL_REPLAY then baseResult s e q
        else .corrupt
  else baseResult s e q

/-- The walker's answer for sector `q` of a run (R32). `bypass` leaves the Burrow out (R183). -/
def translate (s : State) (run q : Nat) (bypass : Bool := false) : Xlat :=
  match readLe s (runAddr s run) 8 with
  | none => .corrupt
  | some e =>
    match (if bits e 41 1 = 1 then walkStaging s run q else some none) with
    | none => .corrupt
    | some (some i) => .staging i
    | some none =>
      match (if bits e 36 1 = 1 ∧ !bypass then burHolds s run (q / 16) else none) with
      | some f => .burrow f
      | none => excResult s run e q

/-- The lines of a chain that a walk from bucket `b` reads: up to the first bucket that cannot be read or is not of the run. -/
def chainLines (s : State) (p : Pool) (run b fuel : Nat) : List Nat :=
  match fuel with
  | 0 => []
  | n + 1 =>
    let a := p.base + b * 64
    let h := bWord s p b 0
    a :: (if (readBytes s a 64).isSome ∧ hdrUsed h ∧ hdrRun h = run ∧ hdrNextValid h then chainLines s p run (hdrNext h) n else [])

/-- The lines that a probe for a run's first staging bucket reads from distance `d` on, and those of the chain that it finds. -/
def probeLines (s : State) (p : Pool) (run d fuel : Nat) : List Nat :=
  match fuel with
  | 0 => []
  | n + 1 =>
    let b := (homeOf p run + d) % 2 ^ p.log2
    if (readBytes s (p.base + b * 64) 64).isNone then [p.base + b * 64]
    else if hdrUsed (bWord s p b 0) ∧ hdrRun (bWord s p b 0) = run then chainLines s p run b chainFuel
    else (p.base + b * 64) :: probeLines s p run (d + 1) n

/-- The lines of a run's exception chain, of its staging entries, and of a segment's index set and frame descriptor. -/
def excLines (s : State) (run : Nat) : List Nat :=
  if runExc s run then chainLines s (excPool s) run ((homeOf (excPool s) run + bits (runEntry s run) 38 3) % 2 ^ (excPool s).log2) chainFuel else []
def stgLines (s : State) (run : Nat) : List Nat := if runStaged s run then probeLines s (stgPool s) run 0 8 else []
def segLines (s : State) (run seg : Nat) : List Nat :=
  tagAddr s (burSet s run seg) 0 :: (match burFrame s run seg with | some f => [frameAddr s f] | none => [])

/-- The lines of the map's and the Burrow's structures that a lookup reads, as the walker goes through them (R32). -/
def walkLines (s : State) (run q : Nat) (bypass : Bool) : List Nat :=
  let staged := !runStaged s run || walkStaging s run q = some none
  let seg := staged && runBurrow s run && !bypass
  let hit := seg && (burHolds s run (q / 16)).isSome
  runAddr s run :: (stgLines s run ++ (if seg then segLines s run (q / 16) else []) ++ (if staged && !hit then excLines s run else []))

/-- What the reads of some lines record (R165). -/
def noteAll (s : State) (l : List Nat) : State := l.foldl noteLine s

/-- Fields of a namespace table entry (R61). -/
def nsValid (s : State) (n : Nat) : Bool := s.on MAP_NSn_VALID n
def nsBase (s : State) (n : Nat) : Nat := s.get MAP_NSn_BASE_RUN n
def nsRuns (s : State) (n : Nat) : Nat := s.get MAP_NSn_RUN_COUNT n
def nsSlot (s : State) (n : Nat) : Nat := s.get MAP_NSn_KEY_SLOT n
def nsLba4k (s : State) (n : Nat) : Bool := s.on MAP_NSn_LBA_4K n

/-- Sector number of a logical block (R22). -/
def lbaSector (s : State) (n lba : Nat) : Nat := if nsLba4k s n then lba else lba / 8

/-- The stripe whose descriptor a lookup reads from HBM: no staging entry, Burrow segment or exception answers, and the walker's
cache does not hold it (R26, R32). -/
def descRead (s : State) (run q : Nat) (bypass : Bool) : Option Nat :=
  let e := runEntry s run
  let stripe := bits e 2 20
  let exc := match chainChecked s (excPool s) run ((homeOf (excPool s) run + bits e 38 3) % 2 ^ (excPool s).log2) chainFuel with
    | none => true
    | some bs => (entriesOf s (excPool s) bs).any fun x => eCovers x.2.2 q
  if (runStaged s run && walkStaging s run q ≠ some none) || (runBurrow s run && !bypass && (burHolds s run (q / 16)).isSome)
      || (runExc s run && exc) || bits e 0 2 ≠ 1 || s.get MAP_STRIPE_COUNT_COUNT ≤ stripe || (cachedDesc s stripe).isSome then none
  else some stripe

/-- Whether a lookup needs more than one read of the map's structures (MAP_MULTI_CNT): the run entry, then staging buckets,
exception buckets, a descriptor. A Burrow hit ends the walk before the exceptions. -/
def lookupMulti (s : State) (run q : Nat) (bypass : Bool) : Bool :=
  (readLe s (runAddr s run) 8).isSome &&
    (runStaged s run
      || (runExc s run && !(runBurrow s run && !bypass && (burHolds s run (q / 16)).isSome))
      || (descRead s run q bypass).isSome)

/-- The descriptor that a lookup read put into the walker's cache: at most 8,192 stripes, the oldest dropped (R26, log entry 12). -/
def cacheStripe (s : State) (x : Option Nat) : State :=
  match x with
  | none => s
  | some st =>
    match readBytes s (stripeAddr s st) 152 with
    | none => s
    | some d => { s with map := { s.map with descCache := ((st, d) :: s.map.descCache).take 8192 } }

/-- Whether a run has BURROW set and no segment in the Burrow's index (R177). -/
def burrowIdle (s : State) (run : Nat) : Bool :=
  s.on BUR_CTRL_ENABLE && runBurrow s run && (List.range 32).all fun g => (burFrame s run g).isNone

/-- A lookup with its counters, and what a corrupt one or an invalid media address records (R11, R33). -/
def lookup (s : State) (run q : Nat) (bypass : Bool := false) : Xlat × State :=
  let x := translate s run q bypass
  let s1 := noteAll (s.bump MAP_LOOKUP_CNT_COUNT) (walkLines s run q bypass)
  let s1 := match descRead s run q bypass with | some st => noteLines s1 (stripeAddr s st) 152 | none => s1
  let s1 := if lookupMulti s run q bypass then s1.bump MAP_MULTI_CNT_COUNT else s1
  let s1 := if burrowIdle s run then s1.bump BUR_CNTn_COUNT 7 else s1
  let s1 := { s1 with map := { s1.map with lookupGen := s1.map.lookupGen + 1 } }
  let s1 := cacheStripe s1 (descRead s run q bypass)
  match x with
  | .corrupt => (x, (s1.set MAP_STATUS_CORRUPT 1).bump MAP_CORRUPT_CNT_COUNT)
  | .badMedia a =>
    let s2 := (s1.set MAP_STATUS_CORRUPT 1).bump MAP_CORRUPT_CNT_COUNT
    (x, badMediaEvent (s2.set MAP_STATUS_INVALID_ADDR 1) a)
  | _ => (x, s1)

end Sys2Proof.Machine
end

