-- ==== Sys2Proof/Machine/BurOps.lean ====
section
/-! DEFINITION. Burrow frames: invalidation, eviction, admission, fills (R174 to R179, R183). -/

namespace Sys2Proof.Machine

/-- The valid namespace whose run range holds a run. -/
def nsOfRun (s : State) (run : Nat) : Option Nat :=
  (List.range 4096).find? fun n => nsValid s n && nsBase s n ≤ run && run < nsBase s n + nsRuns s n

/-- The LBA format of a namespace (Table 10.3), and whether it carries protection information. -/
def nsFmt (s : State) (n : Nat) : Nat := match tget s.nvm.ns n with | some x => x.fmt | none => if nsLba4k s n then 3 else 0
def fmtPi (fmt : Nat) : Bool := fmt % 3 ≠ 0

/-- Frame state codes (Table 7.3). -/
def frFree : Nat := 0
def frFilling : Nat := 1
def frValid : Nat := 2
def frDoomed : Nat := 3
def frFailed : Nat := 4

/-- State, PIN, USE and READERS of a frame replaced. -/
def setFrameState (s : State) (f st : Nat) : State := setFrame s f (setBits (frameWord s f) 37 3 st)
def setFramePin (s : State) (f : Nat) (p : Bool) : State := setFrame s f (setBits (frameWord s f) 36 1 (b2n p))
def setFrameUse (s : State) (f u : Nat) : State := setFrame s f (setBits (frameWord s f) 34 2 u)
def setFrameReaders (s : State) (f n : Nat) : State := setFrame s f (setBits (frameWord s f) 40 8 n)

/-- A frame unpinned, with BUR_PINNED. -/
def unpinFrame (s : State) (f : Nat) : State :=
  if framePin (frameWord s f) then (setFramePin s f false).set BUR_PINNED_COUNT (s.get BUR_PINNED_COUNT - 1) else s

/-- A frame freed. -/
def freeFrame (s : State) (f : Nat) : State := setFrame (unpinFrame s f) f 0

/-- One segment invalidated (R178): a valid frame loses its tag and drains; a filling one becomes doomed. -/
def invalSeg (s : State) (run seg : Nat) : State :=
  match burFrame s run seg with
  | none => s
  | some f =>
    let w := frameWord s f
    let s := unpinFrame s f
    if frameState w = frValid then
      let s := (dropTag s run seg).bump BUR_CNTn_COUNT 5
      let s := s.set BUR_RESIDENT_COUNT (s.get BUR_RESIDENT_COUNT - 1)
      if frameReaders w = 0 then freeFrame s f else setFrameState s f frDoomed
    else if frameState w = frFilling then
      let s := { s with bur := { s.bur with fills := (s.bur.fills.map fun x =>
        if x.1 = f then (x.1, { x.2 with pin := false }) else x) } }
      (setFrameState s f frDoomed).bump BUR_CNTn_COUNT 5
    else s

/-- A sector's lines in a frame, as a read of them records (R165). -/
def noteFrame (s : State) (f sector : Nat) : State :=
  (List.range 64).foldl (fun s j => noteLine s (frameLine s f (sector * 64 + j))) s

/-- The segments that the sectors from `q`, `n` of them, of a run touch, invalidated where BURROW is 1; BURROW is
cleared when the whole run is covered (R178). -/
def invalRange (s : State) (run q n : Nat) : State :=
  if !runBurrow s run then s
  else
    let s := ((List.range 32).filter fun g => decide (g * 16 < q + n) && decide (q < g * 16 + 16)).foldl (fun s g => invalSeg s run g) s
    if q = 0 ∧ 512 ≤ n then setRunBit s run 36 false else s

/-- Every segment of a run invalidated (R179). -/
def invalRun (s : State) (run : Nat) : State := (List.range 32).foldl (fun s g => invalSeg s run g) s

/-- Every segment of the runs from `a`, `n` of them, invalidated. -/
def invalRuns (s : State) (a n : Nat) : State := (List.range n).foldl (fun s k => invalRun s (a + k)) s

/-! Eviction and admission. -/

/-- The CLOCK hand moved on, over at most `n` frames: the frame taken, or none (R177). -/
def clock (s : State) (n : Nat) : Option Nat × State :=
  match n with
  | 0 => (none, s)
  | m + 1 =>
    let total := s.get BUR_FRAMES_COUNT
    if total = 0 then (none, s)
    else
      let f := s.bur.hand % total
      let s := { s with bur := { s.bur with hand := (f + 1) % total } }
      let w := frameWord s f
      let failed := bits (s.get HBM_PC_FAILED_FAILED) (f % 64) 1 = 1
      if failed then clock s m
      else if frameState w = frFree then (some f, s)
      else if frameState w ≠ frValid ∨ framePin w ∨ 0 < frameReaders w then clock s m
      else if 0 < frameUse w then clock (setFrameUse s f (frameUse w - 1)) m
      else
        let s := (dropTag s (frameRun w) (frameSeg w)).bump BUR_CNTn_COUNT 4
        (some f, (freeFrame s f).set BUR_RESIDENT_COUNT (s.get BUR_RESIDENT_COUNT - 1))

/-- Whether a segment may be admitted at all: its namespace carries no protection information, and no flush runs (R174, R390). -/
def segAllowed (s : State) (run : Nat) : Bool :=
  !s.fch.flushing && match nsOfRun s run with
  | some n => !fmtPi (nsFmt s n)
  | none => true

/-- A frame claimed for a segment: tag written, frame filling with USE 1, BURROW set (R176); none where admission is
refused, with its status bit and count. -/
def admitSeg (s : State) (run seg : Nat) : Option Nat × State :=
  match freeTag s run seg with
  | none => (none, (s.set BUR_STATUS_IDX_FULL 1).bump BUR_CNTn_COUNT 3)
  | some k =>
    match clock s (s.get BUR_ADMIT_HAND_MAX) with
    | (none, s) => (none, (s.set BUR_STATUS_ADMIT_REFUSED 1).bump BUR_CNTn_COUNT 3)
    | (some f, s) =>
      let s := writeLe s (tagAddr s (burSet s run seg) k) 8 (f + run * 2 ^ 20 + seg * 2 ^ 49 + 2 ^ 63)
      let s := setFrame s f (mkFrame run seg 1 false frFilling 0)
      let s := setRunBit s run 36 true
      let s := { s with bur := { s.bur with fills := tput s.bur.fills f ⟨run, seg, [], false, s.bur.fillGen, none⟩, fillGen := s.bur.fillGen + 1 } }
      (some f, s.bump BUR_CNTn_COUNT 2)

/-! The end of a pin (R182, R186). -/

def burOk : Nat := 0
def burPinLimit : Nat := 1
def burBadArg : Nat := 4
def burBusy : Nat := 6

/-- A slot complete. -/
def burDone (s : State) (n result : Nat) : State :=
  ((s.set BUR_CMDn_CTL_RESULT result n).set BUR_CMDn_CTL_DONE 1 n).set BUR_CMDn_CTL_GO 0 n

/-- The wait of a pin after a fill has ended, with its frame pinned or not. -/
def pinHeard (gen : Nat) (ok : Bool) (w : PinWait) : PinWait :=
  if w.gens.contains gen then { w with gens := w.gens.erase gen, count := w.count + b2n ok } else w

/-- A PIN command that waits for no more fills complete, with the number pinned (R182). -/
def pinSlot (s : State) (x : Nat × PinWait) : State :=
  if x.1 < 8 ∧ x.2.gens = [] then
    burDone (({ s with bur := { s.bur with pinWait := tdel s.bur.pinWait x.1 } }).set BUR_CMDn_OUT0_V x.2.count x.1) x.1
      (if x.2.short then burPinLimit else burOk)
  else s

/-- A fill has ended: the pins that wait for it hear of it. -/
def pinEnded (s : State) (gen : Nat) (ok : Bool) : State :=
  let w := s.bur.pinWait.map fun x => (x.1, pinHeard gen ok x.2)
  w.foldl pinSlot { s with bur := { s.bur with pinWait := w } }

/-- A fill cancelled: the frame and its tag are freed (R176). -/
def cancelFill (s : State) (f : Nat) : State :=
  match tget s.bur.fills f with
  | none => s
  | some x =>
    let s := { s with bur := { s.bur with fills := tdel s.bur.fills f } }
    let s := if burFrame s x.run x.seg = some f then dropTag s x.run x.seg else s
    pinEnded ((freeFrame s f).bump BUR_CNTn_COUNT 6) x.gen false

/-- A sector that a fill has read kept until the fill is complete. -/
def fillGot (s : State) (f sector : Nat) (d : List Byte) : State :=
  match tget s.bur.fills f with
  | none => s
  | some x => { s with bur := { s.bur with fills := tput s.bur.fills f { x with got := tput x.got sector d } } }

/-- The address of byte `k` of a frame's segment: lines of 64 B at a 4 KiB stride (R173). -/
def frameByte (s : State) (f k : Nat) : Nat := frameLine s f (k / 64) + k % 64

/-- A sector's data written into a frame. -/
def putFrameSector (s : State) (f sector : Nat) (d : List Byte) : State :=
  (List.range 64).foldl (fun s j => writeBytes s (frameLine s f (sector * 64 + j)) ((d.drop (64 * j)).take 64)) s

/-- A sector's data read from a frame; none on a data error. -/
def frameSector (s : State) (f sector : Nat) : Option (List Byte) :=
  (List.range 64).foldlM (fun l j => (readBytes s (frameLine s f (sector * 64 + j)) 64).map (l ++ ·)) []

/-- A fill complete with all its sectors: its data stored and the frame valid, pinned where asked; a doomed frame is
freed with its tag (R176, R178). -/
def finishFill (s : State) (f : Nat) : State :=
  match tget s.bur.fills f with
  | none => s
  | some x =>
    if frameState (frameWord s f) ≠ frFilling then
      let s := { s with bur := { s.bur with fills := tdel s.bur.fills f } }
      let s := if burFrame s x.run x.seg = some f then dropTag s x.run x.seg else s
      pinEnded (freeFrame s f) x.gen false
    else if x.got.length < 16 then s
    else
      let s := { s with bur := { s.bur with fills := tdel s.bur.fills f } }
      let s := x.got.foldl (fun s y => putFrameSector s f y.1 y.2) s
      let s := setFrameState s f frValid
      let s := s.set BUR_RESIDENT_COUNT (s.get BUR_RESIDENT_COUNT + 1)
      pinEnded (if x.pin then (setFramePin s f true).set BUR_PINNED_COUNT (s.get BUR_PINNED_COUNT + 1) else s) x.gen x.pin

/-- The pin limit in frames (R182). -/
def pinLimit (s : State) : Nat := s.get BUR_AVAIL_COUNT * s.get BUR_PIN_LIMIT_PCT / 100

/-- Pinned frames and frames whose fill will pin them. -/
def pinsHeld (s : State) : Nat := s.get BUR_PINNED_COUNT + (s.bur.fills.filter fun x => x.2.pin).length

/-- A read begun on a frame: READERS and USE advance, BUR_CNT0 counts the sector (R174). -/
def hitFrame (s : State) (f ctx sector : Nat) : State :=
  let w := frameWord s f
  let s := setFrameUse (setFrameReaders s f (min 255 (frameReaders w + 1))) f (min 3 (frameUse w + 1))
  { (s.bump BUR_CNTn_COUNT 0) with bur := { s.bur with readers := s.bur.readers ++ [(f, ctx, sector)] } }

/-- A read's data has left its frame: READERS falls, and a drained frame that lost its tag becomes free (R174, R178). -/
def leaveFrame (s : State) (f : Nat) : State :=
  match s.bur.readers.find? fun x => x.1 = f with
  | none => s
  | some x =>
    let s := { s with bur := { s.bur with readers := s.bur.readers.erase x } }
    let w := frameWord s f
    let n := frameReaders w - 1
    let s := setFrameReaders s f n
    if n = 0 ∧ frameState w = frDoomed ∧ (tget s.bur.fills f).isNone then freeFrame s f else s

end Sys2Proof.Machine
end

