-- ==== Sys2Proof/Machine/JnlOps.lean ====
section
/-! DEFINITION. The map journal: records, pages, the ring of 32 pages, durability (R42 to R48). -/

namespace Sys2Proof.Machine

/-- Records that a page holds (Table 2.5). -/
def pageRecs : Nat := 4090

/-- Pages of the ring (R42). -/
def ringPages : Nat := 32

/-- Journal bytes written since the page sequence in MAP_CKPT_BEGIN (R48, log entry 13); sequences start at 1 (R43). -/
def jnlBytes (s : State) : Nat := (s.get MAP_JNL_SEQ_SEQ - max 1 (s.get MAP_CKPT_BEGIN_SEQ)) * 65536

/-- The checkpoint limit in bytes (R48). -/
def jnlLimit (s : State) : Nat := s.get MAP_JNL_CFG_CKPT_LIMIT * 16 * 2 ^ 20

/-- Whether twice the checkpoint limit is reached, so that map updates stall (R48). -/
def jnlHard (s : State) : Bool := 2 * jnlLimit s ≤ jnlBytes s

/-- JNL_LIMIT and JNL_HARD set as the limits are reached (R48). -/
def jnlLimitCheck (s : State) : State :=
  let s := if jnlLimit s ≤ jnlBytes s then s.set MAP_STATUS_JNL_LIMIT 1 else s
  if jnlHard s then s.set MAP_STATUS_JNL_HARD 1 else s

/-- Pages of the ring that are in use. -/
def ringUsed (s : State) : Nat := s.map.closed.length + (if s.map.page.isSome then 1 else 0)

/-- Records for which the ring has room (R45). -/
def ringRoom (s : State) : Nat :=
  (ringPages - ringUsed s) * pageRecs + (match s.map.page with | some p => pageRecs - p.recs.length | none => 0)

/-- Whether `n` records fit. -/
def ringFits (s : State) (n : Nat) : Bool := n ≤ ringRoom s

/-- Whether `n` records of device firmware can enter the journal now (R45), and whether it can update the map (R48, R60). -/
def mayJournal (s : State) (n : Nat) : Bool := s.on MAP_CTRL_ENABLE && ringFits s n
def mayUpdate (s : State) (n : Nat) : Bool := mayJournal s n && !jnlHard s

/-- MAP_STATUS.UPD_STALL: the ring is full, or JNL_HARD holds (R45, R48). -/
def updStall (s : State) : State := s.set MAP_STATUS_UPD_STALL (b2n (ringRoom s = 0 || jnlHard s))

/-- The open page, opened when there is none; its header names the newest durable checkpoint (R43). -/
def openPage (s : State) : JPage :=
  match s.map.page with
  | some p => p
  | none => ⟨s.get MAP_JNL_SEQ_SEQ, [], s.map.manifest, s.map.ckptSeq, false, s.timeUs⟩

/-- Whether a copy of the Sett is fenced: all the dies that hold it are out of service (R46). -/
def settFenced (s : State) (copyB : Bool) : Bool :=
  let l := if copyB then s.sys.settB else s.sys.settA
  l ≠ [] && l.all fun d => dieState s d ≠ 1

/-! Sealing (R43). -/

/-- A record's 16 B (R44). -/
def recBytes (r : JRec) : List Byte := natLe r.ty 1 ++ natLe r.flags 1 ++ natLe 0 2 ++ natLe r.key 4 ++ natLe r.val 8

/-- The 64 B header of a page (Table 2.5). -/
def pageHeader (p : JPage) : List Byte :=
  natLe 0xA71E 2 ++ natLe Config.mapVersion 2 ++ natLe p.recs.length 4 ++ natLe p.seq 8 ++ natLe p.manifest 8 ++ natLe p.ckptSeq 8
    ++ natLe (b2n p.shutdown) 1 ++ natLe 0 31

/-- The bytes of a page between header and tag: its records, PAD records, the reserved bytes (R45, Table 2.5). -/
def pageBody (p : JPage) : List Byte := fit (p.recs.flatMap recBytes) 65456

/-- A page as its 64 KiB lie in the Sett: header, sealed body, tag (R43). -/
def sealPage (s : State) (p : JPage) : List Byte :=
  let key := derive s (settLabel s "MAP-JNL-") (p.seq / 2 ^ 32)
  pageHeader p ++ sealBytes key (natLe p.seq 8 ++ natLe 0 4) (pageHeader p) (pageBody p)

/-- A page handed to the program of one copy (R45). -/
def programPage (s : State) (copyB : Bool) (p : JPage) : State := s.emit (.settPage copyB p.seq (sealPage s p))

/-- The open page closed, sealed and handed to the program of both Sett copies (R45); a fenced copy takes no program, and with both
fenced the Sett is lost (R46, R416). -/
def closePage (s : State) (shutdown : Bool) : State :=
  let p := { openPage s with shutdown := shutdown }
  let c (b : Bool) : PageCopy := if settFenced s b then .lost else .programming 1
  let s := { s with map := { s.map with
    page := none
    closed := s.map.closed ++ [JClosed.mk p (c false) (c true)]
    lastClosed := p.seq
    shutSeq := if shutdown then p.seq else s.map.shutSeq } }
  let s := if settFenced s false then s else programPage s false p
  let s := if settFenced s true then s else programPage s true p
  let s := if settFenced s false && settFenced s true then fatalFault s 2 else s
  jnlLimitCheck (s.set MAP_JNL_SEQ_SEQ (p.seq + 1))

/-- One record in the open page; a page that this fills is closed (R45). -/
def appendRec (s : State) (r : JRec) : State :=
  let p := openPage s
  let p := if p.recs = [] then { p with firstUs := s.timeUs } else p
  let p := { p with recs := p.recs ++ [r] }
  let s := { s with map := { s.map with page := some p } }
  updStall (if p.recs.length ≥ pageRecs then closePage s false else s)

/-- Records appended in order (R42). -/
def journal (s : State) (l : List JRec) : State := l.foldl appendRec s

/-- The records that MAP writes (Table 2.6). -/
def recRunSet (run e : Nat) : JRec := ⟨0x01, 0, run, bits e 0 36⟩
def recExcSet (run e : Nat) : JRec := ⟨0x02, 0, run, e⟩
def recExcDel (run q span : Nat) : JRec := ⟨0x03, 0, run, q + (span - 1) * 2 ^ 9⟩
def recExcClear (run : Nat) (keep : Bool) : JRec := ⟨0x04, 0, run, b2n keep⟩
def recStripeHdr (stripe h : Nat) : JRec := ⟨0x05, 0, stripe, h⟩
def recStripeMember (stripe p w : Nat) : JRec := ⟨0x06, 0, stripe, p + w * 2 ^ 6⟩

/-- Whether one closed page is durable: verified in both copies, or in the one that is left (R46). -/
def pageDurable (c : JClosed) : Bool :=
  match c.copyA, c.copyB with
  | .verified, .verified => true
  | .verified, .lost => true
  | .lost, .verified => true
  | _, _ => false

/-- The greatest FLUSH_MARK of some pages (R391): records of type 0x81 carry the energy in VALUE. -/
def pagesMark (l : List JClosed) : Nat :=
  ((l.flatMap fun c => c.page.recs).filter fun r => r.ty = 0x81).foldl (fun m r => max m r.val) 0

/-- Pages kept in the Sett: those from the begin page of the older kept checkpoint on are replayed by a recovery (R51, R53). -/
def keepPages (x : SettSt) (l : List JPage) : SettSt :=
  { x with pages := x.pages ++ l, tail := (l.getLast?.map JPage.seq).getD x.tail }

/-- The durable pages at the head of the closed list taken off, and MAP_JNL_DURABLE moved past them (R46). The Sett keeps them,
with whether the newest carries SHUTDOWN, and the greatest FLUSH_MARK of a flush that has no SHUTDOWN page (R52, R393). -/
def advanceDurable (s : State) : State :=
  let n := (s.map.closed.takeWhile pageDurable)
  match n.getLast? with
  | none => s
  | some c =>
    let s := { s with
      map := { s.map with closed := s.map.closed.drop n.length }
      sys := { s.sys with sett := { keepPages s.sys.sett (n.map JClosed.page) with clean := c.page.shutdown } }
      pwr := { s.pwr with flushMark := if c.page.shutdown then 0 else max s.pwr.flushMark (pagesMark n) } }
    updStall (s.set MAP_JNL_DURABLE_SEQ c.page.seq)

/-- What a recovery finds in the Sett of the pages that are not durable: those that one copy holds, up to the first that neither
does; a torn page's tag verifies in no copy (R53, Table 2.8). -/
def keptSett (s : State) : SettSt :=
  keepPages s.sys.sett ((s.map.closed.takeWhile fun c => c.copyA = .verified || c.copyB = .verified).map JClosed.page)

/-- Whether every page up to a sequence is durable. -/
def durableTo (s : State) (q : Nat) : Bool := s.map.closed.all fun c => q < c.page.seq

/-- A slot of MAP completed with a result: GO clears, DONE and RESULT are set (R60). -/
def slotDone (s : State) (n result : Nat) : State :=
  ((s.set MAP_CMDn_CTL_RESULT result n).set MAP_CMDn_CTL_DONE 1 n).set MAP_CMDn_CTL_GO 0 n

/-- JNL_SYNC slots whose sequence is durable completed (R60). -/
def finishSyncs (s : State) : State :=
  let rdy := s.map.syncWait.filter fun x => durableTo s x.2
  let s := { s with map := { s.map with syncWait := s.map.syncWait.filter fun x => !durableTo s x.2 } }
  rdy.foldl (fun s x => slotDone s x.1 0) s

end Sys2Proof.Machine
end

