-- ==== Sys2Proof/Machine/StgOps.lean ====
section
/-! DEFINITION. Write staging: admission against the dirty ceiling, staging entries, coverage, release, and what a
write's durability waits for (R31, R167 to R172, R234, R235). -/

namespace Sys2Proof.Machine

/-- Addresses of a staging sector and its metadata slot (R167). -/
def stgAddr (s : State) (i : Nat) : Nat := s.get HBM_STG_BASE_BASE * 4096 + i * 4096
def stgMeta (s : State) (i : Nat) : Nat := s.get HBM_STG_META_BASE * 4096 + i * 64

/-- Data and metadata of a staging sector, with the state of the lines that were read (R165, R167). -/
def readStaged (s : State) (i : Nat) : Option (List Byte) × State :=
  let t := noteLines (noteLines s (stgAddr s i) 4096) (stgMeta s i) 64
  match readBytes s (stgAddr s i) 4096, readBytes s (stgMeta s i) 64 with
  | some d, some m => (some (d ++ m), t)
  | _, _ => (none, t)

/-- HBM_DIRTY and HBM_STG_FREE brought up to date (R169). -/
def stgCounts (s : State) : State :=
  (s.set HBM_DIRTY_SECTORS s.hbm.stg.length).set HBM_STG_FREE_COUNT (flCount s.hbm.stgFree)

/-- The dirty ceiling in sectors (R169). -/
def ceilingSectors (s : State) : Nat := s.get HBM_CEIL_UNITS * 16384

/-- Whether `n` sectors may be reserved now: the ceiling and the free list allow it, and the free-stripe reserve does
not stop writes (R134, R170). -/
def roomFor (s : State) (n : Nat) : Bool :=
  s.on HBM_CTRL_ENABLE && s.hbm.stg.length + n ≤ ceilingSectors s && n ≤ flCount s.hbm.stgFree

/-- Whether `n` consecutive numbers from `a` are all free. -/
def flSpan (l : FreeList) (a n : Nat) : Bool :=
  (List.range n).all fun k => l.back.contains (a + k) || (decide (l.next ≤ a + k) && decide (a + k < l.stop))

/-- Staging sectors taken from the free list, consecutive where it can: numbers that were never used, else the first span of
given-back ones that is long enough (R167, log entry 12). -/
def takeSectors (l : FreeList) (n : Nat) : List Nat × FreeList :=
  if l.next + n ≤ l.stop then ((List.range n).map fun k => l.next + k, { l with next := l.next + n })
  else
    match l.back.find? fun a => flSpan l a n with
    | some a =>
      ((List.range n).map fun k => a + k,
        { l with
          back := l.back.filter fun b => decide (b < a) || decide (a + n ≤ b)
          next := if a ≤ l.next ∧ l.next < a + n then a + n else l.next })
    | none =>
      (List.range n).foldl (fun x _ => match flPop x.2 with | some (a, r) => (x.1 ++ [a], r) | none => x) ([], l)

/-- Whether a write that starts at a sector of a namespace continues a sequential stream: the writes before it ended there, over at
least DIRECT_MIN (R140). -/
def streams (s : State) (ns first : Nat) : Bool :=
  match tget s.media.streams ns with
  | some (e, len) => e = first && s.sys.image.directMin * 256 ≤ len
  | none => false

/-- The stream of a namespace after a write of `n` sectors (R140). -/
def noteStream (s : State) (ns first n : Nat) : State :=
  let len := match tget s.media.streams ns with | some (e, len) => if e = first then len + n else n | none => n
  { s with media := { s.media with streams := tput s.media.streams ns (first + n, len) } }

/-- The first sector of a write within its namespace. -/
def firstSec (s : State) (ns : Nat) (secs : List (Nat × Nat)) : Nat :=
  match secs with
  | (run, q) :: _ => (run - nsBase s ns) * 512 + q
  | [] => 0

/-- The sectors of a write reserved: one staging sector for each (R169). -/
def reserveSectors (s : State) (c ns handle : Nat) (secs : List (Nat × Nat)) : State :=
  match ctxOf s c with
  | none => s
  | some x =>
    let (l, r) := takeSectors s.hbm.stgFree secs.length
    let stream := streams s ns (firstSec s ns secs)
    let whole (run : Nat) : Bool := stream && (secs.filter fun y => y.1 = run).length = 512
    let add := (l.zip secs).foldl (fun t y =>
      tput t y.1 ⟨ns, y.2.1, y.2.2, x.seq, false, false, handle, s.timeUs, whole y.2.1⟩) s.hbm.stg
    let s := noteStream { s with hbm := { s.hbm with stg := add, stgFree := r } } ns (firstSec s ns secs) secs.length
    stgCounts (setCtx s c { x with stg := l })

/-- Whether a staging entry covers a staging sector. -/
def covered (s : State) (i : Nat) : Bool :=
  match tget s.hbm.stg i with
  | some x => stagedAt s x.run x.q = some i
  | none => false

/-- Number of users of a staging sector. -/
def stgUses (s : State) (i : Nat) : Nat := tgetD s.hbm.stgUsers i 0

/-- A user of a staging sector added or taken away. -/
def useStg (s : State) (i : Nat) (up : Bool) : State :=
  let n := if up then stgUses s i + 1 else stgUses s i - 1
  { s with hbm := { s.hbm with stgUsers := if n = 0 then tdel s.hbm.stgUsers i else tput s.hbm.stgUsers i n } }

/-- Whether a staging sector may be released (R167). -/
def releasable (s : State) (i : Nat) : Bool :=
  match tget s.hbm.stg i with
  | some x => x.staged && !covered s i && stgUses s i = 0
  | none => false

/-- A staging sector released to the free list. -/
def releaseStg (s : State) (i : Nat) : State :=
  if releasable s i then
    stgCounts { s with hbm := { s.hbm with stg := tdel s.hbm.stg i, stgFree := { s.hbm.stgFree with back := s.hbm.stgFree.back ++ [i] } } }
  else s

/-! Durability. -/

/-- The page sequence that the newest journal record entered. -/
def jnlLast (s : State) : Nat := match s.map.page with | some p => p.seq | none => s.map.lastClosed

/-- A context's wait for staging sector `i` moved to the journal page `pg`. -/
def ctxDurMark (i pg : Nat) (x : Ctx) : Ctx :=
  if (x.durLeft.contains i) = true then { x with durLeft := x.durLeft.erase i, durSeq := max x.durSeq pg } else x

/-- A staging sector's data programmed, with its map record in page `pg`: those who wait for it wait for the page. -/
def durMark (s : State) (i pg : Nat) : State :=
  { s with cmd := { s.cmd with ctxs := s.cmd.ctxs.map fun x => (x.1, ctxDurMark i pg x.2) } }

/-- A staging sector superseded: nothing of it is left to make durable. -/
def durDrop (s : State) (i : Nat) : State := durMark s i 0

/-- The open page closed when a command waits only for it (Table 7.2). -/
def durKick (s : State) : State :=
  match s.map.page with
  | none => s
  | some p =>
    if s.cmd.ctxs.any (fun x => x.2.waitDur && x.2.durLeft = [] && x.2.durSeq = p.seq) then updStall (closePage s false) else s

/-- Whether what a command's durability waits for has come (Table 7.2). -/
def isDurable (s : State) (x : Ctx) : Bool :=
  x.durLeft = [] && durableTo s x.durSeq && (match s.map.page with | some p => x.durSeq < p.seq | none => true)

/-! Staging entries (R31, R37). -/

/-- The consecutive spans of a write's sectors: run, first sector-in-run, first index, length. -/
def stgSpans (l : List (Nat × Nat × Nat)) : List (Nat × Nat × Nat × Nat) :=
  l.foldr (fun x r => match r with
    | (run, q, i, n) :: t =>
      if x.1 = run ∧ x.2.1 + 1 = q ∧ x.2.2 + 1 = i then (run, x.2.1, x.2.2, n + 1) :: t else (x.1, x.2.1, x.2.2, 1) :: (run, q, i, n) :: t
    | [] => [(x.1, x.2.1, x.2.2, 1)]) []

/-- One span inserted; the sectors that lose their coverage to it are superseded. -/
def insertSpan (s : State) (x : Nat × Nat × Nat × Nat) : Except InsErr State :=
  let (run, q, i, n) := x
  let old := (List.range n).filterMap fun k => stagedAt s run (q + k)
  match setEntry s (stgPool s) run (mkStgEntry q i n) with
  | .error e => .error e
  | .ok t => .ok (touchRun (old.foldl durDrop t) run)

/-- All staging entries of a write inserted; none where one of them does not fit (R31). -/
def insertWrite (s : State) (c : Nat) : Option State :=
  match ctxOf s c with
  | none => some s
  | some x =>
    let l := x.stg.filterMap fun i => (tget s.hbm.stg i).map fun y => (y.run, y.q, i)
    match (stgSpans l).foldlM insertSpan s with
    | .ok t => some t
    | .error _ => none

/-- The runs and spans of a write: run, first sector-in-run, length. -/
def writeSpans (s : State) (x : Ctx) : List (Nat × Nat × Nat) :=
  (stgSpans (x.stg.filterMap fun i => (tget s.hbm.stg i).map fun y => (y.run, y.q, i))).map fun y => (y.1, y.2.1, y.2.2.2)

/-- The runs that a write covers wholly: BUR clears their BURROW (R178). -/
def wholeRuns (s : State) (x : Ctx) : List Nat :=
  let l := x.stg.filterMap fun i => (tget s.hbm.stg i).map fun y => y.run
  (uniq l).filter fun run => (l.filter (· = run)).length = 512

/-- The data of a write has fully arrived and is checked (R14, R31, R167): its entries are inserted, the Burrow is
invalidated, and its sectors count as staged; with STG_PROBE_FAIL it waits. -/
def stageWrite (s : State) (c : Nat) : State :=
  match insertWrite s c with
  | none => { (s.set MAP_STATUS_STG_PROBE_FAIL 1) with hbm := { s.hbm with
      probeWait := if s.hbm.probeWait.contains c then s.hbm.probeWait else s.hbm.probeWait ++ [c] } }
  | some s =>
    match ctxOf s c with
    | none => s
    | some x =>
      let s := (writeSpans s x).foldl (fun s y => invalRange s y.1 y.2.1 y.2.2) s
      let s := (wholeRuns s x).foldl (fun s run => if runBurrow s run then setRunBit s run 36 false else s) s
      let mark (t : Tbl StgSec) (i : Nat) : Tbl StgSec :=
        match tget t i with | some y => tput t i { y with staged := true, atUs := s.timeUs } | none => t
      let s := { s with hbm := { s.hbm with
        stg := x.stg.foldl mark s.hbm.stg
        probeWait := s.hbm.probeWait.filter (· ≠ c) } }
      updCtx s c fun y => { y with staged := true, durLeft := y.stg }

/-- Writes that wait for the staging map tried again, in order. -/
def retryProbes (s : State) : State := s.hbm.probeWait.foldl stageWrite s

end Sys2Proof.Machine
end

