-- ==== Sys2Proof/Machine/FchBase.lean ====
section
/-! DEFINITION. Die queues and den scheduling: nominal times, tokens, the next operation of a die, suspend conditions
and the predicted wait (R80 to R88). -/

namespace Sys2Proof.Machine

/-- Den, channel and die-on-channel of a global die number. -/
def denOf (die : Nat) : Nat := die / 128
def chOf (die : Nat) : Nat := die / 8

def emptyDie : DieSt := ⟨[], none, [], none, [], []⟩
def dieOf (s : State) (die : Nat) : DieSt := tgetD s.fch.dies die emptyDie
def setDieSt (s : State) (die : Nat) (d : DieSt) : State := { s with fch := { s.fch with dies := tput s.fch.dies die d } }
/-- A die that waits for tokens no longer (R84). -/
def noTokenWait (s : State) (die : Nat) : State := { s with fch := { s.fch with tokenQ := s.fch.tokenQ.filter (· ≠ die) } }

/-- Whether the Sett holds the mark table of the die that stands in a position: one of its position and Read ID (R151). -/
def dieScanned (s : State) (die : Nat) : Bool :=
  match tget s.media.marks die with
  | some t => t.ident = (dieOf s die).ident
  | none => false

def setChan (s : State) (ch : Nat) (c : ChSt) : State := { s with fch := { s.fch with chans := tput s.fch.chans ch c } }

/-- A command sequence sent to a die: bit 2 of die-on-channel selects the chip enable, bits 1 and 0 the LUN under it (R10, R73). -/
def dieOut (die op media count : Nat) (args : List Int) (data : List (List Byte)) : Out :=
  .dieOp (chOf die) (die / 4 % 2) (die % 4) op media count args data

/-- The operations of a die that stand in its queue of 64 entries; the rest of the list are sources that wait (R80). -/
def queued (d : DieSt) : List MOp := d.queue.take 64

/-- The nominal time of an operation in µs, by the die's model (R74, R85). -/
def nominal (s : State) (die : Nat) (o : MOp) : Nat :=
  let m := dieModel s die
  match o.kind with
  | .read => if o.slc then s.get FCH_MODELm_TIME0_T_R_SLC m else s.get FCH_MODELm_TIME0_T_R m
  | .program => if o.slc then s.get FCH_MODELm_TIME0_T_PROG_SLC m else s.get FCH_MODELm_TIME0_T_PROG m
  | .erase => s.get FCH_MODELm_TIME1_T_BERS m
  | .reset => 1000
  | _ => 0

/-- How long an operation has run, suspends left out (R74, R85). -/
def runTime (s : State) (r : Running) : Nat := if r.suspended then r.ranUs else r.ranUs + (s.timeUs - r.resumedUs)

/-- Whether an operation is a program or an erase. -/
def isWrite (o : MOp) : Bool := o.kind = .program || o.kind = .erase

/-- Tokens of an operation (R84); class 0 takes none. -/
def tokenCost (s : State) (den : Nat) (o : MOp) : Nat :=
  if o.cls = 0 then 0
  else
    match o.kind with
    | .read => s.get FCH_DEN_TOKENS_COST_READ den
    | .program => s.get FCH_DEN_TOKENS_COST_PROG den
    | .erase => s.get FCH_DEN_TOKENS_COST_ERASE den
    | _ => 0

/-- The token budget in force (R84). -/
def denBudget (s : State) (den : Nat) : Nat :=
  s.get FCH_DEN_TOKENS_BUDGET den * (8 - s.get FCH_DEN_TOKENS_THROTTLE den) / 8

/-- Tokens held by the operations of a den that run and are not suspended. -/
def denUsed (s : State) (den : Nat) : Nat :=
  (s.fch.dies.filter fun x => denOf x.1 = den).foldl (fun n x =>
    n + (match x.2.run with | some r => if r.suspended then 0 else r.tokens | none => 0)
      + x.2.reads.foldl (fun m r => m + r.tokens) 0) 0

/-- Whether two operations address the same erase block. -/
def sameBlock (a b : MOp) : Bool := mediaBlock a.media = mediaBlock b.media

/-- Whether two reads are of the same 4-plane page in the same mode and at the same level (R81). -/
def samePage (a b : MOp) : Bool :=
  a.kind = .read && b.kind = .read && sameBlock a b && mediaPage a.media = mediaPage b.media && a.slc = b.slc && a.level = b.level

/-- Whether an operation must wait for an earlier one of the queue (R82). -/
def blockedBy (before : List MOp) (o : MOp) : Bool := before.any fun b => sameBlock b o && (isWrite b || isWrite o)

/-- The queue with the operations that arrived before each. -/
def withBefore (l before : List MOp) : List (MOp × List MOp) :=
  match l with
  | [] => []
  | o :: r => (o, before) :: withBefore r (before ++ [o])

/-- The operation that a die issues next under R81 and R82, among those a test admits: lowest class in arbitration,
then arrival. -/
def pickOp (q : List MOp) (ok : MOp → Bool) : Option MOp :=
  ((withBefore q []).filter fun x => ok x.1 && !blockedBy x.2 x.1).foldl (fun best x => match best with
    | none => some x.1
    | some b => if x.1.eff < b.eff then some x.1 else best) none

/-- Whether a read that makes a suspend worth while is queued: class 1 or 2 (R87). -/
def readWaits (d : DieSt) : Bool := (queued d).any fun o => o.kind = .read && (o.cls = 1 || o.cls = 2)

/-- Whether an urgent read is queued (R106). -/
def urgentWaits (d : DieSt) : Bool := (queued d).any fun o => o.kind = .read && o.urgent

/-- Whether the die's model can suspend an operation (R87). -/
def suspSupported (s : State) (die : Nat) (o : MOp) : Bool :=
  if o.kind = .program then s.on FCH_MODELm_GEOM_PSUSP (dieModel s die)
  else if o.kind = .erase then s.on FCH_MODELm_GEOM_ESUSP (dieModel s die)
  else false

/-- The minimum run and the suspend limits of an operation (R87). -/
def minRun (s : State) (den : Nat) (o : MOp) : Nat :=
  if o.kind = .program then s.get FCH_DEN_SUSP_PROG_MIN_RUN den else s.get FCH_DEN_SUSP_ERASE_MIN_RUN den
def minRemain (s : State) (den : Nat) (o : MOp) : Nat :=
  if o.kind = .program then s.get FCH_DEN_SUSP_PROG_MIN_REMAIN den else s.get FCH_DEN_SUSP_ERASE_MIN_REMAIN den
def suspMax (s : State) (den : Nat) (o : MOp) : Nat :=
  if o.kind = .program then s.get FCH_DEN_SUSP2_PROG_MAX den else s.get FCH_DEN_SUSP2_ERASE_MAX den

/-- The part of R87's condition that does not depend on queued reads, at a run time. -/
def maySuspendAt (s : State) (die : Nat) (r : Running) (ran : Nat) : Bool :=
  let den := denOf die
  suspSupported s die r.op && decide (minRemain s den r.op < nominal s die r.op - ran) && decide (r.suspends < suspMax s den r.op)
    && !(s.fch.flushing && r.op.kind = .program)

/-- Whether the scheduler suspends the running operation now (R87, R106). -/
def maySuspend (s : State) (die : Nat) : Bool :=
  let d := dieOf s die
  match d.run with
  | none => false
  | some r =>
    isWrite r.op && !r.suspended &&
      ((readWaits d && maySuspendAt s die r (runTime s r) && decide (minRun s (denOf die) r.op ≤ s.timeUs - r.resumedUs))
        || (urgentWaits d && suspSupported s die r.op && !s.fch.flushing))

/-- The suspend time of an operation. -/
def tSusp (s : State) (die : Nat) (o : MOp) : Nat :=
  if o.kind = .program then s.get FCH_MODELm_TIME1_T_SUSP_P (dieModel s die) else s.get FCH_MODELm_TIME1_T_SUSP_E (dieModel s die)

/-- The time until tokens are released in a den: the least remaining nominal time of the operations that hold some. -/
def tokenWait (s : State) (den : Nat) : Nat :=
  let rem := (s.fch.dies.filter fun x => denOf x.1 = den).flatMap fun x =>
    (((match x.2.run with | some r => if r.suspended then [] else [r] | none => []) ++ x.2.reads).filter fun r => r.tokens ≠ 0).map fun r =>
      nominal s x.1 r.op - runTime s r
  match rem with
  | [] => 0
  | a :: l => l.foldl min a

/-- Whether a queued operation is a read of class 0 to 2, which R85 counts ahead of a class 1 read. -/
def aheadRead (o : MOp) : Bool := o.kind = .read && decide (o.cls ≤ 2)

/-- The nominal times of the operations other than those reads among the next `n` that a full queue issues before a waiting source
gets a place (R80, R85, log entry 102). -/
def placeWait (s : State) (die : Nat) (q : List MOp) (n : Nat) : Nat :=
  match n with
  | 0 => 0
  | m + 1 =>
    match pickOp q (fun _ => true) with
    | none => 0
    | some o => (if aheadRead o then 0 else nominal s die o) + placeWait s die (q.erase o) m

/-- The predicted wait of a class 1 read in a mode behind the operations `q` of a die (R85). A full queue adds the wait for a place
(R80). -/
def predWaitBehind (s : State) (die : Nat) (slc : Bool) (q : List MOp) : Nat :=
  let d := dieOf s die
  let m := dieModel s die
  let own := if slc then s.get FCH_MODELm_TIME0_T_R_SLC m else s.get FCH_MODELm_TIME0_T_R m
  let busy := match d.run with
    | none => 0
    | some r =>
      if r.suspended then 0
      else
        let next := r.resumedUs + minRun s (denOf die) r.op
        let at' := r.ranUs + (max next s.timeUs - r.resumedUs)
        if isWrite r.op && maySuspendAt s die r at' then (next - s.timeUs) + tSusp s die r.op
        else nominal s die r.op - runTime s r
  let ahead := (q.filter aheadRead).foldl (fun n o => n + nominal s die o) 0
  let place := placeWait s die q (q.length - 63)
  let den := denOf die
  let reclaim := match d.run with | some r => if isWrite r.op && !r.suspended && suspSupported s die r.op then r.tokens else 0 | none => 0
  let short := if denBudget s den + reclaim < denUsed s den + s.get FCH_DEN_TOKENS_COST_READ den then tokenWait s den else 0
  min (busy + ahead + place + own + short) 65535

/-- The predicted wait of a read queued now. -/
def predWaitMode (s : State) (die : Nat) (slc : Bool) : Nat := predWaitBehind s die slc (dieOf s die).queue

/-- QDEPTH, SUSPENDED and PRED_WAIT of a die as they stand, and a cell of FCH_DIEd with them (R75, R92). PRED_WAIT is that of a dense
read: the register has no place for the other mode (DESIGN CHOICE, log entry 102). -/
def dieWord (s : State) (die v : Nat) : Nat :=
  let d := dieOf s die
  let susp := match d.run with | some r => r.suspended | none => false
  setBits (setBits (setBits v 7 1 (b2n susp)) 8 8 (min 64 d.queue.length)) 32 16 (predWaitMode s die false)

/-- Whether the power-fail flush drops an operation of a class (R90). -/
def flushDrops (s : State) (cls : Nat) : Bool := s.fch.flushing && cls ≠ 0 && cls ≠ 3

/-- An operation as it competes: in the flush a program stands above class 1 (R90). -/
def flushRaise (s : State) (o : MOp) : MOp := if s.fch.flushing ∧ o.kind = .program then { o with eff := 0 } else o

/-- Address of descriptor `i` of a den's ring. -/
def descAddr (s : State) (den i : Nat) : Nat := s.get FCH_DEN_RING_BASE_BASE den * 4096 + i * 32

/-- A descriptor completed: its STATUS written, RING_DONE where IRQ is 1 (R86). -/
def descEnd (s : State) (den i status : Nat) : State :=
  let a := descAddr s den i
  let irq := bits (readLeD s (a + 1) 1) 4 1 = 1
  let s := writeLe s (a + 30) 1 status
  let s := if status = 0x0A then s.set FCH_DEN_STATUS_RING_ERR 1 den else s
  if irq then s.set FCH_DEN_STATUS_RING_DONE 1 den else s

/-- A scrub read ended: `bad` for one that needed L2, or that the die could not serve, which makes its row due (R149). -/
def scrubRead (s : State) (bad : Bool) : State :=
  match s.media.scrub with
  | none => s
  | some x => { s with media := { s.media with scrub := some { x with left := x.left - 1, due := x.due || bad } } }

/-- An operation that reaches its die during the power-fail flush ended with DROPPED: a descriptor has its STATUS, device firmware its
erase or scrub read back; a host read leaves its command unfinished (R90, R106). -/
def dropOp (s : State) (o : MOp) : State :=
  match o.src with
  | .desc den i => descEnd s den i 0x0B
  | .firmware t => if o.kind = .read then scrubRead s false else { s with media := { s.media with ends := s.media.ends ++ [(t, 3)] } }
  | _ => s

/-- An operation put on a die's queue, or dropped in the flush (R80, R90). -/
def qPush (s : State) (die : Nat) (o : MOp) : State :=
  let d := dieOf s die
  if flushDrops s o.cls then dropOp s o
  else setDieSt s die { d with queue := d.queue ++ [{ flushRaise s o with queuedUs := s.timeUs }] }

/-- A read that the die serves again, at another level or after a DQS timeout: it keeps its place in the order of arrival, so that no
later erase of its block passes it (R82). -/
def qAgain (s : State) (die : Nat) (o : MOp) : State :=
  let d := dieOf s die
  if flushDrops s o.cls then dropOp s o
  else
    let older (x : MOp) : Bool := decide (x.queuedUs < o.queuedUs)
    setDieSt s die { d with queue := d.queue.takeWhile older ++ flushRaise s o :: d.queue.dropWhile older }

/-- The first queued operation that a test picks withdrawn from a die (R103). -/
def qTake (s : State) (die : Nat) (o : MOp) : State :=
  let d := dieOf s die
  setDieSt s die { d with queue := d.queue.erase o }

/-- A read of one sector. -/
def readOp (src : Src) (cls : Nat) (slc : Bool) (media : Nat) (urgent : Bool) : MOp :=
  ⟨src, .read, cls, cls, slc, media, 1, urgent, 0, 0, 0, false, [[]], none, 0, none⟩

/-- A program of one page in all four planes. -/
def progOp (src : Src) (slc : Bool) (media : Nat) (data : List (List Byte)) : MOp :=
  ⟨src, .program, 3, 3, slc, media, 16, false, 0, 0, 0, false, data, none, 0, none⟩

/-- Whether a block is in pSLC mode: the mode of the stripe that owns it (R24, R453); dense without an owner. -/
def blockSlc (s : State) (media : Nat) : Bool :=
  match ownerOf s media with
  | some (st, _) => stripeMode (stripeHdr s st) = 0
  | none => false

/-- Operation codes of `Out.dieOp`: those of Table 3.7, then suspend, resume, Reset LUN, Read Status Enhanced. -/
def opCode : MKind → Nat
  | .read => 1
  | .program => 2
  | .erase => 3
  | .reset => 4
  | .getFeatures => 5
  | .setFeatures => 6
  | .paramPage => 7
  | .readStatus => 8
def opSuspend : Nat := 9
def opResume : Nat := 10
def opResetLun : Nat := 11
def opPoll : Nat := 12
/-- Reset (FFh) on a chip enable (R67, R70). -/
def opResetAll : Nat := 13
/-- Read ID with address 20h through a candidate bit order (R70). -/
def opOrderTrial : Nat := 14

/-- Reset (FFh) on both chip enables of a channel (Table 3.2, step 2; R70). -/
def chanReset (s : State) (ch : Nat) : State :=
  (s.emit (.dieOp ch 0 0 opResetAll 0 0 [] [])).emit (.dieOp ch 1 0 opResetAll 0 0 [] [])

/-- WP_N of a den driven (R67); it stays high for the whole flush (R90). -/
def setWp (s : State) (den : Nat) (level : Bool) : State :=
  if tgetD s.fch.wp den false = level ∨ (!level && s.fch.flushing) then s
  else ({ s with fch := { s.fch with wp := tput s.fch.wp den level } }).emit (.pin (.wpN den) (some level))

end Sys2Proof.Machine
end

