-- ==== Sys2Proof/Machine/TrkOps.lean ====
section
/-! DEFINITION. The tracking engine: cells, the tracking output, samples, evaluation of read cells and thermal cells,
frames and bank swaps (R114 to R128), and the throttle level of a den (R378). -/

namespace Sys2Proof.Machine

/-- Element `k` of a list of integers, 0 beyond its end, and the list with it set. -/
def intAt (l : List Int) (k : Nat) : Int := l.getD k 0
def sat8 (x : Int) : Int := clampInt (-128) 127 x

/-- Whether sat8 changes a value. -/
def clamps8 (x : Int) : Bool := decide (x < -128) || decide (127 < x)

/-- An unused accumulator and an unused record. -/
def acc0 : TAcc := ⟨0, 0, 0⟩
def cell0 : TCell :=
  ⟨List.replicate 15 0, false, false, false, 0, 0, List.replicate 4 false, List.replicate 4 false, 0, 0,
    List.replicate 4 0, List.replicate 4 acc0, 0, 0, 0, false⟩
def cellOf (s : State) (c : Nat) : TCell := tgetD s.trk.cells c cell0
def setCell (s : State) (c : Nat) (x : TCell) : State := { s with trk := { s.trk with cells := tput s.trk.cells c x } }

/-- The number of page types of a mode, and of a read (R114): 1 for pSLC, 3 for TLC, 4 for QLC. -/
def modeTypes (mode : Nat) : Nat := if mode = 0 then 1 else if mode = 1 then 3 else 4
def readMode (s : State) (model : Nat) (slc : Bool) : Nat :=
  if slc then 0 else if s.get FCH_MODELm_GEOM_CELL model = 2 then 2 else 1

/-- Page type, layer position and layer band of page `p` (R114). -/
def pageType (s : State) (model p : Nat) (slc : Bool) : Nat := p % modeTypes (readMode s model slc)
def layerPos (s : State) (model p : Nat) (slc : Bool) : Nat :=
  min 511 (p / modeTypes (readMode s model slc) / s.get TRK_MODELm_CFG_STRINGS model)
def layerBand (s : State) (model p : Nat) (slc : Bool) : Nat :=
  min 7 (layerPos s model p slc * 8 / s.get TRK_MODELm_CFG_LAYERS model)

/-- Address of the age-table byte of a block (R115). -/
def ageAddr (s : State) (die block : Nat) : Nat := s.get TRK_AGE_BASE_BASE * 4096 + die * 4096 + block / 4

/-- The age band of a block, through the cache: none where its line cannot be read, which is then not cached (R115). The spec does not
say which of 4,096 cached lines a further one replaces: the one cached longest ago, whether or not it has hit since (DESIGN CHOICE,
log entry 104). -/
def ageBand (s : State) (die block : Nat) : Option Nat × State :=
  let a := ageAddr s die block
  let pick (l : List Byte) : Nat := bits ((l.getD (a % 64) 0).toNat) (2 * (block % 4)) 2
  match s.trk.ageCache.find? fun x => x.1 = a / 64 with
  | some x => (some (pick x.2), s)
  | none =>
    let s := noteLine (s.bump TRK_CNTn_COUNT 8) (a / 64 * 64)
    match readBytes s (a / 64 * 64) 64 with
    | none => (none, s)
    | some l => (some (pick l), { s with trk := { s.trk with ageCache := ((a / 64, l) :: s.trk.ageCache).take 4096 } })

/-- Signed byte `k` of a vector of offsets packed at 8 bits. -/
def packedOff (v k : Nat) : Int := signed 8 (bits v (8 * k) 8)

/-- The feed-forward offset of a level in the active bank. -/
def feedFwd (s : State) (model pos k : Nat) : Int :=
  packedOff (s.get TRK_FF_F ((s.get TRK_BANK_ACTIVE * 8 + model) * 512 + pos)) k

/-- Whether a page type reads a level (R114, R116). -/
def readsLevel (s : State) (model t : Nat) (slc : Bool) (k : Nat) : Bool :=
  if slc then k = 0 else bits (s.get TRK_MODELm_PAGEt_LEVELS model t) k 1 = 1

/-- The capture of a read at its issue: the tracking output, the cell, its tag and the frame; a level that the page type
does not read keeps the value last loaded (R116). A clamp sets SAT of the cell (R122). -/
def capture (s : State) (die : Nat) (media : Nat) (slc : Bool) : Cap × State :=
  let m := dieModel s die
  let p := mediaPage media
  let pos := layerPos s m p slc
  let t := pageType s m p slc
  let (cell, s) :=
    if s.on TRK_CTRL_ENABLE then
      let (b, s) := ageBand s die (mediaBlock media)
      (b.map fun b => die * 32 + b * 8 + layerBand s m p slc, s)
    else (none, s)
  let x := match cell with | some c => cellOf s c | none => cell0
  let use := x.valid && dieState s die ≠ 4
  let sum (k : Nat) : Int := (if use then intAt x.lv k else 0) + feedFwd s m pos k
  let old := (dieOf s die).offsets
  let offs := (List.range 15).map fun k => if readsLevel s m t slc k then sat8 (sum k) else intAt old k
  let cl := if use then ((List.range 15).filter fun k => readsLevel s m t slc k && clamps8 (sum k)).length else 0
  let s := match cell with
    | some c => if 0 < cl then ((setCell s c { x with sat := true }).set TRK_STATUS_SAT 1).bump TRK_CNTn_COUNT 7 cl else s
    | none => s
  (⟨cell, x.stepCnt, s.get TRK_FRAME_FRAME, t, offs, offs⟩, s)

/-! Samples. -/

/-- Frames from one to another, over the wrap of TRK_FRAME. -/
def framesSince (s : State) (frame : Nat) : Nat := (s.get TRK_FRAME_FRAME + 2 ^ 32 - frame) % 2 ^ 32

/-- One sample of a codeword decoded at L0 (R99, R117). -/
def sample (s : State) (die : Nat) (cap : Cap) (slc susp member : Bool) (errs : Nat) (imb : Int) : State :=
  if !s.on TRK_CTRL_ENABLE then s
  else
    match cap.cell with
    | none => s.bump TRK_CNTn_COUNT 3
    | some c =>
      let x := cellOf s c
      if !x.valid ∨ slc ≠ decide (x.mode = 0) ∨ dieState s die = 4 then s.bump TRK_CNTn_COUNT 3
      else if cap.tag ≠ x.stepCnt ∨ 256 ≤ framesSince s cap.frame then s.bump TRK_CNTn_COUNT 1
      else if susp ∧ !s.on TRK_COEFb_s_W2_ACCEPT_SUSP (s.get TRK_BANK_ACTIVE) x.set then s.bump TRK_CNTn_COUNT 2
      else if member ∧ !s.on TRK_COEFb_s_W2_ACCEPT_MEMBER (s.get TRK_BANK_ACTIVE) x.set then s.bump TRK_CNTn_COUNT 2
      else
        let a := x.acc.getD cap.pageType acc0
        if a.n = 255 then s.bump TRK_CNTn_COUNT 9
        else
          let a2 : TAcc := ⟨a.n + 1, a.si + clampInt (-32767) 32767 imb, a.sc + min errs 4095⟩
          (setCell s c { x with acc := x.acc.set cap.pageType a2 }).bump TRK_CNTn_COUNT 0

/-- The 32 cells of a die made invalid, accumulators cleared (R124, DIE_DISABLE). -/
def dieCellsOff (s : State) (die : Nat) : State :=
  (List.range 32).foldl (fun s k =>
    let c := die * 32 + k
    if (tget s.trk.cells c).isNone then s
    else setCell s c { cellOf s c with valid := false, late := false, acc := List.replicate 4 acc0 }) s

/-! Evaluation. -/

/-- Target of page type `t` of a set in a bank. -/
def target (s : State) (bank set t : Nat) : Int :=
  signed 16 (match t with
    | 0 => s.get TRK_COEFb_s_W1_TARGET0 bank set
    | 1 => s.get TRK_COEFb_s_W1_TARGET1 bank set
    | 2 => s.get TRK_COEFb_s_W1_TARGET2 bank set
    | _ => s.get TRK_COEFb_s_W1_TARGET3 bank set)

/-- `x` moved toward `y` by at most `r` (R120). -/
def toward (x y : Int) (r : Nat) : Int := if x < y then min y (x + r) else max y (x - r)

/-- The temperature band of a den kept with its hysteresis (R126). -/
def newBand (s : State) (old temp8 : Nat) : Nat :=
  let edge (k : Nat) : Nat :=
    8 * (if k = 1 then s.get TRK_GAIN_CFG_TB1 else if k = 2 then s.get TRK_GAIN_CFG_TB2 else s.get TRK_GAIN_CFG_TB3)
  let up := if edge 3 ≤ temp8 then 3 else if edge 2 ≤ temp8 then 2 else if edge 1 ≤ temp8 then 1 else 0
  let h := 8 * s.get TRK_GAIN_CFG_HYST
  let down := if edge 3 ≤ temp8 + h then 3 else if edge 2 ≤ temp8 + h then 2 else if edge 1 ≤ temp8 + h then 1 else 0
  max up (min old down)

/-- The size of a step (R121, R126). -/
def stepSize (s : State) (bank cell set mean : Nat) : Nat :=
  let high := s.get TRK_COEFb_s_W0_C_HIGH bank set ≤ mean
  if s.on TRK_CTRL_MODE then
    let den := cell / 32 / 128
    let band := if s.on TRK_THn_CFG_ENABLE den then tgetD s.trk.bands den 0 else 0
    let r := band * 4 + cell / 8 % 4
    if high then s.get TRK_GAINr_STEP_HI r else s.get TRK_GAINr_STEP_LO r
  else if high then s.get TRK_COEFb_s_W0_STEP_HI bank set
  else s.get TRK_COEFb_s_W0_STEP_LO bank set

/-- The evaluation of one page type of a cell: the cell, whether it stepped, and how many levels were clamped (R120, R122). -/
def evalType (s : State) (c bank model : Nat) (first : Bool) (r : TCell × Bool × Nat) (t : Nat) : TCell × Bool × Nat :=
  let (x, stepped, clamped) := r
  let a := x.acc.getD t acc0
  let tgt := target s bank x.set t
  let moved := first && tgt ≠ target s (1 - bank) x.set t
  if a.n < s.get TRK_COEFb_s_W0_MIN_SAMPLES bank x.set then
    (if moved then { x with ramp := x.ramp.set t true } else x, stepped, clamped)
  else
    let e := a.si.tdiv a.n
    let x := if moved then { x with sp := x.sp.set t e, ramp := x.ramp.set t true }
      else if x.ramp.getD t false then { x with sp := x.sp.set t (toward (intAt x.sp t) tgt (s.get TRK_COEFb_s_W2_RAMP bank x.set)) }
      else x
    let x := if intAt x.sp t = tgt then { x with ramp := x.ramp.set t false } else x
    let err := e - intAt x.sp t
    let lim := if x.hyst.getD t false then s.get TRK_COEFb_s_W0_BAND_IN bank x.set else s.get TRK_COEFb_s_W0_BAND_OUT bank x.set
    let out := decide (lim < err.natAbs)
    let x := { x with hyst := x.hyst.set t out, acc := x.acc.set t acc0, lastEval := s.get TRK_FRAME_FRAME }
    if out then
      let st : Int := stepSize s bank c x.set (a.sc / a.n)
      let step (y : List Int × Nat) (k : Nat) : List Int × Nat :=
        if readsLevel s model t (x.mode = 0) k then
          let inv := x.mode ≠ 0 && bits (s.get TRK_MODELm_PAGEt_INVERT model t) k 1 = 1
          let d := if xor (decide (0 < err)) inv then -st else st
          let v := intAt y.1 k + d
          (y.1.set k (sat8 v), y.2 + b2n (clamps8 v))
        else y
      let (lv, cl) := (List.range 15).foldl step (x.lv, 0)
      ({ x with lv := lv, sat := x.sat || decide (0 < cl) }, true, clamped + cl)
    else (x, stepped, clamped)

/-- A read cell evaluated in the active bank (R120, R122). -/
def evalCell (s : State) (c : Nat) : State :=
  let x := cellOf s c
  let k := s.get TRK_BANK_ACTIVE
  let model := dieModel s (c / 32)
  let (y, stepped, clamped) := (List.range (modeTypes x.mode)).foldl (evalType s c k model (x.bank ≠ k)) (x, false, 0)
  let y := if stepped then { y with stepCnt := (y.stepCnt + 1) % 256, stepTotal := min (y.stepTotal + 1) 65535 } else y
  let s := setCell s c { y with bank := k, late := false }
  let s := s.bump TRK_CNTn_COUNT 4
  let s := if stepped then s.bump TRK_CNTn_COUNT 5 else s
  if 0 < clamped then (s.set TRK_STATUS_SAT 1).bump TRK_CNTn_COUNT 7 clamped else s

/-- A read cell that misses its slot (R119). -/
def missCell (s : State) (c : Nat) : State :=
  let x := cellOf s c
  let s := setCell s c { x with miss := true, missCnt := min (x.missCnt + 1) 65535, late := true }
  (s.set TRK_STATUS_MISS 1).bump TRK_CNTn_COUNT 6

/-! Thermal cells. -/

/-- Thermal coefficient set of cell `n`: 0 for dens, 1 for ports (R127). -/
def thSet (n : Nat) : Nat := if n < 16 then 0 else 1

/-- FF[p] of the thermal table of a bank and set. -/
def thFF (s : State) (bank g p : Nat) : Nat :=
  match p with
  | 0 => s.get TRK_THCOEFb_g_W1_FF0 bank g
  | 1 => s.get TRK_THCOEFb_g_W1_FF1 bank g
  | 2 => s.get TRK_THCOEFb_g_W1_FF2 bank g
  | 3 => s.get TRK_THCOEFb_g_W1_FF3 bank g
  | 4 => s.get TRK_THCOEFb_g_W1_FF4 bank g
  | 5 => s.get TRK_THCOEFb_g_W1_FF5 bank g
  | 6 => s.get TRK_THCOEFb_g_W1_FF6 bank g
  | 7 => s.get TRK_THCOEFb_g_W1_FF7 bank g
  | 8 => s.get TRK_THCOEFb_g_W1_FF8 bank g
  | 9 => s.get TRK_THCOEFb_g_W1_FF9 bank g
  | 10 => s.get TRK_THCOEFb_g_W1_FF10 bank g
  | 11 => s.get TRK_THCOEFb_g_W1_FF11 bank g
  | 12 => s.get TRK_THCOEFb_g_W1_FF12 bank g
  | 13 => s.get TRK_THCOEFb_g_W1_FF13 bank g
  | 14 => s.get TRK_THCOEFb_g_W1_FF14 bank g
  | _ => s.get TRK_THCOEFb_g_W1_FF15 bank g

/-- U of R128: the highest loop level among enabled thermal cells with a lower POSITION, in state `s0`. -/
def thUp (s0 : State) (n : Nat) : Nat :=
  ((List.range 20).filter fun k => s0.on TRK_THn_CFG_ENABLE k
      && decide (s0.get TRK_THn_CFG_POSITION k < s0.get TRK_THn_CFG_POSITION n)).foldl
    (fun u k => max u (s0.get TRK_THn_STATE_LEVEL k)) 0

/-- The law of R120 and R121 for a thermal cell with mean `e`: setpoint, ramp, hysteresis, level (R127). -/
def thLaw (s : State) (n e : Nat) : State :=
  let k := s.get TRK_BANK_ACTIVE
  let g := thSet n
  let first := s.get TRK_THn_STATE_BANK n ≠ k
  let tgt := s.get TRK_THCOEFb_g_W0_TARGET k g
  let moved := first && tgt ≠ s.get TRK_THCOEFb_g_W0_TARGET (1 - k) g
  let s :=
    if moved then (s.set TRK_THn_STATE_SP e n).set TRK_THn_STATE_RAMP 1 n
    else if s.on TRK_THn_STATE_RAMP n then
      s.set TRK_THn_STATE_SP (toward (s.get TRK_THn_STATE_SP n) tgt (s.get TRK_THCOEFb_g_W0_RAMP k g)).toNat n
    else s
  let s := if s.get TRK_THn_STATE_SP n = tgt then s.set TRK_THn_STATE_RAMP 0 n else s
  let err : Int := (e : Int) - s.get TRK_THn_STATE_SP n
  let lim := if s.on TRK_THn_STATE_HYST n then s.get TRK_THCOEFb_g_W0_BAND_IN k g else s.get TRK_THCOEFb_g_W0_BAND_OUT k g
  let out := decide (lim < err.natAbs)
  let s := s.set TRK_THn_STATE_HYST (b2n out) n
  let lv := s.get TRK_THn_STATE_LEVEL n
  if !out then s
  else if 0 < err then
    if lv = 7 then (s.set TRK_THn_STATE_SAT 1 n).set TRK_STATUS_TH_SAT 1 else s.set TRK_THn_STATE_LEVEL (lv + 1) n
  else s.set TRK_THn_STATE_LEVEL (lv - 1) n

/-- A thermal cell evaluated: `s0` is the state at the frame's start (R127, R128). Without a reading since its last
evaluation it holds. -/
def evalThermal (s0 s : State) (n : Nat) : State :=
  let (sum, cnt) := tgetD s.trk.readings n (0, 0)
  let k := s.get TRK_BANK_ACTIVE
  let s :=
    if cnt = 0 then s
    else
      let e := sum / cnt
      let s := thLaw (s.set TRK_THn_STATE_TEMP e n) n e
      { s with trk := { s.trk with readings := tdel s.trk.readings n } }
  let s := s.set TRK_THn_STATE_BANK k n
  let ff := thFF s k (thSet n) (s.get TRK_THn_CFG_POSITION n)
  s.set TRK_THn_STATE_OUT (min 7 (s.get TRK_THn_STATE_LEVEL n + ff * thUp s0 n / 8)) n

/-- The temperature bands taken at a frame from the dens' estimates and the edges in force; a den whose thermal cell is disabled has band
0 (R126). -/
def updBands (s : State) : State :=
  let band (n : Nat) : Nat :=
    if s.on TRK_CTRL_TH_ENABLE ∧ s.on TRK_THn_CFG_ENABLE n then newBand s (tgetD s.trk.bands n 0) (s.get TRK_THn_STATE_TEMP n) else 0
  { s with trk := { s.trk with bands := (List.range 16).foldl (fun t n => tput t n (band n)) s.trk.bands } }

/-! Throttle levels (R84, R378). -/

/-- OUT of an element's thermal cell; a disabled cell counts as 0. -/
def thOut (s : State) (n : Nat) : Nat :=
  if s.on TRK_CTRL_TH_ENABLE ∧ s.on TRK_THn_CFG_ENABLE n then s.get TRK_THn_STATE_OUT n else 0

/-- The throttle level of element `n` (dens 0 to 15, ports 16 to 19); 0 in every den while a flush runs, and
P, H and C counting 0 while PWR is not enabled (R378, R395). -/
def throttleOf (s : State) (n : Nat) : Nat :=
  if s.fch.flushing ∧ n < 16 then 0
  else if !s.on PWR_CTRL_ENABLE then thOut s n
  else max (max (thOut s n) (s.get PWR_STATE_P)) (max (s.get PWR_STATE_H) (s.get PWR_STATE_C))

/-- THROTTLE of every den brought up to date. -/
def updThrottle (s : State) : State := (List.range 16).foldl (fun s d => s.set FCH_DEN_TOKENS_THROTTLE (throttleOf s d) d) s

/-! Frames and banks. -/

/-- Whether every enabled cell has its evaluation in the active bank (R123). -/
def bankDone (s : State) : Bool :=
  let k := s.get TRK_BANK_ACTIVE
  (!s.on TRK_CTRL_ENABLE || s.trk.cells.all fun x => !x.2.valid || x.2.bank = k)
    && (!s.on TRK_CTRL_TH_ENABLE || (List.range 20).all fun n => !s.on TRK_THn_CFG_ENABLE n || s.get TRK_THn_STATE_BANK n = k)

/-- PENDING cleared with SWAP_DONE when the last cell is done (R123). -/
def pendingCheck (s : State) : State :=
  if s.on TRK_BANK_PENDING ∧ bankDone s then (s.set TRK_BANK_PENDING 0).set TRK_STATUS_SWAP_DONE 1 else s

/-- A requested swap taken at a frame boundary (R123). -/
def takeSwap (s : State) : State :=
  if s.on TRK_BANK_SWAP then
    ((s.set TRK_BANK_ACTIVE (1 - s.get TRK_BANK_ACTIVE)).set TRK_BANK_SWAP 0).set TRK_BANK_PENDING 1
  else s

/-- Whether a read cell is due in the present frame (R118, R119). -/
def cellDue (s : State) (c : Nat) (x : TCell) : Bool :=
  x.valid && (x.late || (s.get TRK_FRAME_FRAME + c) % s.get TRK_COEFb_s_W2_PERIOD (s.get TRK_BANK_ACTIVE) x.set = 0)

/-- Whether a thermal cell is due. -/
def thermalDue (s : State) (n : Nat) : Bool :=
  s.on TRK_CTRL_TH_ENABLE && s.on TRK_THn_CFG_ENABLE n
    && decide ((s.get TRK_FRAME_FRAME + 65536 + n) % s.get TRK_THCOEFb_g_W0_PERIOD (s.get TRK_BANK_ACTIVE) (thSet n) = 0)

/-- Evaluations that a frame has room for (R118). -/
def frameEvals : Nat := 40000

/-- The present frame run: thermal cells, then read cells from the one after the last evaluated; what finds no room
misses its slot (R118, R119). -/
def runFrame (s : State) : State :=
  let th := (List.range 20).filter (thermalDue s)
  let due := if s.on TRK_CTRL_ENABLE then (s.trk.cells.filter fun x => cellDue s x.1 x.2).map Prod.fst else []
  let order := (due.filter fun c => s.trk.last < c) ++ due.filter fun c => c ≤ s.trk.last
  let room := frameEvals - th.length
  let s1 := updBands (th.foldl (evalThermal s) s)
  let now := order.take room
  let missed := order.drop room
  let s2 := now.foldl evalCell s1
  let s3 := missed.foldl missCell s2
  let s4 := { s3 with trk := { s3.trk with last := now.getLastD s3.trk.last } }
  let s5 := (s4.set TRK_LOAD_EVALS (th.length + now.length)).set TRK_LOAD_MISSED missed.length
  updThrottle (pendingCheck s5)

end Sys2Proof.Machine
end

