-- ==== Sys2Proof/Machine/RdOps.lean ====
section
/-! DEFINITION. The read path: sectors of a command, device headers, reconstructions and their members, the read-around
decision, and where the data of a read goes (R94, R96, R98, R102 to R108, R135, R168, R176). -/

namespace Sys2Proof.Machine

/-! The sectors of a command (R22). -/

/-- Namespace index, first logical block and number of blocks of an I/O command. -/
def cmdNs (x : Ctx) : Nat := x.sqe.nsid - 1
def cmdSlba (x : Ctx) : Nat := x.sqe.cdw10 + x.sqe.cdw11 * 2 ^ 32
def cmdNlb (x : Ctx) : Nat := bits x.sqe.cdw12 0 16 + 1

/-- LBA data size of a namespace in bytes. -/
def lbaSize (s : State) (ns : Nat) : Nat := if nsLba4k s ns then 4096 else 512

/-- First sector of a command within its namespace, and how many sectors it touches. -/
def cmdFirst (s : State) (x : Ctx) : Nat := lbaSector s (cmdNs x) (cmdSlba x)
def cmdSectors (s : State) (x : Ctx) : Nat := lbaSector s (cmdNs x) (cmdSlba x + cmdNlb x - 1) - cmdFirst s x + 1

/-- Global run and sector-in-run of a sector of a namespace. -/
def secRun (s : State) (ns sec : Nat) : Nat := nsBase s ns + sec / 512
def secQ (sec : Nat) : Nat := sec % 512

/-- Sector of a namespace from a run and a sector-in-run. -/
def runSec (s : State) (ns run q : Nat) : Nat := (run - nsBase s ns) * 512 + q

/-- The sector from which a command's sectors are numbered: its first, or sector 0 of the namespace for a command that names
its blocks in ranges. -/
def secBase (s : State) (x : Ctx) : Nat := if [0x09, 0x19, 0x85].contains x.sqe.opcode then 0 else cmdFirst s x

/-- Namespace, run and sector-in-run of the data that a read serves. -/
def srcSector (s : State) (src : Src) : Option (Nat × Nat × Nat) :=
  match src with
  | .host c k | .merge c k => (ctxOf s c).map fun x => (cmdNs x, secRun s (cmdNs x) (secBase s x + k), secQ (secBase s x + k))
  | .fill f k _ => (tget s.bur.fills f).bind fun y => (nsOfRun s y.run).map fun n => (n, y.run, y.seg * 16 + k)
  | .copyRead n k => (tget s.cdc.copies n).bind fun y => (y.entries[k]?).map fun e => (e.ns, e.run, e.q)
  | _ => none

/-! Device headers (Tables 4.2 and 4.3). -/

/-- Whether an LBA format has a device header. -/
def fmtHdr (fmt : Nat) : Bool := fmt ≠ 2

/-- A device header: word 0 and the row's sequence. -/
def devHdr (run q ns kg kind rowSeq : Nat) : List Byte :=
  natLe (bits run 0 29 + q * 2 ^ 29 + ns * 2 ^ 38 + kg * 2 ^ 50 + kind * 2 ^ 51) 8 ++ natLe rowSeq 8

/-- Result of the header check (R96): 0 pass, 1 mismatch, 2 lost. -/
def hdrCheck (fmt ns run q : Nat) (d : List Byte) : Nat :=
  if !fmtHdr fmt then 0
  else
    let w := leAt d 4096 8
    if bits w 51 2 = 2 then 2
    else if bits w 0 29 = run ∧ bits w 29 9 = q ∧ bits w 38 12 = ns ∧ bits w 51 2 = 0 then 0
    else 1

/-- The header check of a read, where its source has one. -/
def opHdr (s : State) (src : Src) (d : List Byte) : Nat :=
  match srcSector s src with
  | some (ns, run, q) => hdrCheck (nsFmt s ns) ns run q d
  | none => 0

/-- A number most significant byte first. -/
def natBe (v n : Nat) : List Byte := (natLe v n).reverse

/-- The metadata area of a sector that resolves to zeros (R243): a right guard, all ones in the tags. -/
def zeroMeta (fmt : Nat) : List Byte :=
  let ff (n : Nat) : List Byte := List.replicate n 0xFF
  if fmt = 4 then fit (List.replicate 16 0 ++ natBe (guard16 (List.replicate 4096 0)) 2 ++ ff 6) 64
  else if fmt = 5 then fit (List.replicate 16 0 ++ natBe (guard64 (List.replicate 4096 0)) 8 ++ ff 8) 64
  else if fmt = 1 then List.replicate 16 0 ++ ff 48
  else if fmt = 2 then ff 64
  else List.replicate 64 0

/-- A sector of zeros with its metadata area. -/
def zeroSector (fmt : Nat) : List Byte := List.replicate 4096 0 ++ zeroMeta fmt

/-! Where the data of a read goes. -/

/-- How a read ends. -/
inductive RdRes where
  /-- Every sector passed; the highest decode level used, 200 for a reconstruction. -/
  | pass (level : Nat)
  | uncorr
  | fenced
  | stale
  | timeout
  | abandoned
  | dropped
  deriving DecidableEq, Repr

/-- A sector decrypted for its reader: none where the position holds no key (R262, R268). -/
def openSector (s : State) (ns run q kg : Nat) (d : List Byte) : Option (List Byte) × State :=
  let (p, s) := xtsOpen s (nsSlot s ns) kg (nsLba4k s ns) (runSec s ns run q) (d.take 4096)
  (p.map fun x => x ++ d.drop 4096, s)

/-- Data of a sector of a command kept for the host. -/
def ctxGot (s : State) (c k : Nat) (d : List Byte) : State := updCtx s c fun x => { x with got := tput x.got k d }

/-- A fill that takes its data from a host read gets a sector of it, or ends with the read's error (R176). -/
def hostFill (s : State) (c run q : Nat) (d : Option (List Byte)) : State :=
  match s.bur.fills.find? fun x => x.2.ctx = some c && x.2.run = run && x.2.seg = q / 16 with
  | none => s
  | some (f, _) => match d with | some b => fillGot s f (q % 16) (b.take 4096) | none => cancelFill s f

/-- A row of a block noted as one with a codeword that ended uncorrectable, or that needed its stripe after L2 (R150). -/
def noteBadRow (s : State) (m : Nat) : State :=
  let e := (mediaDie m * 16384 + mediaBlock m, mediaPage m)
  if s.media.badRows.contains e then s else { s with media := { s.media with badRows := s.media.badRows ++ [e] } }

/-- An uncorrectable sector noted for device firmware (R150). -/
def noteLost (s : State) (run q : Nat) (o : MOp) : State :=
  let s := noteBadRow s o.media
  { s with media := { s.media with lost := s.media.lost ++ [⟨run, q, o.media, o.home.map fun h => (h.1, h.2.1)⟩] } }

/-- A host read's sector that failed. -/
def hostFail (s : State) (c st : Nat) (o : MOp) : State :=
  let s := match srcSector s o.src with
    | some (_, run, q) => hostFill (if st = stUnrecovered then noteLost s run q o else s) c run q none
    | none => s
  opEnd (ctxErr s c st) c

/-- A host read's sector ended (R12, R97, R268). A dropped one leaves its command unfinished (R90). -/
def endHost (s : State) (c k : Nat) (o : MOp) (r : RdRes) : State :=
  match r with
  | .dropped => s
  | .pass _ =>
    match srcSector s o.src with
    | none => opEnd s c
    | some (ns, run, q) =>
      match openSector s ns run q o.kg (o.data.headD []) with
      | (some d, s) => opEnd (hostFill (ctxGot s c k d) c run q (some d)) c
      | (none, s) => hostFail s c stInternal o
  | _ => hostFail s c stUnrecovered o

/-- A merge read ended (R168). -/
def endMerge (s : State) (c k : Nat) (o : MOp) (r : RdRes) : State :=
  let fail (s : State) (st : Nat) : State := opEnd (ctxErr (s.bump HBM_CNTn_COUNT 5) c st) c
  match r with
  | .dropped => s
  | .pass _ =>
    match srcSector s o.src with
    | none => opEnd s c
    | some (ns, run, q) =>
      match openSector s ns run q o.kg (o.data.headD []) with
      | (some d, s) => opEnd (updCtx s c fun x => { x with merges := tput x.merges k (some d) }) c
      | (none, s) => fail s stInternal
  | _ => fail s stUnrecovered

/-- A fill's read ended (R176): an unrecovered sector cancels the fill. -/
def endFill (s : State) (f k gen : Nat) (o : MOp) (r : RdRes) : State :=
  match tget s.bur.fills f with
  | none => s
  | some y =>
    if y.gen ≠ gen then s
    else
      match r with
      | .pass _ =>
        match srcSector s o.src with
        | none => cancelFill s f
        | some (ns, run, q) =>
          match openSector s ns run q o.kg (o.data.headD []) with
          | (some d, s) => fillGot s f k (d.take 4096)
          | (none, s) => cancelFill s f
      | .dropped => s
      | _ => cancelFill s f

/-- What an entry of a running copy slot has become, with its STATUS, which the slot writes to the list (R135, Table 6.1). -/
def copyGot (s : State) (n k : Nat) (d : CopyData) (status : Nat) : State :=
  match tget s.cdc.copies n with
  | none => s
  | some y =>
    let ents := y.entries.mapIdx fun i e => if i = k then { e with status := status } else e
    let s := { s with cdc := { s.cdc with copies := tput s.cdc.copies n { y with entries := ents, got := tput y.got k d } } }
    let s := writeLe s (y.list + 16 * k + 14) 1 status
    let s := s.set CDC_CPn_PROG_READ (s.get CDC_CPn_PROG_READ n + 1) n
    if status = 3 then s.set CDC_CPn_PROG_LOST (s.get CDC_CPn_PROG_LOST n + 1) n
    else if status = 4 then s.set CDC_CPn_PROG_MISMATCH (s.get CDC_CPn_PROG_MISMATCH n + 1) n
    else s

/-- A copy slot's source read ended (R135). A header mismatch that a reconstruction confirms is a mismatch. -/
def endCopy (s : State) (n k : Nat) (o : MOp) (r : RdRes) : State :=
  match r with
  | .dropped => s
  | .pass lv =>
    match opHdr s o.src (o.data.headD []) with
    | 0 => copyGot s n k (.cipher o.kg (o.data.headD [])) (if lv = 0 then 1 else 2)
    | 2 => copyGot s n k .lost 3
    | _ => copyGot s n k .pad 4
  | _ => copyGot s n k .lost 3

/-- STATUS of a descriptor by how its read ended (Table 3.7). -/
def descStatus (r : RdRes) : Nat :=
  match r with
  | .pass lv => if lv = 101 then 2 else 1
  | .uncorr => 3
  | .fenced => 6
  | .stale => 7
  | .timeout => 8
  | .abandoned => 9
  | .dropped => 0x0B


/-- The sectors of a descriptor read stored to its buffers (Table 3.7). -/
def descStore (s : State) (den i : Nat) (data : List (List Byte)) : State :=
  let a := descAddr s den i
  let buf := readLeD s (a + 16) 8
  let meta_ := readLeD s (a + 24) 4
  (data.zip (List.range data.length)).foldl (fun s x =>
    if x.1 = [] then s
    else
      let s := storeBytes s (buf + 4096 * x.2) (x.1.take 4096)
      if meta_ = 0 then s else storeBytes s (sramBase + meta_ % 2 ^ 27 + 64 * x.2) (x.1.drop 4096)) s

/-- A descriptor read ended. -/
def endDesc (s : State) (den i : Nat) (o : MOp) (r : RdRes) : State :=
  match r with
  | .pass _ | .uncorr => descEnd (descStore s den i o.data) den i (descStatus r)
  | _ => descEnd s den i (descStatus r)

/-- A read that is no member read ended: its data or its end goes to its source. -/
def endRead (s : State) (o : MOp) (r : RdRes) : State :=
  match o.src with
  | .host c k => endHost s c k o r
  | .merge c k => endMerge s c k o r
  | .fill f k gen => endFill s f k gen o r
  | .copyRead n k => endCopy s n k o r
  | .desc den i => endDesc s den i o r
  | _ => s

/-- A read that ends uncorrectable (R97). -/
def endUncorr (s : State) (o : MOp) : State := endRead ((s.set CDC_STATUS_UNCORR 1).bump CDC_CNTn_COUNT 6) o .uncorr

/-! Reconstructions. -/

/-- The operations of some sources taken off every queue; those that a die runs lose their source, so that their data is
discarded (R98). -/
def dropSrc (s : State) (p : Src → Bool) : State :=
  let mute (o : MOp) : MOp := if p o.src then { o with src := .fch } else o
  let fix (r : Running) : Running := { r with op := mute r.op, merged := r.merged.map mute }
  { s with fch := { s.fch with dies := s.fch.dies.map fun x => (x.1, { x.2 with
      queue := x.2.queue.filter fun o => !p o.src
      run := x.2.run.map fix
      reads := x.2.reads.map fix }) } }

/-- LEVEL set, within −DEPTH and DEPTH (R104). -/
def setLevel (s : State) (v : Int) : State :=
  let d : Int := s.get CDC_RA_BUDGET_DEPTH * 1024
  let v := clampInt (-d) d v
  ({ s with cdc := { s.cdc with level := v } }).set CDC_RA_LEVEL_LEVEL (unsigned 32 (v.fdiv 1024))

/-- The budget holds the cost of one sector: 32 codewords. -/
def budgetHolds (s : State) : Bool := decide ((32 * 1024 : Int) ≤ s.cdc.level)

/-- The draw of `n` codeword reads; one that reaches −DEPTH sets BUDGET_DEBT (R104). -/
def drawBudget (s : State) (n : Nat) : State :=
  let v := s.cdc.level - n * 1024
  let s := setLevel s v
  if v ≤ -(s.get CDC_RA_BUDGET_DEPTH * 1024 : Int) then s.set CDC_STATUS_BUDGET_DEBT 1 else s

/-- A reconstruction refused for budget. -/
def budgetRefused (s : State) : State := (s.set CDC_STATUS_BUDGET_EMPTY 1).bump CDC_CNTn_COUNT 8

/-- The active members of a stripe other than one position, by least predicted wait (R102, R105). -/
def activeMembers (s : State) (stripe pos : Nat) (slc : Bool) : List Nat :=
  let ps := (List.range 34).filter fun p => p ≠ pos && dieState s (memberDie (memberWord s stripe p)) = 1
  let wait (p : Nat) : Nat := predWaitMode s (memberDie (memberWord s stripe p)) slc
  ps.foldl (fun l p => l.takeWhile (fun x => wait x ≤ wait p) ++ p :: l.dropWhile (fun x => wait x ≤ wait p)) []

/-- A reconstruction put on the table. A busy or early one has drawn its cost; the others draw with their member reads (R104). -/
def addRecon (s : State) (kind : RecKind) (o : MOp) (h : Nat × Nat × Nat) (members : List Nat) : State :=
  { s with cdc := { s.cdc with
    recons := tput s.cdc.recons s.cdc.nextRecon ⟨kind, o, h.1, h.2.1, h.2.2, members, [], false, kind = .busy || kind = .early⟩
    nextRecon := s.cdc.nextRecon + 1 } }

/-- The reconstruction table without an entry, and an entry replaced. -/
def delRecon (s : State) (id : Nat) : State := { s with cdc := { s.cdc with recons := tdel s.cdc.recons id } }
def setRecon (s : State) (id : Nat) (r : Recon) : State := { s with cdc := { s.cdc with recons := tput s.cdc.recons id r } }

/-- A degraded or L3 reconstruction begun; without a stripe row it ends at once (R105). -/
def startRecon (s : State) (kind : RecKind) (o : MOp) : State :=
  match o.home with
  | none =>
    endUncorr ((if kind = .degraded then s.set CDC_STATUS_RECON_FAIL 1 else s).bump CDC_CNTn_COUNT 7) o
  | some h => addRecon s kind { o with data := [[]] } h []

/-- A read whose stripe cannot serve it ended (R105): uncorrectable, with RECON_FAIL where its die is not active. -/
def stripeFail (s : State) (o : MOp) : State :=
  endUncorr (if dieState s (mediaDie o.media) = 1 then s else s.set CDC_STATUS_RECON_FAIL 1) o

/-- A reconstruction failed for want of members, by its kind (R105). A busy one's read goes back to its die, or, where that die is
active no longer, to a degraded reconstruction. An early one's read waits for L1 and L2 (R98). -/
def reconFail (s : State) (id : Nat) (r : Recon) : State :=
  let s := dropSrc (delRecon s id) fun x => match x with | .member i _ => i = id | _ => false
  let s := s.bump CDC_CNTn_COUNT 7
  let die := mediaDie r.target.media
  match r.kind with
  | .busy => if dieState s die = 1 then qPush s die { r.target with data := [[]] } else startRecon s .degraded r.target
  | .early => setRecon s id { r with kind := .spent, members := [], got := [] }
  | .l3 => stripeFail s r.target
  | .degraded => endUncorr (s.set CDC_STATUS_RECON_FAIL 1) r.target
  | .spent => s

/-- The early reconstruction of a read, if it has one, or has had one that failed (R98). -/
def earlyOf (s : State) (src : Src) : Option (Nat × Recon) :=
  s.cdc.recons.find? fun x => (x.2.kind = .early || x.2.kind = .spent) && x.2.target.src = src

/-- A read that needs its stripe: an early reconstruction is waited for, one that has failed ends the read, else one begins (R97, R98,
R102). The member reads that an early one has already queued stay of class 2 and not urgent (R98, R106; DESIGN CHOICE, log entry
103). -/
def escalate (s : State) (kind : RecKind) (o : MOp) : State :=
  match earlyOf s o.src with
  | some (id, r) => if r.kind = .spent then stripeFail (delRecon s id) o else setRecon s id { r with kind := kind }
  | none => startRecon s kind o

/-- An early reconstruction that lost, withdrawn (R98). -/
def dropEarly (s : State) (src : Src) : State :=
  match earlyOf s src with
  | none => s
  | some (id, _) => dropSrc (delRecon s id) fun x => match x with | .member i _ => i = id | _ => false

/-- A member read of reconstruction `id`: class 2, urgent for degraded and L3 ones (R98, R106). -/
def memberOp (s : State) (id : Nat) (r : Recon) (p : Nat) : MOp :=
  let t := r.target
  let urgent := r.kind = .degraded || r.kind = .l3
  let o := readOp (.member id p) 2 t.slc (memberMedia s r.stripe r.row p (mediaPlane t.media) (mediaSector t.media)) urgent
  { o with eff := if urgent then 1 else 2 }


/-- The payload of a reconstruction's position from its 32 members (R100). -/
def reconPayload (r : Recon) : List Byte :=
  recoverPos (fun p => p = 2 * r.row % 34) (fun p => p = (2 * r.row + 1) % 34) (dataOf r.row) r.pos
    (r.got.map fun x => (x.1, x.2.headD []))

/-- A reconstruction with all its members: the payload is checked and delivered; a mismatch ends the read
uncorrectable (R98, R105). -/
def reconDone (s : State) (id : Nat) (r : Recon) : State :=
  let s := delRecon s id
  let d := reconPayload r
  let s := if r.kind = .early then dropSrc s fun x => x = r.target.src else s
  let s := match r.kind with
    | .busy => s.bump CDC_CNTn_COUNT 3
    | .degraded => s.bump CDC_CNTn_COUNT 4
    | .l3 => s.bump CDC_CNTn_COUNT 5
    | .early => (s.bump CDC_CNTn_COUNT 5).bump CDC_CNTn_COUNT 10
    | .spent => s
  let o := { r.target with data := [d] }
  match o.src with
  | .copyRead _ _ => endRead s o (.pass 200)
  | _ =>
    match opHdr s o.src d with
    | 0 => endRead s o (.pass 200)
    | 1 => endUncorr ((s.set CDC_STATUS_MISDIRECT 1).bump CDC_CNTn_COUNT 9) o
    | _ => endUncorr s o

/-- A member's payload arrived. -/
def memberGot (s : State) (id pos : Nat) (d : List Byte) : State :=
  match tget s.cdc.recons id with
  | none => s
  | some r =>
    let r2 := { r with got := tput r.got pos [d] }
    if 32 ≤ r2.got.length then reconDone s id r2 else setRecon s id r2

/-- The active member that a reconstruction has not used: none once it has been substituted (R105). -/
def spareMember (s : State) (r : Recon) : Option Nat :=
  if r.substituted then none
  else (activeMembers s r.stripe r.pos r.target.slc).find? fun p => !r.members.contains p

/-- A member read failed: the unused 33rd member takes its place where it is active, and its read draws 1 (R104, R105). A member whose
media address is invalid is not read, and fails its reconstruction (R11). -/
def memberFail (s : State) (id pos : Nat) : State :=
  match tget s.cdc.recons id with
  | none => s
  | some r =>
    match spareMember s r with
    | some p =>
      let r2 := { r with members := r.members.filter (· ≠ pos) ++ [p], substituted := true }
      let s := drawBudget (setRecon s id r2) 1
      let o := memberOp s id r2 p
      if mediaValid s o.media then qPush s (memberDie (memberWord s r.stripe p)) o else reconFail (badMediaEvent s o.media) id r2
    | none => reconFail s id r

/-- The member reads of some positions queued; one with an invalid media address fails as a member read does (R11). -/
def queueMembers (s : State) (id : Nat) (r : Recon) (ps : List Nat) : State :=
  ps.foldl (fun s p =>
    let o := memberOp s id r p
    if mediaValid s o.media then qPush s (memberDie (memberWord s r.stripe p)) o else memberFail (badMediaEvent s o.media) id p) s

/-! The read-around decision (R102). -/

/-- Whether a die's operation has overrun OVERRUN_PCT of its nominal time. -/
def overrun (s : State) (die : Nat) : Bool :=
  match (dieOf s die).run with
  | some r => decide (s.get CDC_RA_CFG2_OVERRUN_PCT * nominal s die r.op < runTime s r * 100)
  | none => false

/-- The decision for a class 1 read of an active die, behind the operations `q` of its queue: its stripe row and the 32 members of a
busy reconstruction, or none for the die. -/
def raDecide (s : State) (die : Nat) (o : MOp) (q : List MOp) : Option ((Nat × Nat × Nat) × List Nat) × State :=
  if !s.on CDC_RA_CFG_ENABLE ∨ !s.on CDC_CTRL_ENABLE then (none, s)
  else
    let w := if overrun s die then 65535 else predWaitBehind s die o.slc q
    if w ≤ s.get CDC_RA_CFG_THRESHOLD then (none, s)
    else
      match o.home with
      | none => (none, s)
      | some (st, row, pos) =>
        let c := (activeMembers s st pos o.slc).take 32
        let worst := (c.map fun p => predWaitMode s (memberDie (memberWord s st p)) o.slc).foldl max 0
        if c.length < 32 ∨ w ≤ worst + s.get CDC_RA_CFG_MARGIN then (none, s)
        else if !budgetHolds s then (none, budgetRefused s)
        else (some ((st, row, pos), c), s)

/-- The decision taken again for a read that is still queued: the read's own sense is counted once (R85, R102, log entry 103). -/
def decideAgain (s : State) (die : Nat) (o : MOp) : State :=
  let q := (dieOf s die).queue
  if !q.contains o then s
  else
    match raDecide s die o (q.takeWhile fun x => x ≠ o) with
    | (some (h, c), s) => addRecon (drawBudget (qTake s die o) 32) .busy o h c
    | (none, s) => s

/-- A read of a sector put on its die, or reconstructed where the die is not active, or by the read-around decision (R78, R102). -/
def queueRead (s : State) (o : MOp) : State :=
  let die := mediaDie o.media
  if dieState s die ≠ 1 then escalate s .degraded o
  else
    let o := { o with queuedUs := s.timeUs }
    if o.cls = 1 ∧ !flushDrops s 1 then
      match raDecide s die o (dieOf s die).queue with
      | (some (h, c), s) => addRecon (drawBudget s 32) .busy o h c
      | (none, s) => qPush s die o
    else qPush s die o

end Sys2Proof.Machine
end

