-- ==== Sys2Proof/Machine/CmdOps.lean ====
section
/-! DEFINITION. Controllers and queues: features, the queue pool, doorbells, fetch and arbitration, the checks and records
of a fetched command, the firmware ring, and the posting of completion entries (R213 to R235, R249, R277). -/

namespace Sys2Proof.Machine

/-! Features (R249). -/

/-- The function number that stands for the subsystem. -/
def subsys : Nat := 256

def featKey (f fid sub : Nat) : Nat := f * 2 ^ 32 + fid * 65536 + sub

/-- The default of a feature value (R385 for 04h, Table 7.2 for 06h, RAB of Table 10.1 for 01h). The sub-index of 04h is
the sensor, plus 16 for the under-temperature threshold. -/
def featDefault (fid sub : Nat) : Nat :=
  if fid = 0x01 then 3
  else if fid = 0x04 then (if sub = 0 then 368 else if sub < 16 then 378 else 0)
  else if fid = 0x06 then 1
  else 0

/-- The current value of a feature. -/
def feat (s : State) (f fid sub : Nat) : Nat := tgetD s.nvm.feats (featKey f fid sub) (featDefault fid sub)

def setFeat (s : State) (f fid sub v : Nat) : State :=
  { s with nvm := { s.nvm with feats := tput s.nvm.feats (featKey f fid sub) v } }

/-- The features of one function at their defaults; those of the subsystem stay. -/
def dropFeats (s : State) (f : Nat) : State :=
  { s with nvm := { s.nvm with feats := s.nvm.feats.filter fun x => x.1 / 2 ^ 32 ≠ f } }

/-! Power states (R381, R383). -/

/-- Whether a controller counts for the effective power state. -/
def psCounts (s : State) (f : Nat) : Bool := fnPresent s f && s.on NVME_CC_EN f && s.get NVME_CSTS_SHST f = 0

/-- The effective state: the lowest-numbered one held by any controller that counts, PS0 when none does. -/
def effState (s : State) : Nat :=
  match ((List.range 256).filter (psCounts s)).map fun f => feat s f 2 0 % 32 with
  | [] => 0
  | a :: r => r.foldl min a

/-- PWR_STATE.PS brought up to date. -/
def updPs (s : State) : State := s.set PWR_STATE_PS (effState s)

/-- PS4 left by a controller for its last operational state (R383). -/
def leavePs4 (s : State) (f : Nat) : State :=
  if feat s f 2 0 % 32 = 4 then updPs (setFeat s f 2 0 (tgetD s.nvm.lastOp f 0)) else s

/-! Queues. -/

def sqOf (s : State) (f q : Nat) : Option Sq := tget s.cmd.sqs (qkey f q)
def cqOf (s : State) (f q : Nat) : Option Cq := tget s.cmd.cqs (qkey f q)
def setSq (s : State) (f q : Nat) (x : Sq) : State := { s with cmd := { s.cmd with sqs := tput s.cmd.sqs (qkey f q) x } }
def setCq (s : State) (f q : Nat) (x : Cq) : State := { s with cmd := { s.cmd with cqs := tput s.cmd.cqs (qkey f q) x } }

def updSq (s : State) (f q : Nat) (g : Sq → Sq) : State :=
  match sqOf s f q with
  | some x => setSq s f q (g x)
  | none => s

/-- Queue pairs of a controller: those allocated, or min(QMIN, B) (R215). -/
def pairsOf (s : State) (f : Nat) : Nat :=
  if s.get CMD_FNf_STATE_QALLOC f = 0 then min (s.get CMD_FNf_CFG0_QMIN f) (barPairs s f) else s.get CMD_FNf_STATE_QALLOC f

/-- An allocation given back (R215). -/
def returnPairs (s : State) (f : Nat) : State :=
  (s.set CMD_QPOOL_FREE_COUNT (s.get CMD_QPOOL_FREE_COUNT + s.get CMD_FNf_STATE_QALLOC f)).set CMD_FNf_STATE_QALLOC 0 f

/-- Requests of a function's fetches that have no tag yet forgotten, with the contexts taken for them. -/
def dropFetchWaits (s : State) (f : Nat) : State :=
  let mine (r : Req) : Bool := r.f = f && (match r.kind with | .sqe _ _ _ => true | _ => false)
  let cs := (s.hif.reqWait.filter mine).flatMap fun r => match r.kind with | .sqe _ _ l => l | _ => []
  cs.foldl opEnd { s with hif := { s.hif with reqWait := s.hif.reqWait.filter fun r => !mine r } }

/-- Every queue of a function deleted, with its coalescing and arbitration state (R210, R236). -/
def deleteQueues (s : State) (f : Nat) : State :=
  { s with cmd := { s.cmd with
    sqs := s.cmd.sqs.filter fun x => x.1 / 65536 ≠ f
    cqs := s.cmd.cqs.filter fun x => x.1 / 65536 ≠ f
    coal := s.cmd.coal.filter fun x => x.1 / 65536 ≠ f
    arb := tdel s.cmd.arb f
    deficit := tdel s.cmd.deficit f
    created := s.cmd.created.filter (· ≠ f) } }

/-- What every reset of a controller does: fetch stops, commands are dropped, queues deleted, the allocation returned,
features at their defaults and events forgotten (R210, R215, R236, R249). -/
def dropController (s : State) (f : Nat) : State :=
  let s := dropAll (dropFetchWaits (stopFetch s f) f) f
  let s := returnPairs (dropFeats (deleteQueues s f) f) f
  { s with nvm := { s.nvm with
    events := s.nvm.events.filter fun e => e.f ≠ f
    blocked := s.nvm.blocked.filter fun b => b.1 ≠ f
    lastOp := tdel s.nvm.lastOp f } }

/-! Doorbells (R217). -/

/-- Whether a memory request to offset `off` of BAR0 of a function is accepted (R195, R198, R210). -/
def memOk (s : State) (f off : Nat) : Bool :=
  fnPresent s f && s.on HIF_FNf_STATE_MSE f && !s.on HIF_FNf_STATE_D3HOT f && !s.on HIF_FNf_STATE_FLR_BUSY f
    && off < bar0Bytes s f

/-- An invalid doorbell write: BAD_DB, CMD_CNT6 and an Error event (R217). -/
def badDoorbell (s : State) (f info : Nat) : State :=
  aenAdd ((s.set CMD_STATUS_BAD_DB 1).bump CMD_CNTn_COUNT 6) f 0 info 1

/-- A submission-queue tail doorbell write (R217), which takes a controller out of PS4 (R383). -/
def sqTail (s : State) (f q v : Nat) : State :=
  if !memOk s f (0x1000 + 8 * q) then urPosted s f
  else
    match sqOf s f q with
    | none => badDoorbell s f 0
    | some x =>
      if x.size ≤ v then badDoorbell s f 1
      else
        let s := setSq s f q { x with tail := v }
        if q = 0 then s else leavePs4 s f

/-- A completion-queue head doorbell write (R217, R201). -/
def cqHead (s : State) (f q v : Nat) : State :=
  if !memOk s f (0x1004 + 8 * q) then urPosted s f
  else
    match cqOf s f q with
    | none => badDoorbell s f 0
    | some x =>
      if x.size ≤ v ∨ cqUsed x < (v + x.size - x.head) % max x.size 1 then badDoorbell s f 1
      else updInta (setCq s f q { x with head := v }) f

/-! Fetch (R218, R220). -/

/-- Entries of a queue that host software has submitted and no fetch has taken. -/
def sqWaitingEntries (x : Sq) : Nat := (x.tail + x.size - (x.head + x.inFetch) % max x.size 1) % max x.size 1

/-- Whether a queue may be fetched from: it has entries, and no Fence, deletion, lock wait or full ring holds it. -/
def sqReady (x : Sq) : Bool :=
  0 < sqWaitingEntries x && x.fence.isNone && x.deleting.isNone && !x.fwHold && !x.lockStop

/-- Whether CMD fetches for a function. -/
def fnFetches (s : State) (f : Nat) : Bool :=
  fnPresent s f && s.on NVME_CSTS_RDY f && !s.cmd.stopped.contains f && bme s f && !s.on HIF_FNf_STATE_FLR_BUSY f
    && !s.cmd.noCtx.contains f

/-- The queues of a function that may be fetched from, in order. -/
def readyQueues (s : State) (f : Nat) : List (Nat × Sq) :=
  (s.cmd.sqs.filter fun x => x.1 / 65536 = f && sqReady x.2).map fun x => (x.1 % 65536, x.2)

/-- Functions with entries that wait. -/
def readyFns (s : State) : List Nat := (List.range 256).filter fun f => fnFetches s f && readyQueues s f ≠ []

/-- The function that deficit round robin serves now: the last one while its deficit lasts, else the next with entries,
whose WEIGHT is added to its deficit; functions without entries lose theirs (R218). -/
def pickFn (s : State) : Option Nat × State :=
  match readyFns s with
  | [] => (none, s)
  | a :: r =>
    let l := a :: r
    let d := s.cmd.deficit.filter fun x => l.contains x.1
    if l.contains s.cmd.lastFn ∧ 0 < tgetD d s.cmd.lastFn 0 then (some s.cmd.lastFn, { s with cmd := { s.cmd with deficit := d } })
    else
      let f := (l.find? fun x => s.cmd.lastFn < x).getD a
      let n := tgetD d f 0 + max 1 (s.get CMD_FNf_CFG0_WEIGHT f)
      (some f, { s with cmd := { s.cmd with deficit := tput d f n, lastFn := f } })

/-- The burst of a turn: 2^AB entries, without limit at 111b. -/
def burst (s : State) (f : Nat) : Nat := if feat s f 1 0 % 8 = 7 then 65536 else 2 ^ (feat s f 1 0 % 8)

/-- The queue of a list that round robin serves: the last one while its turn lasts, else the next. -/
def rrQueue (s : State) (f : Nat) (a : Arb) (l : List (Nat × Sq)) : Option ((Nat × Sq) × Arb) :=
  match l with
  | [] => none
  | y :: _ =>
    match l.find? fun x => x.1 = a.lastQ && 0 < a.turnLeft with
    | some x => some (x, a)
    | none =>
      let z := (l.find? fun x => a.lastQ < x.1).getD y
      some (z, { a with lastQ := z.1, turnLeft := burst s f })

/-- The class that weighted round robin serves, with its credits: urgent first; else the highest class that has credits
and entries, all credits being renewed when no such class has any (R218). -/
def wrrClass (s : State) (f : Nat) (a : Arb) (l : List (Nat × Sq)) : Nat × Arb :=
  let has (p : Nat) : Bool := l.any fun x => x.2.prio = p
  let v := feat s f 1 0
  let full : Arb := { a with hi := bits v 24 8 + 1, mid := bits v 16 8 + 1, lo := bits v 8 8 + 1 }
  let pick (a : Arb) : Option Nat :=
    if has 1 ∧ 0 < a.hi then some 1 else if has 2 ∧ 0 < a.mid then some 2 else if has 3 ∧ 0 < a.lo then some 3 else none
  if has 0 then (0, a)
  else
    match pick a with
    | some p => (p, a)
    | none => ((pick full).getD 3, full)

/-- The queue of a function that is served now (R218): the admin queue first. -/
def pickQueue (s : State) (f : Nat) : Option ((Nat × Sq) × Arb) :=
  let l := readyQueues s f
  let a := tgetD s.cmd.arb f ⟨0, 0, 0, 0, 0⟩
  match l.find? fun x => x.1 = 0 with
  | some x => some (x, a)
  | none =>
    if s.get NVME_CC_AMS f = 1 then
      let (p, a) := wrrClass s f a l
      rrQueue s f a (l.filter fun x => x.2.prio = p)
    else rrQueue s f a l

/-- A turn of `n` entries of a queue taken off the turn and off the credits of its class. -/
def chargeArb (q : Nat) (x : Sq) (a : Arb) (n : Nat) : Arb :=
  if q = 0 then a
  else
    { a with
      turnLeft := a.turnLeft - n
      hi := if x.prio = 1 then a.hi - n else a.hi
      mid := if x.prio = 2 then a.mid - n else a.mid
      lo := if x.prio = 3 then a.lo - n else a.lo }

/-- An empty entry and a context for it. -/
def sqe0 : Sqe := ⟨0, 0, 0, 0, 0, 0, 0, 0, 0, 0, 0, 0, 0, 0, 0, 0⟩
def ctx0 (f q cq : Nat) : Ctx :=
  ⟨f, q, cq, 0, sqe0, .fetching, none, none, none, false, 1, [], [], 0, [], [], [], false, 0, 0, 0, false, [], 0, []⟩

/-- Up to `n` contexts taken for entries of a queue (R220). -/
def takeContexts (s : State) (f q cq n : Nat) : List Nat × State :=
  match n with
  | 0 => ([], s)
  | m + 1 =>
    match pickCtx s f q with
    | none => ([], s)
    | some c =>
      let (l, t) := takeContexts (takeCtx s c (ctx0 f q cq)) f q cq m
      (c :: l, t)

/-- One read of submission entries (R218, R220): at most 8, consecutive, within the turn, the deficit, the queue and the
Max_Read_Request_Size (R196). -/
def fetchFrom (s : State) (f q : Nat) (x : Sq) (a : Arb) : State :=
  let first := (x.head + x.inFetch) % max x.size 1
  let turn := if q = 0 then 8 else a.turnLeft
  let n := min (min (min 8 (maxRead s f / 64)) (sqWaitingEntries x)) (min (x.size - first) (min turn (max 1 (tgetD s.cmd.deficit f 0))))
  match takeContexts s f q x.cq n with
  | ([], s) =>
    let s := (s.set CMD_STATUS_CTX_EMPTY 1).bump CMD_CNTn_COUNT 4
    { s with cmd := { s.cmd with noCtx := f :: s.cmd.noCtx } }
  | (l, s) =>
    let k := l.length
    let s := setSq s f q { x with inFetch := x.inFetch + k }
    let s := { s with cmd := { s.cmd with
      arb := tput s.cmd.arb f (chargeArb q x a k)
      deficit := tput s.cmd.deficit f (tgetD s.cmd.deficit f 0 - k) } }
    sendReq s ⟨linkOf s f, 0, f, .sqe q first l, x.base + 64 * first, 64 * k, [], s.timeUs⟩

/-- One choice of fetch arbitration (R218). While CMD is not enabled, paused for an activation, or stopped by a flush,
nothing is fetched. -/
def fetchOne (s : State) : State :=
  if !s.on CMD_CTRL_ENABLE ∨ s.cmd.paused = true ∨ s.cmd.flushStop = true then s
  else
    match pickFn s with
    | (none, s) => s
    | (some f, s) =>
      match pickQueue s f with
      | some ((q, x), a) => fetchFrom s f q x a
      | none => s

/-! What a command is (R241, R245, R246). -/

/-- The opcodes of Tables 10.4 and 10.5. -/
def adminOpcodes : List Nat :=
  [0x00, 0x01, 0x02, 0x04, 0x05, 0x06, 0x08, 0x09, 0x0A, 0x0C, 0x0D, 0x10, 0x11, 0x15, 0x19, 0x1A, 0x1D, 0x1E, 0x80, 0x81,
   0x82, 0x84, 0xC0, 0xC2, 0xC4]
def ioOpcodes : List Nat :=
  [0x00, 0x01, 0x02, 0x04, 0x05, 0x08, 0x09, 0x0C, 0x12, 0x19, 0x1D, 0x80, 0x84, 0x85, 0x8B, 0x8F]

/-- Whether a context is an I/O command of an opcode, and an admin command of one. -/
def isIo (x : Ctx) (op : Nat) : Bool := x.sq ≠ 0 && x.sqe.opcode = op
def isAdmin (x : Ctx) (op : Nat) : Bool := x.sq = 0 && x.sqe.opcode = op

/-- Whether CMD executes the command itself (R222). -/
def byCmd (x : Ctx) : Bool :=
  if x.sq = 0 then x.sqe.opcode = 8 else [0x00, 0x01, 0x02, 0x05, 0x0C, 0x80].contains x.sqe.opcode

/-- Data that the sender of an admin command gives: what the transfer brought, or the data of the request (R402). -/
def hostData (x : Ctx) (d : List Byte) : List Byte :=
  match x.tunnel with
  | some _ => tgetD x.got 0 []
  | none => d

/-- Whether the 8840 knows the command: Service Dump and Requalify Die only of physical functions (R253). -/
def opKnown (s : State) (x : Ctx) : Bool :=
  if x.sq = 0 then
    adminOpcodes.contains x.sqe.opcode && !((x.sqe.opcode = 0xC2 || x.sqe.opcode = 0xC4) && !isPf s x.f)
  else ioOpcodes.contains x.sqe.opcode

/-- Whether an I/O command names logical blocks by SLBA and a 16-bit count. -/
def hasRange (x : Ctx) : Bool := x.sq ≠ 0 && [0x01, 0x02, 0x04, 0x05, 0x08, 0x0C].contains x.sqe.opcode

/-- Whether an I/O command requires an active namespace: all but Fence, Compress, Decompress and a Flush of every one. -/
def needsNs (x : Ctx) : Bool :=
  x.sq ≠ 0 && !([0x80, 0x8B, 0x8F].contains x.sqe.opcode) && !(x.sqe.opcode = 0 && x.sqe.nsid = 0xFFFFFFFF)

/-- Whether a namespace exists, is active at a function, and its size in logical blocks. -/
def nsInfo (s : State) (n : Nat) : Option NsInfo := tget s.nvm.ns n
def nsActive (s : State) (f nsid : Nat) : Bool :=
  nsid ≠ 0 && (match nsInfo s (nsid - 1) with | some i => i.attached.contains f | none => false)
def nsSize (s : State) (n : Nat) : Nat := match nsInfo s n with | some i => i.nsze | none => 0

/-- Metadata bytes of a logical block by format (Table 10.3), whether it is interleaved, and the protection type. -/
def mdBytes (fmt : Nat) : Nat := if fmt = 1 ∨ fmt = 4 then 8 else if fmt = 2 ∨ fmt = 5 then 16 else 0
def nsExt (s : State) (n : Nat) : Bool := match nsInfo s n with | some i => i.ext | none => false
def nsPiType (s : State) (n : Nat) : Nat := match nsInfo s n with | some i => i.dps % 8 | none => 0

/-- PRACT and PRCHK of a command. -/
def prAct (x : Ctx) : Bool := bits x.sqe.cdw12 29 1 = 1
def prChk (x : Ctx) : Nat := bits x.sqe.cdw12 26 3

/-- Metadata bytes that the host transfers for a logical block: none where the 8840 makes or strips the protection
information (PRACT). -/
def hostMd (s : State) (x : Ctx) : Nat :=
  let n := cmdNs x
  if prAct x ∧ nsPiType s n ≠ 0 then 0 else mdBytes (nsFmt s n)

/-- Bytes of a logical block in the data buffer. -/
def hostLba (s : State) (x : Ctx) : Nat := lbaSize s (cmdNs x) + (if nsExt s (cmdNs x) then hostMd s x else 0)

/-- The number of dwords that CDW10 and CDW11 of a command give, zero-based. -/
def numd (x : Ctx) : Nat := x.sqe.cdw10 + 1

/-- Bytes of host data of a command. -/
def dataLen (s : State) (x : Ctx) : Nat :=
  let op := x.sqe.opcode
  if x.sq ≠ 0 then
    if op = 0x01 ∨ op = 0x02 ∨ op = 0x05 then cmdNlb x * hostLba s x
    else if op = 0x09 ∨ op = 0x85 then (bits x.sqe.cdw10 0 8 + 1) * 16
    else if op = 0x19 then (bits x.sqe.cdw12 0 8 + 1) * 32
    else if op = 0x12 then (x.sqe.cdw11 + 1) * 4
    else if op = 0x1D then (bits x.sqe.cdw10 16 16 + 1) * 2
    else if op = 0x8B ∨ op = 0x8F then x.sqe.cdw12
    else 0
  else if op = 0x06 ∨ op = 0x0D ∨ op = 0x15 then 4096
  else if op = 0x02 then (bits x.sqe.cdw10 16 16 + bits x.sqe.cdw11 0 16 * 65536 + 1) * 4
  else if op = 0x11 then numd x * 4
  else if op = 0x19 ∨ op = 0x1A then numd x * 4
  else if op = 0x81 ∨ op = 0x82 then x.sqe.cdw11
  else if op = 0x1D ∨ op = 0x1E then 4096
  else if op = 0x09 ∨ op = 0x0A then
    (let fid := bits x.sqe.cdw10 0 8
     if fid = 0x0E then 8 else if fid = 0x81 then 16 else if fid = 0x1E then 4096 else 0)
  else if op = 0xC2 ∧ x.sqe.cdw10 % 16 = 1 then (x.sqe.cdw11 + 1) * 4
  else 0

/-! Opal lock state (R276, R277). -/

/-- Whether a namespace has a namespace global range of its own. -/
def ownGlobal (s : State) (ns : Nat) : Bool := s.cry.opal.any fun r => r.kind = 1 && r.ns = ns

/-- Whether a range of the subsystem covers sector `sec` of a namespace: a non-global range, else the namespace global
range, else the Global Range. -/
def rangeOf (s : State) (ns sec : Nat) : Option OpalRange :=
  match s.cry.opal.find? fun r => r.kind = 2 && r.ns = ns && decide (r.first ≤ sec) && decide (sec < r.first + r.count) with
  | some r => some r
  | none =>
    if ownGlobal s ns then s.cry.opal.find? fun r => r.kind = 1 && r.ns = ns
    else s.cry.opal.find? fun r => r.kind = 0

/-- Whether some of `n` sectors of a namespace lie in a locked range. The lock state changes only at the borders of
non-global ranges, so the first sector and those borders are looked at. -/
def opalLocked (s : State) (ns first n : Nat) (write : Bool) : Bool :=
  let at_ (sec : Nat) : Bool := match rangeOf s ns sec with
    | some r => if write then r.writeLocked else r.readLocked
    | none => false
  let borders := (s.cry.opal.filter fun r => r.kind = 2 && r.ns = ns).flatMap fun r => [r.first, r.first + r.count]
  0 < n && (first :: borders.filter fun b => decide (first ≤ b) && decide (b < first + n)).any at_

/-! Checks at registration. -/

/-- Namespace is Write Protected with DNR (R158), Access Denied with DNR (R277). -/
def stWpDnr : Nat := stWriteProtected + 0x4000
def stDeniedDnr : Nat := stAccessDenied + 0x4000

/-- Whether the subsystem accepts a command while it is sanitizing (R373). -/
def sanOk (x : Ctx) : Bool :=
  x.sq = 0 && [0x00, 0x01, 0x02, 0x04, 0x05, 0x06, 0x08, 0x09, 0x0A, 0x0C, 0x1D, 0x1E, 0x82, 0xC2].contains x.sqe.opcode

/-- Whether a command would change namespace contents (R158, R253): the five I/O commands, Secure Deallocate, and the deletion of a
namespace. -/
def changesData (x : Ctx) : Bool :=
  if x.sq = 0 then decide (x.sqe.opcode = 0x0D) && decide (bits x.sqe.cdw10 0 4 = 1)
  else [0x01, 0x04, 0x08, 0x19, 0x85].contains x.sqe.opcode || (x.sqe.opcode = 9 && bits x.sqe.cdw11 2 1 = 1)

/-- Whether a command of one range touches a locked Opal range: reads and writes apart (R277). -/
def lockDenied (s : State) (x : Ctx) : Bool :=
  let op := x.sqe.opcode
  if hasRange x then opalLocked s (cmdNs x) (cmdFirst s x) (cmdSectors s x) (op = 1 || op = 4 || op = 8) else false

/-- Fields and values of vendor and placement commands that are not admitted (R241, R252, R253). -/
def fieldBad (s : State) (x : Ctx) : Bool :=
  let e := x.sqe
  if x.sq ≠ 0 then
    if e.opcode = 1 then
      bits e.cdw12 20 4 ≠ 0 && (bits e.cdw12 20 4 ≠ 2 || !s.sys.image.fdp)
    else if e.opcode = 0x80 then 2 ≤ e.cdw10 || e.cdw11 ≠ 0 || e.cdw12 ≠ 0 || e.cdw13 ≠ 0 || e.cdw14 ≠ 0 || e.cdw15 ≠ 0
    else if e.opcode = 0x84 then 3 ≤ e.cdw13 || e.cdw14 ≠ 0 || e.cdw15 ≠ 0
    else if e.opcode = 0x85 then
      256 ≤ e.cdw10 || e.cdw11 ≠ 0 || e.cdw12 ≠ 0 || e.cdw13 ≠ 0 || e.cdw14 ≠ 0 || e.cdw15 ≠ 0
    else if e.opcode = 0x8B then
      e.psdt ≠ 0 || 65536 ≤ e.cdw10 || e.cdw11 ≠ 0 || e.cdw12 = 0 || 1048576 < e.cdw12 || e.cdw13 = 0 || 1048576 < e.cdw13
    else if e.opcode = 0x8F then
      e.psdt ≠ 0 || e.cdw11 ≠ 0 || e.cdw12 = 0 || 1048576 < e.cdw12 || e.cdw13 = 0 || 1048576 < e.cdw13
    else if e.opcode = 4 then
      !nsLba4k s (cmdNs x) && (cmdSlba x % 8 ≠ 0 || cmdNlb x % 8 ≠ 0)
    else if e.opcode = 0x12 ∨ e.opcode = 0x1D then !s.sys.image.fdp || bits e.cdw10 0 8 ≠ 1
    else if e.opcode = 0x19 then bits e.cdw12 8 4 ≠ 0
    else false
  else if e.opcode = 0xC0 then
    e.cdw10 ≠ 0 || e.cdw11 ≠ 0 || e.cdw12 ≠ 0 || e.cdw13 ≠ 0 || e.cdw14 ≠ 0 || e.cdw15 ≠ 0
  else if e.opcode = 0xC4 then
    2048 ≤ e.cdw10 || e.cdw11 ≠ 0 || e.cdw12 ≠ 0 || e.cdw13 ≠ 0 || e.cdw14 ≠ 0 || e.cdw15 ≠ 0
  else if e.opcode = 0xC2 then
    3 ≤ e.cdw10 || e.cdw14 ≠ 0 || e.cdw15 ≠ 0
      || (e.cdw10 ≠ 1 && (e.cdw11 ≠ 0 || e.cdw12 ≠ 0 || e.cdw13 ≠ 0)) || (e.cdw10 = 1 && e.cdw12 % 4 ≠ 0)
  else false

/-- 2 MiB, MDTS (R241). -/
def mdts : Nat := 2097152

/-- The status with which a fetched command ends at once, 0 when it runs (R219, R241, R252, R277, R371, R373). -/
def entryStatus (s : State) (c : Nat) (x : Ctx) : Nat :=
  if s.cmd.ctxs.any fun y => x.tunnel.isNone && y.1 ≠ c && y.2.f = x.f && y.2.sq = x.sq && y.2.tunnel.isNone
      && y.2.stage ≠ .fetching && y.2.stage ≠ .draining && y.2.sqe.cid = x.sqe.cid then stCidConflict
  else if x.sqe.fuse ≠ 0 then stInvalidField
  else if !opKnown s x then stInvalidOpcode
  else if s.fw.san.isSome ∧ !sanOk x then stSanitizeInProgress
  else if s.fw.failed.isSome ∧ !(sanOk x || isAdmin x 0x84) then stSanitizeFailed
  else if fieldBad s x then stInvalidField
  else if needsNs x ∧ !nsActive s x.f x.sqe.nsid then stInvalidNs
  else if needsNs x ∧ s.fw.formats.any (fun r => r.ns = cmdNs x) then stFormatInProgress
  else if mdts < dataLen s x then stInvalidField
  else if hasRange x ∧ nsSize s (cmdNs x) < cmdSlba x + cmdNlb x then stLbaRange
  else if s.media.readOnly ∧ changesData x then stWpDnr
  else if lockDenied s x then stDeniedDnr
  else 0

/-! Registration (R226 to R229). -/

/-- The record that CMD takes for a command at its fetch: one range of at most 513 sectors (Table 9.3, R222). -/
def fetchRec (s : State) (x : Ctx) : Option LockRec :=
  if hasRange x ∧ cmdSectors s x ≤ 513 then
    let op := x.sqe.opcode
    some ⟨cmdNs x, cmdFirst s x, cmdSectors s x, op = 1 || op = 4 || op = 8, false, 0, false⟩
  else none

/-- Commands of a submission queue that wait for a grant. -/
def sqLockWaits (s : State) (f q : Nat) : Nat :=
  (s.cmd.ctxs.filter fun x => x.2.f = f && x.2.sq = q && x.2.tunnel.isNone && x.2.stage = .waiting).length

/-- The stop of R229 brought up to date for a queue. -/
def updLockStop (s : State) (f q : Nat) : State :=
  match sqOf s f q with
  | none => s
  | some x =>
    let past := s.get CMD_LOCK_CFG_SQ_WAIT_MAX < sqLockWaits s f q
    if past ∧ !x.lockStop then setSq ((s.set CMD_STATUS_SQ_WAIT 1).bump CMD_CNTn_COUNT 5) f q { x with lockStop := true }
    else if past then s
    else setSq s f q { x with lockStop := false }

/-! The firmware ring (R222). -/

/-- Entries of the ring, its next tail, and whether it can take an entry. -/
def ringEntries (s : State) : Nat := 2 ^ s.get CMD_FWQ_CFG_SIZE_LOG2
def ringNext (s : State) : Nat := (s.get CMD_FWQ_TAIL_INDEX + 1) % ringEntries s
def ringFull (s : State) : Bool := ringNext s = s.get CMD_FWQ_HEAD_INDEX
def fwqRoom (s : State) : Bool := s.on CMD_FWQ_CFG_ENABLE && !ringFull s

/-- The 64 bytes of a submission entry. -/
def sqeBytes (e : Sqe) : List Byte :=
  natLe (e.opcode + e.fuse * 256 + e.psdt * 16384 + e.cid * 65536) 4 ++ natLe e.nsid 4 ++ natLe e.cdw2 4 ++ natLe e.cdw3 4
    ++ natLe e.mptr 8 ++ natLe e.dptr1 8 ++ natLe e.dptr2 8 ++ natLe e.cdw10 4 ++ natLe e.cdw11 4 ++ natLe e.cdw12 4
    ++ natLe e.cdw13 4 ++ natLe e.cdw14 4 ++ natLe e.cdw15 4

/-- A submission entry from its 64 bytes. -/
def sqeOf (b : List Byte) : Sqe :=
  let w (a n : Nat) : Nat := leNat ((b.drop a).take n)
  ⟨w 0 1, w 1 1 % 4, w 1 1 / 64, w 2 2, w 4 4, w 8 4, w 12 4, w 16 8, w 24 8, w 32 8, w 40 4, w 44 4, w 48 4, w 52 4, w 56 4, w 60 4⟩

/-- The 128 B entry of a command (Table 9.2). -/
def ringBytes (c : Nat) (x : Ctx) : List Byte :=
  sqeBytes x.sqe ++ natLe c 4 ++ natLe x.f 2 ++ natLe x.sq 2 ++ natLe x.seq 8
    ++ natLe (b2n x.recA.isSome + 2 * b2n (x.sq = 0)) 1 ++ List.replicate 47 0

/-- Address of ring entry `i`. -/
def ringAddr (s : State) (i : Nat) : Nat := s.get CMD_FWQ_BASE_BASE * 4096 + i * 128

/-- A command written to the firmware ring; none while the ring cannot take it. -/
def ringPost (s : State) (c : Nat) : Option State :=
  match ctxOf s c with
  | none => some s
  | some x =>
    if !fwqRoom s then none
    else
      let t := s.get CMD_FWQ_TAIL_INDEX
      let s := writeBytes s (ringAddr s t) (ringBytes c x)
      let s := (s.set CMD_FWQ_TAIL_INDEX (ringNext s)).set CMD_STATUS_FWQ_POSTED 1
      some (countWaits (setCtx s c { x with stage := .ringed t }) x.f)

/-- A command whose records are granted starts: in CMD, or in the firmware ring. -/
def startCtx (s : State) (c : Nat) : State :=
  match ctxOf s c with
  | none => s
  | some x =>
    if byCmd x then updLockStop (countWaits (setCtx s c { x with stage := .running }) x.f) x.f x.sq
    else
      match ringPost s c with
      | some t => updLockStop t x.f x.sq
      | none => s.set CMD_STATUS_FWQ_FULL 1

/-! Flush and Fence (R234, R235). -/

/-- Whether a Flush waits for media: a volatile write cache is reported and no write-through is in force
(Table 7.2, R172). -/
def flushWaits (s : State) : Bool := s.on HBM_CEIL_VWC

/-- The staging sectors that a Flush covers: those of its namespace whose data has arrived. -/
def flushCovers (s : State) (x : Ctx) : List Nat :=
  (s.hbm.stg.filter fun y => y.2.staged && (x.sqe.nsid = 0xFFFFFFFF || y.2.ns = cmdNs x)).map Prod.fst

/-- What a command records at its registration: a Flush what it covers, a Fence the commands before it, with fetch from
its queue stopped. -/
def registerWaits (s : State) (c : Nat) : State :=
  match ctxOf s c with
  | none => s
  | some x =>
    if isIo x 0 ∧ flushWaits s then
      durKick (setCtx s c { x with waitDur := true, durLeft := flushCovers s x, durSeq := jnlLast s })
    else if isIo x 0x80 then
      let before := s.cmd.ctxs.filter fun y => y.1 ≠ c && y.2.f = x.f && y.2.sq = x.sq && y.2.stage ≠ .fetching
        && y.2.stage ≠ .draining && y.2.seq < x.seq
      updSq (setCtx s c { x with fences := before.map Prod.fst }) x.f x.sq fun q => { q with fence := some c }
    else s

/-! Taking entries into contexts (R219). -/

/-- A Sanitize registered: from here the subsystem is sanitizing, where it starts an operation (R372, R373). -/
def sanRegister (s : State) (x : Ctx) : State :=
  let act := bits x.sqe.cdw10 0 3
  if act = 2 ∨ act = 4 then
    { s with fw := { s.fw with
      san := some ⟨if act = 2 then 1 else 2, 0, bits x.sqe.cdw10 3 1 = 1, 0, []⟩
      failed := none, scdw10 := x.sqe.cdw10 } }
  else s

/-- A command that runs: its data addresses are asked for, its records registered, and it starts where they are
granted. -/
def admitEntry (s : State) (c : Nat) (x : Ctx) : State :=
  let s := if isAdmin x 0x84 then sanRegister s x else s
  let cpr : Bool := x.sq ≠ 0 && [0x8B, 0x8F].contains x.sqe.opcode
  let s := registerWaits (if cpr then startDst s c x.sqe.cdw13 else startDma s c (dataLen s x)) c
  let s := match fetchRec s x with | some r => registerRecs s c (some r) none | none => s
  match ctxOf s c with
  | none => s
  | some y =>
    if allGranted y then startCtx s c
    else updLockStop (countWaits ((setCtx s c { y with stage := .waiting }).bump CMD_CNTn_COUNT 3) y.f) y.f y.sq

/-- Whether an entry cannot be taken because it is bound for a firmware ring that is full (R222). -/
def ringHolds (s : State) (x : Ctx) (st : Nat) : Bool := st = 0 && !byCmd x && !fwqRoom s

/-- Number of Abort commands outstanding at a controller, and the limits on Abort and on event requests. -/
def abortsOut (s : State) (f : Nat) : Nat := (s.cmd.ctxs.filter fun y => y.2.f = f && isAdmin y.2 8 && y.2.stage ≠ .draining).length

/-- One entry taken into its context (R219): none when it is left in host memory for want of room in the ring. -/
def takeEntry (s : State) (c : Nat) (e : Sqe) : Option State :=
  match ctxOf s c with
  | none => some s
  | some y =>
    let x := { y with sqe := e, seq := s.cmd.seq, stage := .running, left := y.left - 1 }
    let st := entryStatus s c x
    if ringHolds s x st then none
    else
      let s := { s with cmd := { s.cmd with seq := s.cmd.seq + 1 } }
      let s := setCtx (s.bump CMD_CNTn_COUNT 0) c x
      let s := updSq s x.f x.sq fun q => { q with head := (q.head + 1) % max q.size 1, inFetch := q.inFetch - 1 }
      if st ≠ 0 then some (commitCtx s c st 0 0)
      else if isAdmin x 8 ∧ 16 < abortsOut s x.f then some (commitCtx s c stAbortLimit 0 0)
      else some (admitEntry s c x)

/-- A queue under deletion whose last command has gone: its Delete command completes and the queue ends (R236). -/
def deleteCheck (s : State) (f q : Nat) : State :=
  match sqOf s f q with
  | none => s
  | some x =>
    match x.deleting with
    | none => s
    | some d =>
      if s.cmd.ctxs.any (fun y => y.2.f = f && y.2.sq = q && y.2.tunnel.isNone && y.2.stage ≠ .draining) then s
      else commitCtx { s with cmd := { s.cmd with sqs := tdel s.cmd.sqs (qkey f q) } } d 0 0 0

/-- Whether a queue takes further entries of a fetch: no Fence holds it and no deletion runs. -/
def sqTakes (s : State) (f q : Nat) : Bool :=
  match sqOf s f q with
  | some x => x.fence.isNone && x.deleting.isNone
  | none => false

/-- Contexts given back that no entry fills: the entries stay in host memory. -/
def giveBack (s : State) (f q : Nat) (l : List Nat) : State :=
  let n := l.length
  deleteCheck (l.foldl freeCtx (updSq s f q fun x => { x with inFetch := x.inFetch - n })) f q

/-- The entries of a fetch taken in queue order into their contexts. Entries behind a Fence, or behind one that the
firmware ring cannot take, stay in host memory (R222, R234). -/
def takeEntries (s : State) (f q : Nat) (l : List (Nat × Sqe)) : State :=
  match l with
  | [] => s
  | (c, e) :: r =>
    match ctxOf s c with
    | none => takeEntries s f q r
    | some x =>
      if x.stage = .draining then takeEntries (opEnd s c) f q r
      else if !sqTakes s f q then giveBack s f q (c :: r.map Prod.fst)
      else
        match takeEntry s c e with
        | some t => takeEntries t f q r
        | none =>
          updSq (giveBack (s.set CMD_STATUS_FWQ_FULL 1) f q (c :: r.map Prod.fst)) f q fun x => { x with fwHold := true }

/-- The entries of an outstanding fetch have arrived (R219): held while Bus Master Enable is 0 (R209). -/
def entriesArrive (s : State) (l t : Nat) (es : List Sqe) : State :=
  match reqOf s l t with
  | none => s
  | some r =>
    match r.kind with
    | .sqe q _ cs =>
      if es.length < cs.length then s
      else if !bme s r.f then
        { s with hif := { s.hif with held := s.hif.held ++ [⟨l, t, false, false, es.flatMap sqeBytes⟩] } }
      else takeEntries (freeReq s r) r.f q (cs.zip es)
    | _ => s

/-! Grants (R227). -/

/-- Records of a context granted that were registered together: the named record and, with the same place, the other. -/
def grantRec (s : State) (c : Nat) (recB : Bool) : State :=
  match ctxOf s c with
  | none => s
  | some x =>
    match if recB then x.recB else x.recA with
    | none => s
    | some r =>
      let same := (ctxRecs x).filter fun o => o.seq = r.seq
      if same.all (grantable s c) then
        let g (o : Option LockRec) : Option LockRec := o.map fun y => if y.seq = r.seq then { y with granted := true } else y
        setCtx s c { x with recA := g x.recA, recB := g x.recB }
      else s

/-- A lock slot completed (R240). -/
def lkDone (s : State) (n result : Nat) : State :=
  let s := ((s.set CMD_LKn_CTL_RESULT result n).set CMD_LKn_CTL_DONE 1 n).set CMD_LKn_CTL_GO 0 n
  { s with cmd := { s.cmd with acquires := tdel s.cmd.acquires n } }

/-- Waiting ACQUIREs whose records are granted complete. -/
def lkCheck (s : State) : State :=
  s.cmd.acquires.foldl (fun s y =>
    match ctxOf s y.2.1 with
    | none => lkDone s y.1 1
    | some x =>
      let a := match x.recA with | some r => r.granted | none => true
      let b := match x.recB with | some r => r.granted | none => true
      let ok := if y.2.2.2 then b else if y.2.2.1 then a && b else a
      if ok then lkDone s y.1 0 else s) s

/-! Posting (R223, R224). -/

/-- A vector's message for a completion queue, and its coalescing state cleared. -/
def fireQueue (s : State) (f v : Nat) : State :=
  fireVec { s with cmd := { s.cmd with coal := tdel s.cmd.coal (qkey f v) } } f v

/-- The interrupt of an entry posted to a queue (R224): coalesced on an I/O queue unless CD is set. -/
def noteEntry (s : State) (f q : Nat) (x : Cq) : State :=
  if !x.ien then s
  else if q = 0 ∨ bits (feat s f 9 x.iv) 16 1 = 1 then fireQueue s f x.iv
  else
    let v := feat s f 8 0
    let c := tgetD s.cmd.coal (qkey f x.iv) ⟨0, s.timeUs⟩
    if bits v 0 8 + 1 ≤ c.count + 1 ∨ bits v 8 8 = 0 then fireQueue s f x.iv
    else { s with cmd := { s.cmd with coal := tput s.cmd.coal (qkey f x.iv) ⟨c.count + 1, c.firstUs⟩ } }

/-- Commands that wait for another's posting told that it has gone; a durable Fence takes over what a successful write
still has to make durable (R232, R234). -/
def noteGone (s : State) (c : Nat) (y : Ctx) : State :=
  let fix (x : Ctx) : Ctx :=
    if (x.fences.contains c) = true then
      let dur := isIo x 0x80 && bits x.sqe.cdw10 0 1 = 1 && y.staged && y.err = 0 && flushWaits s
      { x with
        fences := x.fences.filter (· ≠ c)
        durLeft := if dur then x.durLeft ++ y.durLeft else x.durLeft
        durSeq := if dur then max x.durSeq y.durSeq else x.durSeq }
    else x
  { s with cmd := { s.cmd with ctxs := s.cmd.ctxs.map fun x => (x.1, fix x.2) } }

/-- A context whose entry is posted given back, once its last internal operation has ended (R221). -/
def endCtx (s : State) (c : Nat) : State :=
  match ctxOf s c with
  | none => s
  | some x => if x.left = 0 then freeCtx s c else setCtx s c { x with stage := .draining }

/-- The next entry of a completion queue written in slot order, where the queue has room and the function may master the
bus; its context is given back and its vector told (R203, R209, R221 to R224). -/
def postOne (s : State) (f q : Nat) : State :=
  match cqOf s f q with
  | none => s
  | some x =>
    match x.wait with
    | [] => s
    | e :: r =>
      if !bme s f ∨ x.size ≤ cqUsed x + 1 then s
      else
        let wrap := x.size ≤ x.tail + 1
        let s := s.emit (.memWrite f (x.base + 16 * x.tail) (cqeBytes e x.phase) false false)
        let s := setCq s f q { x with wait := r, tail := if wrap then 0 else x.tail + 1, phase := if wrap then !x.phase else x.phase }
        let s := s.bump CMD_CNTn_COUNT 1
        let s := match ctxOf s e.ctx with
          | some y => deleteCheck (endCtx (noteGone s e.ctx y) e.ctx) f e.sq
          | none => s
        updInta (noteEntry s f q x) f

/-! Completion by firmware (R222). -/

/-- A write of CMD_FWCPL_CTL.GO: the entry is posted for a command that firmware has taken; a dropped one ends. -/
def fwcplGo (s : State) : State :=
  let c := s.get CMD_FWCPL_CTL_CTX
  let fin (s : State) (r : Nat) : State :=
    ((s.set CMD_FWCPL_CTL_RESULT r).set CMD_FWCPL_CTL_DONE 1).set CMD_FWCPL_CTL_GO 0
  match ctxOf s c with
  | none => fin s 4
  | some x =>
    if x.stage = .taken then
      fin (commitCtx s c (s.get CMD_FWCPL_STS_SF) (s.get CMD_FWCPL_DW0_V) (s.get CMD_FWCPL_DW1_V)) 0
    else if x.stage = .draining then fin (opEnd s c) 1
    else fin s 4

/-- Firmware finishes a command: its registers written and GO set. -/
def fwPost (s : State) (c status dw0 dw1 : Nat) : State :=
  fwcplGo ((((s.set CMD_FWCPL_DW0_V dw0).set CMD_FWCPL_DW1_V dw1).set CMD_FWCPL_STS_SF status).set CMD_FWCPL_CTL_CTX c)

/-- A command that firmware executes: `g` runs on one that firmware has taken, whose data addresses are known, and which
is the admin or I/O command of the opcode; any other is left alone, but that the end of a dropped command is written. A command of a
function without Bus Master Enable stays where it stands (R209). -/
def fwRun (s : State) (c : Nat) (io : Bool) (op : Nat) (g : State → Ctx → State) : State :=
  match ctxOf s c with
  | none => s
  | some x =>
    if x.sqe.opcode ≠ op ∨ (x.sq ≠ 0) ≠ io then s
    else if x.stage = .draining then fwPost s c 0 0 0
    else if x.stage ≠ .taken ∨ !dmaReady x ∨ (x.tunnel.isNone ∧ !bme s x.f) then s
    else if x.err ≠ 0 then fwPost s c x.err x.dw0 0
    else g s x

/-- Firmware takes entries: HEAD moves and each command between commits (R221, R222, R232). Queues held for the ring are
fetched again. -/
def fwqTake (s : State) (head : Nat) : State :=
  let n := ringEntries s
  let old := s.get CMD_FWQ_HEAD_INDEX
  let cnt := (head + n - old) % n
  if (s.get CMD_FWQ_TAIL_INDEX + n - old) % n < cnt then s
  else
    let taken (i : Nat) : Bool := (i + n - old) % n < cnt
    let fix (x : Ctx) : Ctx := match x.stage with
      | .ringed i => if taken i then { x with stage := .taken } else x
      | _ => x
    let cs := s.cmd.ctxs.map fun x => (x.1, fix x.2)
    let qs := s.cmd.sqs.map fun x => (x.1, { x.2 with fwHold := false })
    let s := { s with cmd := { s.cmd with ctxs := cs, sqs := qs } }
    s.set CMD_FWQ_HEAD_INDEX head

end Sys2Proof.Machine
end

