-- ==== Sys2Proof/Machine/HealthOps.lean ====
section
/-! DEFINITION. Health as the 8840 reports it: spare stripes, wear, temperatures, Critical Warning, the change flags and
ALERT_N, and the health logs (R132, R133, R148, R157 to R162, R384, R385, R400, R404). -/

namespace Sys2Proof.Machine

/-! Events. -/

/-- An event of type SMART / Health with its information, for every controller whose Asynchronous Event Configuration
enables Critical Warning bit `bit` (R250). -/
def smartEvent (s : State) (bit info : Nat) : State :=
  (List.range 256).foldl (fun s f =>
    if fnPresent s f && bits (feat s f 0x0B 0) bit 1 = 1 then aenAdd s f 1 info 2 else s) s

/-- A notice for one controller, where its Asynchronous Event Configuration enables it (R250): information 0, 1, 2 are
enabled by bits 8, 9, 10. -/
def noticeEvent (s : State) (f info lid : Nat) : State :=
  if bits (feat s f 0x0B 0) (8 + info) 1 = 1 then aenAdd s f 2 info lid else s

/-- A notice for every controller that is present. -/
def noticeAll (s : State) (info lid : Nat) : State :=
  (List.range 256).foldl (fun s f => if fnPresent s f then noticeEvent s f info lid else s) s

/-! Usable blocks and spare (R132, R133). -/


/-- Key of a block number of a die, and its dense and pSLC counts (R148). -/
def peKey (die block : Nat) : Nat := die * 16384 + block
def peOf (s : State) (die block : Nat) : Nat × Nat := tgetD s.media.pe (peKey die block) (0, 0)

/-- Whether the journal page of a record is durable. -/
def recDurable (s : State) (page : Nat) : Bool :=
  durableTo s page && (match s.map.page with | some p => decide (page < p.seq) | none => true)

/-- Whether a grown bad-block entry is in effect: the journal page of its record is durable (R152). -/
def grownEffective (s : State) (g : GrownBad) : Bool := recDurable s g.page

/-- The blocks that the stored mark table of a die position names (R151). -/
def markedBlocks (s : State) (die : Nat) : List Nat :=
  match tget s.media.marks die with
  | some t => t.blocks.map fun b => b.block
  | none => []

/-- Block numbers of a die that a factory mark or the grown bad-block table takes, each once, below BLOCKS. -/
def lostBlocks (s : State) (die : Nat) : List Nat :=
  let l := markedBlocks s die ++ (s.media.grown.filter fun g => g.die = die && grownEffective s g).map fun g => g.block
  uniq (l.filter fun b => decide (b < s.get FCH_MODELm_GEOM_BLOCKS (dieModel s die)))

/-- Whether a block number is usable (R132). -/
def blockUsable (s : State) (die block : Nat) : Bool :=
  dieState s die = 1 && decide (block < s.get FCH_MODELm_GEOM_BLOCKS (dieModel s die)) && !(lostBlocks s die).contains block

/-- The Sett dies. -/
def isSettDie (s : State) (d : Nat) : Bool := s.sys.settA.contains d || s.sys.settB.contains d

/-- Whether a block's program or erase has failed: its entry is in the table, or waits for it (R147, R152). -/
def blockSpoiled (s : State) (die block : Nat) : Bool :=
  (s.media.grown.any fun g => g.die = die && g.block = block) || s.media.growWait.any fun x => decide (x.1 = die) && decide (x.2.2.1 = block)

/-- Whether device firmware programs and erases a block: it is usable, none of its operations has failed, and the marks of its die have been
read (R132, R147, R151). -/
def blockWorks (s : State) (die block : Nat) : Bool := blockUsable s die block && !blockSpoiled s die block && dieScanned s die

/-- The usable block numbers of a die, counted. -/
def usableCount (s : State) (die : Nat) : Nat :=
  if dieState s die = 1 then s.get FCH_MODELm_GEOM_BLOCKS (dieModel s die) - (lostBlocks s die).length else 0

/-- Die and block of each member of the stripes in the open or closed state. -/
def takenBlocks (s : State) : List (Nat × Nat) :=
  (List.range (s.get MAP_STRIPE_COUNT_COUNT)).flatMap fun st =>
    let k := stripeState (stripeHdr s st)
    if k = 1 ∨ k = 2 then
      (List.range 34).map fun p => (memberDie (memberWord s st p), memberBlock (memberWord s st p))
    else []

/-- Dies that are not absent, and the models that they have. -/
def presentDies (s : State) : List Nat := (List.range 2048).filter fun d => dieState s d ≠ 0
def modelsUsed (s : State) : List Nat := uniq ((presentDies s).map (dieModel s))

/-- The largest t, below 2^21, for which the channels' block counts form t stripes: Σ min(n, t) ≥ 34 × t (R133). -/
def stripesFrom (l : List Nat) : Nat :=
  (List.range 21).foldl (fun t k =>
    let u := t + 2 ^ (20 - k)
    if 34 * u ≤ (l.map (min u)).foldl (· + ·) 0 then u else t) 0

/-- Usable block numbers of a model on a channel that no open or closed stripe uses. -/
def channelFree (s : State) (taken : List (Nat × Nat)) (m ch : Nat) : Nat :=
  ((List.range 8).map fun d =>
    let die := ch * 8 + d
    if dieModel s die = m then
      usableCount s die - (taken.filter fun x => x.1 = die && blockUsable s die x.2).length
    else 0).foldl (· + ·) 0

/-- Stripes that can still be formed, over all models. -/
def formable (s : State) : Nat :=
  let taken := takenBlocks s
  ((modelsUsed s).map fun m => stripesFrom ((List.range 256).map (channelFree s taken m))).foldl (· + ·) 0

/-- Stripes in a state, and those of them in pSLC mode or not. -/
def stripesIn (s : State) (p : Nat → Bool) : Nat :=
  ((List.range (s.get MAP_STRIPE_COUNT_COUNT)).filter fun st => p (stripeHdr s st)).length
def freeStripes (s : State) : Nat := stripesIn s fun h => stripeState h = 0
def usedHdr (h : Nat) : Bool := stripeState h = 1 || stripeState h = 2
def slcHdr (h : Nat) : Bool := stripeMode h = 0

/-- The smallest PAGES among the models in use: the runs that a dense stripe holds (R25, R132). -/
def minPages (s : State) : Nat :=
  match (modelsUsed s).map fun m => s.get FCH_MODELm_GEOM_PAGES m with
  | [] => 0
  | a :: r => r.foldl min a

/-- Runs of every namespace: the exported capacity. -/
def exportedRuns (s : State) : Nat := (s.nvm.ns.map fun x => nsRuns s x.1).foldl (· + ·) 0

/-- The stripes that all block numbers of the part would form, by which the pSLC region is measured (R140). -/
def rawStripes (s : State) : Nat :=
  ((presentDies s).map fun d => s.get FCH_MODELm_GEOM_BLOCKS (dieModel s d)).foldl (· + ·) 0 / 34

/-- Stripes of the pSLC region (R140). -/
def regionStripes (s : State) : Nat := rawStripes s * s.sys.image.pslcPct / 100

/-- The required stripes (R133). The dense stripes in use already hold exported capacity: those still needed are the rest (log
entry 27). -/
def requiredStripes (s : State) : Nat :=
  (ceilDiv (exportedRuns s) (minPages s) - stripesIn s fun h => usedHdr h && !slcHdr h) + regionStripes s + s.sys.image.reserve + 128

/-- The spare stripes (R133). -/
def spareStripes (s : State) : Int := (formable s : Int) + freeStripes s - requiredStripes s

/-- Available Spare (R133). -/
def availableSpare (s : State) : Nat := min 100 (100 * (spareStripes s).toNat / max 1 s.media.s0)

/-- The recount of S0 (R133). -/
def recountSpare (s : State) : State :=
  let n := (spareStripes s).toNat
  { s with media := { s.media with s0 := if n = 0 then 1 else n } }

/-- Critical Warning bit 0: Available Spare has fallen below its threshold and has not risen since (Table 6.4, Table 6.5). -/
def spareBelow (s : State) : Bool := s.media.spareLow && decide (availableSpare s < s.sys.image.spareThresh)

/-! Wear (R148, R160). -/

/-- A model's ratings, ENDUR_DENSE and ENDUR_PSLC, as the image declares them. -/
def ratings (s : State) (m : Nat) : Nat × Nat :=
  let r := s.sys.image.ratings.getD m (1, 1)
  (max 1 r.1, max 1 r.2)

/-- The wear of the usable blocks summed, as a fraction. -/
def wearSum (s : State) : Nat × Nat :=
  (modelsUsed s).foldl (fun r m =>
    let (ed, ep) := ratings s m
    let l := s.media.pe.filter fun x => dieModel s (x.1 / 16384) = m && blockUsable s (x.1 / 16384) (x.1 % 16384)
    let a := (l.map fun x => x.2.1 * ep + x.2.2 * ed).foldl (· + ·) 0
    (r.1 * (ed * ep) + a * r.2, r.2 * (ed * ep))) (0, 1)

/-- Usable block numbers of the part. -/
def usableTotal (s : State) : Nat := ((presentDies s).map (usableCount s)).foldl (· + ·) 0

/-- The mean wear of the usable blocks in parts of `unit`. -/
def meanWear (s : State) (unit : Nat) : Nat := unit * (wearSum s).1 / ((wearSum s).2 * max 1 (usableTotal s))

/-- Percentage Used, saturating at 255 (Table 6.5). -/
def percentUsed (s : State) : Nat := min 255 (meanWear s 100)

/-! Temperatures (R384, R385). -/

def elemTemp (s : State) (k : Nat) : Nat := s.get PWR_ELEMk_TEMP_TEMP k
def maxOf (l : List Nat) : Nat := l.foldl max 0
def elemMax (s : State) (a n : Nat) : Nat := maxOf ((List.range n).map fun k => elemTemp s (a + k))

/-- The composite temperature, in 1/8 °C; a reading in kelvin. -/
def compTemp (s : State) : Nat := elemMax s 0 32
def kelvin (t : Nat) : Nat := t / 8 + 273

/-- Kelvin of sensor 0, the composite, and of Temperature Sensors 1 to 8 (Table 17.2). -/
def sensorK (s : State) (n : Nat) : Nat :=
  kelvin (if n = 0 then compTemp s
    else if n = 1 then elemMax s 0 16
    else if n = 2 then elemMax s 16 4
    else if n = 3 then elemMax s 20 8
    else if n = 4 then elemTemp s 28
    else if n = 5 then elemTemp s 29
    else if n = 6 then elemTemp s 30
    else if n = 7 then elemTemp s 31
    else ((List.range 16).map (elemTemp s)).foldl min (elemTemp s 0))

/-- Over- and under-temperature thresholds of a sensor: feature 04h of the subsystem (R385). -/
def overK (s : State) (n : Nat) : Nat := feat s subsys 4 n
def underK (s : State) (n : Nat) : Nat := feat s subsys 4 (16 + n)

/-- Whether a sensor lies beyond a threshold. -/
def beyond (s : State) (n : Nat) : Bool := decide (overK s n < sensorK s n) || decide (sensorK s n < underK s n)

/-- Critical Warning bit 1 brought up to date (R385), with the event of its rise. -/
def updTempWarn (s : State) : State :=
  let now := (List.range 9).any (beyond s)
  let old := s.pwr.tempWarn
  let s := { s with pwr := { s.pwr with tempWarn := now } }
  if now && !old then smartEvent (s.set PWR_STATUS_TEMP_WARN 1) 1 1 else s

/-! Critical Warning (Table 6.5). -/

/-- Whether map records name a sector of a stripe: a base row that some sector is still read from, or a media exception. -/
def runInStripe (s : State) (run stripe : Nat) : Bool :=
  let e := runEntry s run
  let ex := runEntries s (excPool s) run
  (bits e 0 2 = 1 && bits e 2 20 = stripe && (List.range 512).any fun q => !(ex.any fun x => eCovers x.2.2 q))
    || ex.any fun x => eKind x.2.2 = 0 && (match ownerOf s (eLoc x.2.2) with | some (o, _) => o = stripe | none => false)

def stripeHasData (s : State) (stripe : Nat) : Bool :=
  (List.range (s.get MAP_RUN_LIMIT_RUN_COUNT)).any fun run => runInStripe s run stripe

/-- Dies that are out of use after a failure: fenced, retired, or requalifying. -/
def fencedDie (s : State) (die : Nat) : Bool := dieState s die = 2 || dieState s die = 3

/-- Whether a stripe with valid data has two members fenced. -/
def twoFenced (s : State) : Bool :=
  decide (2 ≤ ((List.range 2048).filter (fencedDie s)).length) &&
    (List.range (s.get MAP_STRIPE_COUNT_COUNT)).any fun st =>
      usedHdr (stripeHdr s st) && decide (2 ≤ ((List.range 34).filter fun p => fencedDie s (memberDie (memberWord s st p))).length)
        && stripeHasData s st

/-- Critical Warning. -/
def criticalWarning (s : State) : Nat :=
  b2n (spareBelow s) + 2 * b2n s.pwr.tempWarn + 4 * b2n (twoFenced s || s.on MAP_STATUS_SETT_DEGRADED)
    + 8 * b2n s.media.readOnly + 16 * b2n (s.media.backupFailed || s.on HBM_CEIL_WT)

/-! Health status change and ALERT_N (R400, R404). -/

/-- Drive Not Ready (R400). -/
def driveNotReady (s : State) : Bool :=
  let en := (List.range 256).filter fun f => fnPresent s f && s.on NVME_CC_EN f
  if en = [] then !s.on OOB_CTRL_FW_READY else !(en.any fun f => s.on NVME_CSTS_RDY f)

/-- Drive Functional (R400). -/
def driveFunctional (s : State) : Bool := s.phase ≠ .halted && !s.on FLT_FATAL_ACTIVE

/-- The values that the change flags watch, with a Critical Warning: bits 0 to 7 Critical Warning, 8 the composite
temperature beyond a threshold of feature 04h, 9 Drive Not Ready, 10 Drive Functional. -/
def healthBits (s : State) (cw : Nat) : Nat :=
  cw + 2 ^ 8 * b2n (beyond s 0) + 2 ^ 9 * b2n (driveNotReady s) + 2 ^ 10 * b2n (driveFunctional s)

/-- After a command that may change health: the flags that changed from `s0`, Critical Warning against the value that
device firmware last wrote to OOB_HEALTH, which it now writes (R400, R404). -/
def healthDiff (s0 s : State) : State :=
  let cw := criticalWarning s
  let s := raiseFlags s (healthBits s0 (s0.get OOB_HEALTH_CW) ^^^ healthBits s cw)
  (s.set OOB_HEALTH_CW cw).set OOB_HEALTH_PDLU (percentUsed s)

/-- A command of the blocks that may change health. -/
def actHealth (r : Reach) (s : State) (f : State → State) : Host.Outcome State Fault Refusal := act r s fun s => healthDiff s (f s)

/-! The health counters (Table 6.5). -/

/-- Power On Hours in µs: what the Sett carried and the time since the last start or warm start, and in hours. -/
def pohUs (s : State) : Nat := s.media.health.onUs + (s.timeUs - s.flt.resetUs)
def pohHours (s : State) : Nat := pohUs s / 3600000000

/-- Temperature minutes and transitions: what was carried, and what PWR has counted since (R161, R395). -/
def tempCount (s : State) (n : Nat) : Nat :=
  let x := s.media.health.temps.getD n (0, 0)
  x.1 + (s.get PWR_CNTn_COUNT n - x.2)

/-- The health counters as they stand now, Power On Hours and the counters of PWR folded in. -/
def healthNow (s : State) : Health :=
  { s.media.health with onUs := pohUs s, temps := (List.range 6).map fun n => (tempCount s n, s.get PWR_CNTn_COUNT n) }

/-- A reset of PWR: its counters start from 0 again, and the totals go on (R395). -/
def tempsBase (h : Health) : Health := { h with temps := h.temps.map fun x => (x.1, 0) }

/-- Device firmware writes the counters to the Sett (R161). -/
def saveHealth (s : State) : State := { s with media := { s.media with saved := healthNow s } }

/-- A counter of `n` bytes that saturates (R6, R162). -/
def satLe (v n : Nat) : List Byte := natLe (min v (256 ^ n - 1)) n

/-- Units of 512,000 B, rounded up. -/
def dataUnits512 (n : Nat) : Nat := ceilDiv n 512000

/-- The SMART / Health Information page (Table 6.5), 512 B. -/
def smartLog (s : State) : List Byte :=
  let h := healthNow s
  fit (natLe (criticalWarning s) 1 ++ natLe (sensorK s 0) 2 ++ natLe (availableSpare s) 1 ++ natLe s.sys.image.spareThresh 1
    ++ natLe (percentUsed s) 1 ++ natLe (criticalWarning s &&& 0x0D) 1 ++ List.replicate 25 0
    ++ natLe (dataUnits512 h.bytesRead) 16 ++ natLe (dataUnits512 h.bytesWritten) 16 ++ natLe h.readCmds 16 ++ natLe h.writeCmds 16
    ++ natLe (h.busyUs / 60000000) 16 ++ natLe h.powerCycles 16 ++ natLe (pohHours s) 16 ++ natLe h.unsafeStops 16
    ++ natLe h.integrityErrs 16 ++ natLe s.nvm.errCount 16
    ++ satLe (tempCount s 0) 4 ++ satLe (tempCount s 1) 4
    ++ (List.range 8).flatMap (fun n => natLe (sensorK s (n + 1)) 2)
    ++ satLe (tempCount s 2) 4 ++ satLe (tempCount s 3) 4
    ++ satLe (tempCount s 4) 4 ++ satLe (tempCount s 5) 4) 512

/-- Least, mean and greatest dense count and mean pSLC count of the usable block numbers (Table 6.6). A block number with
no count has 0. -/
def wearStats (s : State) : Nat × Nat × Nat × Nat :=
  let l := (s.media.pe.filter fun x => blockUsable s (x.1 / 16384) (x.1 % 16384)).map Prod.snd
  let n := usableTotal s
  let d := l.map Prod.fst
  let least := if l.length < n then 0 else match d with | [] => 0 | a :: r => r.foldl min a
  (least, d.foldl (· + ·) 0 / max 1 n, maxOf d, (l.map Prod.snd).foldl (· + ·) 0 / max 1 n)

/-- A sum over all dies of a counter. -/
def dieSum (s : State) (f : Fld) : Nat := ((List.range 2048).map fun d => s.get f (d / 8) (d % 8)).foldl (· + ·) 0

/-- The vendor media health page (Table 6.6), 512 B. -/
def mediaLog (s : State) : List Byte :=
  let h := s.media.health
  let (lo, mean, hi, slc) := wearStats s
  let factory := (s.media.marks.map fun x => (uniq (markedBlocks s x.1)).length).foldl (· + ·) 0
  fit (satLe factory 8 ++ satLe s.media.grown.length 8 ++ satLe s.media.s0 8 ++ satLe (spareStripes s).toNat 8
    ++ satLe (freeStripes s) 4 ++ satLe s.sys.image.reserve 4
    ++ satLe lo 2 ++ satLe mean 2 ++ satLe hi 2 ++ satLe slc 2
    ++ satLe h.progHost 16 ++ satLe h.progColl 16 ++ satLe h.progFold 16 ++ satLe h.progRebuild 16 ++ List.replicate 16 0
    ++ (List.range 12).flatMap (fun n => satLe (s.get CDC_CNTn_COUNT n) 8)
    ++ satLe ((List.range 2048).filter fun d => dieState s d = 2).length 4
    ++ satLe ((List.range 2048).filter fun d => dieState s d = 3).length 4
    ++ satLe h.rebuilds 4 ++ satLe h.lostRows 4 ++ satLe (dieSum s FCH_DIEd_CNT_EPOCH_DISCARD_CNT) 8
    ++ satLe (s.get TRK_CNTn_COUNT 7) 8 ++ satLe (s.get TRK_CNTn_COUNT 6) 8
    ++ satLe (meanWear s 10000) 4 ++ natLe (b2n s.media.readOnly) 1) 512

/-- The Burrow statistics (log page C2h), 128 B. -/
def burrowLog (s : State) : List Byte :=
  fit ((List.range 8).flatMap (fun n => natLe (s.get BUR_CNTn_COUNT n) 8) ++ natLe (s.get BUR_PINNED_COUNT) 8
    ++ natLe (s.get BUR_RESIDENT_COUNT) 8 ++ natLe (s.get BUR_AVAIL_COUNT) 8) 128

/-- The units that an energy in mJ pays for (R169). -/
def energyUnits (e : Nat) : Nat := (e - 480) * 128 / 15000

/-! A holdup measurement (R172, R393). -/

/-- A write of PWR_HOLDUP_MEAS: device firmware keeps the lowest; one below the declared energy lowers the ceiling, or begins
write-through. -/
def holdupMeasured (s : State) (m : Nat) : State :=
  let declared := s.get HBM_HOLDUP_ENERGY_MJ
  let m := m % 65536
  if m = 0 then s.set PWR_HOLDUP_MEAS_ENERGY_MJ m
  else
    let low := if s.media.holdupMin = 0 then m else min m s.media.holdupMin
    let s := { s with media := { s.media with holdupMin := low } }
    if declared ≤ m then s.set PWR_HOLDUP_MEAS_ENERGY_MJ m
    else
      let u := energyUnits m
      let t :=
        if s.on HBM_CEIL_VWC ∨ s.on HBM_CEIL_WT then s
        else if 4 ≤ u then
          (if u < s.get HBM_CEIL_UNITS then (s.set HBM_CEIL_UNITS u).set HBM_STATUS_HOLDUP_LOW 1 else s)
        else smartEvent ((s.set HBM_CEIL_WT 1).set HBM_STATUS_HOLDUP_LOW 1) 4 0
      (t.set PWR_STATUS_HOLDUP_LOW 1).set PWR_HOLDUP_MEAS_ENERGY_MJ m

/-- At the end of a recovery, device firmware takes the greatest FLUSH_MARK of a flush that left no SHUTDOWN page, and writes the
lowest measurement that it keeps (R393). -/
def holdupRecovered (s : State) : State :=
  let m := s.pwr.flushMark
  let k := s.media.holdupMin
  let low := if m = 0 then k else if k = 0 then m else min m k
  let s := { s with pwr := { s.pwr with flushMark := 0 } }
  if low = 0 then s else holdupMeasured s low

end Sys2Proof.Machine
end

