-- ==== Sys2Proof/Machine/Crc.lean ====
section
/-! DEFINITION. Cyclic redundancy checks of the management channel and of compressed blocks: CRC-32C (R286, R398) and the
SMBus CRC-8 (R396). -/

namespace Sys2Proof.Machine

/-- One bit of a reflected CRC with polynomial `poly`. -/
def crcStepR (poly r : Nat) : Nat := if r % 2 = 1 then (r / 2) ^^^ poly else r / 2

/-- One byte of a reflected CRC. -/
def crcByteR (poly r : Nat) (b : Byte) : Nat := (List.range 8).foldl (fun x _ => crcStepR poly x) (r ^^^ b.toNat)

/-- CRC-32C (Castagnoli): reflected polynomial 0x82F63B78, start and final all ones. -/
def crc32c (l : List Byte) : Nat := (l.foldl (crcByteR 0x82F63B78) 0xFFFFFFFF) ^^^ 0xFFFFFFFF

/-- One bit of the SMBus CRC-8, polynomial x^8 + x^2 + x + 1. -/
def crc8Step (r : Nat) : Nat := if r / 128 % 2 = 1 then (r * 2 % 256) ^^^ 0x07 else r * 2 % 256

/-- The SMBus packet error code. -/
def crc8 (l : List Byte) : Nat :=
  l.foldl (fun r b => (List.range 8).foldl (fun x _ => crc8Step x) (r ^^^ b.toNat)) 0

end Sys2Proof.Machine
end

