-- ==== Sys2Proof/Machine/CprOps.lean ====
section
/-! DEFINITION. The compressed block: predictors and residues (R280 to R282), code tables (R283, R284), the encoder's choices
(R285) and the decoder (R286, R287). -/

namespace Sys2Proof.Machine

/-! Elements and residues. -/

/-- Element width in bits of a WIDTH code (Table 12.4). -/
def cprBits (width : Nat) : Nat := 8 * 2 ^ width

/-- The whole elements of a byte string, of `w` bytes each. -/
def cprElems (w : Nat) (d : List Byte) : Array Nat := ((List.range (d.length / w)).map fun i => leAt d (i * w) w).toArray

/-- The neighbour `k` elements before element `i`: 0 for a negative index (R280). -/
def nbr (x : Array Nat) (i k : Nat) : Nat := if i < k then 0 else x.getD (i - k) 0

/-- The prediction of element `i` (Table 12.1); `w` is the width in bits, `l` the row length. -/
def predict (w l p : Nat) (x : Array Nat) (i : Nat) : Nat :=
  let a := nbr x i 1
  match p with
  | 0 => a
  | 1 => nbr x i l
  | 2 => (a + nbr x i l) / 2
  | _ => if l = 0 then (2 * a + 2 ^ w - nbr x i 2) % 2 ^ w else (a + nbr x i l + 2 ^ w - nbr x i (l + 1)) % 2 ^ w

/-- The residue of an element, mapped to `u` (R281). -/
def residue (w x p : Nat) : Nat :=
  let r := (x + 2 ^ w - p) % 2 ^ w
  if r < 2 ^ (w - 1) then 2 * r else 2 * (2 ^ w - r) - 1

/-- The element that a mapped residue and a prediction give. -/
def unresidue (w u p : Nat) : Nat := (if u % 2 = 0 then u / 2 + p else 2 ^ w - (u + 1) / 2 + p) % 2 ^ w

/-- The class of a mapped residue: its bit length. -/
def classOf (u : Nat) : Nat := if u = 0 then 0 else Nat.log2 u + 1

/-- The mapped residues of `n` elements from element `i` on. -/
def residues (w l p : Nat) (x : Array Nat) (i n : Nat) : List Nat :=
  (List.range n).map fun k => residue w (x.getD (i + k) 0) (predict w l p x (i + k))

/-- A coded symbol with its extra bits: their value and their number. -/
structure Tok where
  sym : Nat
  extra : Nat
  n : Nat
  deriving DecidableEq, Repr

/-- The symbols of a run of `n` zero residues: the largest run that fits, then class 0 for a single one (R282). -/
def runToks (fuel n : Nat) : List Tok :=
  match fuel with
  | 0 => []
  | f + 1 =>
    if n = 0 then []
    else if n = 1 then [⟨0, 0, 0⟩]
    else
      let j := min 12 (Nat.log2 n - 1)
      ⟨65 + j, 0, 0⟩ :: runToks f (n - 2 ^ (j + 1))

/-- The symbols of a unit's residues; `z` zero residues are pending. -/
def toks (z : Nat) : List Nat → List Tok
  | [] => runToks (z + 1) z
  | u :: r =>
    if u = 0 then toks (z + 1) r
    else
      let k := classOf u
      runToks (z + 1) z ++ ⟨k, u - 2 ^ (k - 1), k - 1⟩ :: toks 0 r

/-! Code tables: 78 lengths. -/

/-- The length of symbol `s`. -/
def lenOf (t : List Nat) (s : Nat) : Nat := t.getD s 0

/-- The number of symbols of a length below symbol `n`. -/
def lenCount (t : List Nat) (k n : Nat) : Nat := ((t.take n).filter (· = k)).length

/-- Whether a table is valid: its lengths satisfy the Kraft sum exactly, or one symbol of length 1 (R283). -/
def tableOk (t : List Nat) : Bool :=
  (t.filter (· ≠ 0)).foldl (fun n k => n + 2 ^ (15 - k)) 0 = 2 ^ 15 || t.filter (· ≠ 0) = [1]

/-- The first code of a length (RFC 1951). -/
def firstCode (t : List Nat) : Nat → Nat
  | 0 => 0
  | 1 => 0
  | k + 1 => (firstCode t k + lenCount t k 78) * 2

/-- The code of a symbol. -/
def codeOf (t : List Nat) (s : Nat) : Nat := firstCode t (lenOf t s) + lenCount t (lenOf t s) s

/-- `n` bits of a number, most significant first, and least significant first. -/
def msbBits (v n : Nat) : List Bool := (List.range n).map fun i => v / 2 ^ (n - 1 - i) % 2 = 1
def lsbBits (v n : Nat) : List Bool := (List.range n).map fun i => v / 2 ^ i % 2 = 1

/-- The symbols of a built-in table in their order (R284, Table 12.2). -/
def builtinLead (t : Nat) : List Nat :=
  match t with
  | 0 => 0 :: ((List.range 13).map (77 - ·)) ++ [1, 2, 3, 4]
  | 1 => [0, 1] ++ (List.range 8).map (65 + ·) ++ (List.range 8).map (2 + ·)
  | _ =>
    let c := [2, 4, 6, 8, 11, 14].getD (t - 2) 0
    ((c :: (List.range 64).flatMap fun d => (if d + 1 ≤ c then [c - (d + 1)] else []) ++ [c + d + 1]).filter (· ≤ 64)).take 18
def builtinOrder (t : Nat) : List Nat :=
  builtinLead t ++ (List.range 78).filter fun s => !(builtinLead t).contains s

/-- The length at a position of the built-in profile (R284). -/
def profileLen (i : Nat) : Nat := if i < 18 then i / 2 + 2 else if i < 22 then 14 else 15

/-- The lengths of built-in table `t`. -/
def builtinTable (t : Nat) : List Nat := (List.range 78).map fun s => profileLen ((builtinOrder t).idxOf s)

/-! Encoding. -/

/-- The code table that a unit names: kind 0 built-in, 1 loadable, 2 dynamic; index; lengths (R286). -/
structure CprTable where
  kind : Nat
  idx : Nat
  lens : List Nat
  deriving DecidableEq, Repr

/-- Bits of coded symbols under a table; none where it lacks a symbol. -/
def tokBits (t : List Nat) : List Tok → Option (List Bool)
  | [] => some []
  | x :: r =>
    match tokBits t r with
    | none => none
    | some b => if lenOf t x.sym = 0 then none else some (msbBits (codeOf t x.sym) (lenOf t x.sym) ++ lsbBits x.extra x.n ++ b)

/-- Number of bits of coded symbols under a table. -/
def tokSize (t : List Nat) (l : List Tok) : Option Nat :=
  l.foldl (fun n x => n.bind fun n => if lenOf t x.sym = 0 then none else some (n + lenOf t x.sym + x.n)) (some 0)

/-- Bits packed into bytes from bit 0, the last byte filled with zeros. -/
def packBits (l : List Bool) : List Byte :=
  (List.range ((l.length + 7) / 8)).map fun i =>
    BitVec.ofNat 8 (((l.drop (8 * i)).take 8).zipIdx.foldl (fun v x => v + b2n x.1 * 2 ^ x.2) 0)

/-- Predictors available with row length `l` (R280). -/
def predictors (l : Nat) : List Nat := if l = 0 then [0, 3] else [0, 1, 2, 3]

/-- A choice for a unit: payload length in bytes, predictor, table. -/
abbrev UnitPick := Nat × Nat × CprTable

/-- The first choice with the shortest payload (R285): choices come in the order in which ties are decided. -/
def bestPick (l : List UnitPick) : Option UnitPick :=
  l.foldl (fun b x => match b with | some y => if x.1 < y.1 then some x else some y | none => some x) none

/-- The predictor and table of a unit of `n` elements from element `i` on (R285). -/
def pickUnit (w l : Nat) (ts : List CprTable) (x : Array Nat) (i n : Nat) : Option UnitPick :=
  bestPick ((predictors l).flatMap fun p =>
    let k := toks 0 (residues w l p x i n)
    ts.filterMap fun t => (tokSize t.lens k).map fun b => ((b + 7) / 8, p, t))

/-- Start and number of elements of each unit: 4,096 B of whole elements, the last one shorter. -/
def unitsOf (w n : Nat) : List (Nat × Nat) :=
  let m := 32768 / w
  (List.range ((n + m - 1) / m)).map fun k => (k * m, min m (n - k * m))

/-- The dynamic table built from the residues of the predictors that some tables choose (R283, R285); none where it is not
valid. -/
def dynTable (w l : Nat) (ts : List CprTable) (x : Array Nat) : Option (List Nat) :=
  let us := (unitsOf w x.size).flatMap fun u =>
    match pickUnit w l ts x u.1 u.2 with
    | some y => (toks 0 (residues w l y.2.1 x u.1 u.2)).map (·.sym)
    | none => []
  let t := ((Config.dynamicTable us).map (· % 16)).take 78
  if t.length = 78 ∧ tableOk t then some t else none

/-- The built-in tables and the tables of an effort without the dynamic one (Table 12.3). -/
def builtins : List CprTable := (List.range 8).map fun t => ⟨0, t, builtinTable t⟩
def staticTables (effort : Nat) (ld : List CprTable) : List CprTable := if effort = 0 then builtins else builtins ++ ld

/-- The tables that an encoder has for its last choice of predictors and tables (Table 12.3). -/
def effortTables (effort w l : Nat) (ld : List CprTable) (x : Array Nat) : List CprTable :=
  let base := staticTables effort ld
  let dyn (o : Option (List Nat)) : List CprTable := match o with | some t => [⟨2, 0, t⟩] | none => []
  if effort < 2 then base
  else
    let d := dynTable w l base x
    if effort = 2 then base ++ dyn d else base ++ dyn (dynTable w l (base ++ dyn d) x)

/-- A unit record (R286): the coded payload, or the source bytes where it is not shorter. Answers the kind with it. -/
def unitRecord (w l : Nat) (ts : List CprTable) (d : List Byte) (x : Array Nat) (u : Nat × Nat) : Nat × List Byte :=
  let wb := w / 8
  let raw := (d.drop (u.1 * wb)).take (u.2 * wb)
  let rawRec := (3, natLe 96 1 ++ natLe raw.length 2 ++ raw)
  match pickUnit w l ts x u.1 u.2 with
  | none => rawRec
  | some (n, p, t) =>
    if raw.length ≤ n then rawRec
    else
      match tokBits t.lens (toks 0 (residues w l p x u.1 u.2)) with
      | none => rawRec
      | some b => (t.kind, natLe (p + 4 * t.idx + 32 * t.kind) 1 ++ natLe n 2 ++ packBits b)

/-- The 40 B of a dynamic table (R286). -/
def dynBytes (t : List Nat) : List Byte := natLe (t.zipIdx.foldl (fun v x => v + x.1 * 16 ^ x.2) 0) 40

/-- A source compressed into a block (R286): width code, effort, row length, valid loadable tables, their tag. -/
def cprEncode (width effort l : Nat) (ld : List CprTable) (tag : Nat) (d : List Byte) : List Byte :=
  let w := cprBits width
  let x := cprElems (w / 8) d
  let ts := effortTables effort w l ld x
  let us := (unitsOf w x.size).map (unitRecord w l ts d x)
  let dyn := us.any (·.1 = 2)
  let tab := if dyn then (match ts.find? (·.kind = 2) with | some t => dynBytes t.lens | none => []) else []
  let body := tab ++ us.flatMap (·.2) ++ d.drop (x.size * (w / 8))
  natLe 0x7C4E 2 ++ natLe 1 1 ++ natLe (width + 4 * effort + 16 * b2n dyn) 1 ++ natLe l 2 ++ natLe us.length 2
    ++ natLe d.length 4 ++ natLe (32 + body.length) 4 ++ natLe (crc32c d) 4 ++ natLe (if us.any (·.1 = 1) then tag else 0) 4
    ++ List.replicate 8 0 ++ body

/-! Decoding. -/

/-- Why a block is not decoded (R287). -/
inductive CprErr where
  | invalid
  | mismatch
  deriving DecidableEq, Repr

/-- The symbol at the front of a bit stream: `v` and `k` are the code read so far (R283). -/
def readSym (t : List Nat) (fuel v k : Nat) (b : List Bool) : Option (Nat × List Bool) :=
  match fuel, b with
  | f + 1, c :: r =>
    let v := 2 * v + b2n c
    let k := k + 1
    if firstCode t k ≤ v ∧ v < firstCode t k + lenCount t k 78 then
      let s := (List.range 78).find? fun s => lenOf t s = k && lenCount t k s = v - firstCode t k
      s.map fun s => (s, r)
    else readSym t f v k r
  | _, _ => none

/-- A number of `n` bits, least significant first, from the front of a bit stream. -/
def readExtra (n : Nat) (b : List Bool) : Option (Nat × List Bool) :=
  if b.length < n then none else some ((b.take n).zipIdx.foldl (fun v x => v + b2n x.1 * 2 ^ x.2) 0, b.drop n)

/-- `n` mapped residues read from a bit stream of a table; the rest of the stream with them. A class above `w` and a run that
crosses the unit's end are errors (R287). -/
def readResidues (w : Nat) (t : List Nat) (fuel n : Nat) (b : List Bool) : Option (List Nat × List Bool) :=
  match fuel with
  | 0 => if n = 0 then some ([], b) else none
  | f + 1 =>
    if n = 0 then some ([], b)
    else
      match readSym t 15 0 0 b with
      | none => none
      | some (s, r) =>
        if 65 ≤ s then
          (let m := 2 ^ (s - 64)
           if n < m then none else (readResidues w t f (n - m) r).map fun x => (List.replicate m 0 ++ x.1, x.2))
        else if w < s then none
        else
          match readExtra (s - 1) r with
          | none => none
          | some (e, r) =>
            let u := if s = 0 then 0 else e + 2 ^ (s - 1)
            (readResidues w t f (n - 1) r).map fun x => (u :: x.1, x.2)

/-- Elements appended to `x` by the residues of a unit. -/
def rebuildElems (w l p : Nat) (x : Array Nat) : List Nat → Array Nat
  | [] => x
  | u :: r => rebuildElems w l p (x.push (unresidue w u (predict w l p x x.size))) r

/-- The bits of a byte string, each byte from bit 0. -/
def bitsOf (l : List Byte) : List Bool := l.flatMap fun b => lsbBits b.toNat 8

/-- The table that a unit header names. -/
def namedTable (ld : List CprTable) (dyn : Option (List Nat)) (tag ourTag kind idx : Nat) : Except CprErr (List Nat) :=
  match kind with
  | 0 => .ok (builtinTable idx)
  | 1 =>
    match ld.find? (·.idx = idx) with
    | none => .error .invalid
    | some t => if tag = ourTag then .ok t.lens else .error .mismatch
  | _ => match dyn with | some t => .ok t | none => .error .invalid

/-- One unit record of `n` elements at the front of `b`: the elements so far with it, and the rest of the block. -/
def readUnit (w l : Nat) (ld : List CprTable) (dyn : Option (List Nat)) (tag ourTag : Nat) (x : Array Nat) (n : Nat)
    (b : List Byte) : Except CprErr (Array Nat × List Byte) :=
  let h := leAt b 0 1
  let len := leAt b 1 2
  let p := h % 4
  let kind := bits h 5 2
  let pay := (b.drop 3).take len
  if b.length < 3 + len ∨ 128 ≤ h ∨ 4096 < len then .error .invalid
  else if kind = 3 then
    if len = n * (w / 8) then .ok (x ++ cprElems (w / 8) pay, b.drop (3 + len)) else .error .invalid
  else if l = 0 ∧ (p = 1 ∨ p = 2) then .error .invalid
  else
    match namedTable ld dyn tag ourTag kind (bits h 2 3) with
    | .error e => .error e
    | .ok t =>
      match readResidues w t n n (bitsOf pay) with
      | none => .error .invalid
      | some (us, rest) =>
        if 8 ≤ rest.length ∨ rest.any id then .error .invalid
        else .ok (rebuildElems w l p x us, b.drop (3 + len))

/-- The unit records of a block. -/
def readUnits (w l : Nat) (ld : List CprTable) (dyn : Option (List Nat)) (tag ourTag : Nat) (us : List (Nat × Nat))
    (x : Array Nat) (b : List Byte) : Except CprErr (Array Nat × List Byte) :=
  match us with
  | [] => .ok (x, b)
  | u :: r =>
    match readUnit w l ld dyn tag ourTag x u.2 b with
    | .error e => .error e
    | .ok (x, b) => readUnits w l ld dyn tag ourTag r x b

/-- Whether a header is as R286 gives it and the lengths and the unit count agree (R287). -/
def cprHeadOk (b : List Byte) : Bool :=
  let w := cprBits (leAt b 3 1 % 4)
  let n := leAt b 8 4
  decide (32 ≤ b.length) && leAt b 0 2 = 0x7C4E && leAt b 2 1 = 1 && decide (leAt b 3 1 < 32) && decide (leAt b 4 2 < 4096)
    && decide (1 ≤ n) && decide (n ≤ 1048576) && leAt b 6 2 = (unitsOf w (n / (w / 8))).length
    && decide (32 ≤ leAt b 12 4) && decide (leAt b 12 4 ≤ b.length) && leAt b 24 8 = 0

/-- A block decompressed (R287): `ld` are the valid loadable tables and `ourTag` is CPR_TABSET.TAG. -/
def cprDecode (ld : List CprTable) (ourTag : Nat) (b : List Byte) : Except CprErr (List Byte) :=
  if !cprHeadOk b then .error .invalid
  else
    let w := cprBits (leAt b 3 1 % 4)
    let wb := w / 8
    let n := leAt b 8 4
    let hasDyn := bits (leAt b 3 1) 4 1 = 1
    let body := (b.take (leAt b 12 4)).drop 32
    let t := (List.range 78).map fun s => leAt body 0 40 / 16 ^ s % 16
    let dyn := if hasDyn then some t else none
    if hasDyn ∧ (body.length < 40 ∨ !tableOk t ∨ leAt body 39 1 ≠ 0) then .error .invalid
    else
      match readUnits w (leAt b 4 2) ld dyn (leAt b 20 4) ourTag (unitsOf w (n / wb)) #[] (if hasDyn then body.drop 40 else body) with
      | .error e => .error e
      | .ok (x, tail) =>
        let d := x.toList.flatMap (fun v => natLe v wb) ++ tail
        if d.length = n ∧ crc32c d = leAt b 16 4 then .ok d else .error .invalid

end Sys2Proof.Machine
end

