-- ==== Sys2Proof/Machine/CkptOps.lean ====
section
/-! DEFINITION. Checkpoints: the regions of the map, chunks and manifest sealed, the two that the Sett keeps (R49 to R51). -/

namespace Sys2Proof.Machine

/-- The 128-bit value of a namespace entry (R61). -/
def nsWord (s : State) (n : Nat) : Nat :=
  nsBase s n + nsRuns s n * 2 ^ 32 + nsSlot s n * 2 ^ 64 + s.get MAP_NSn_LBA_4K n * 2 ^ 76 + s.get MAP_NSn_VALID n * 2 ^ 77

/-- Regions 1 to 3: number, address, bytes (R49). -/
def ckptRegions (s : State) : List (Nat × Nat × Nat) :=
  [(1, s.get MAP_RUN_BASE_BASE * 4096, s.get MAP_RUN_LIMIT_RUN_COUNT * 8),
   (2, (excPool s).base, (excPool s).total * 64),
   (3, s.get MAP_STRIPE_BASE_BASE * 4096, s.get MAP_STRIPE_COUNT_COUNT * 256)]

/-- A byte of the map as a checkpoint takes it; one that cannot be read is free. -/
def ckptByte (s : State) (a : Nat) : Byte := (readByte s a).getD (Config.freeByte s.freeCount a)

/-- The bytes of a region other than 0, by offset. -/
def regionCells (s : State) (a n : Nat) : List Host.Cell :=
  (List.range n).filterMap fun k => if ckptByte s (a + k) = 0 then none else some (k, ckptByte s (a + k))

/-- A chunk header (Table 2.7). -/
def chunkHeader (seq region flags index off stored src : Nat) : List Byte :=
  natLe 0xC7A1 2 ++ natLe region 1 ++ natLe flags 1 ++ natLe index 4 ++ natLe seq 8 ++ natLe off 8 ++ natLe stored 4 ++ natLe src 4

/-- A chunk or manifest page sealed: header, payload, tag (R50). -/
def sealChunk (s : State) (seq index : Nat) (header pt : List Byte) : List Byte :=
  let key := derive s (settLabel s "MAP-CKPT-") (seq / 2 ^ 16)
  header ++ sealBytes key (natLe seq 8 ++ natLe index 4) header pt

/-- Whether the verification of a compression fails on the first engine and on the second: free (R49, log entry 100). -/
def verifyFails (s : State) : Bool × State :=
  let (a, s) := s.fresh
  let (b, s) := s.fresh
  (a % 2 = 1 && b % 2 = 1, s)

/-- The payload of a chunk: compressed as 64-bit elements, or raw after NOT_SMALLER, a second VERIFY_FAIL, or without an engine
(R49). -/
def chunkPayload (s : State) (d : List Byte) : Bool × List Byte × State :=
  let blk := cprEncode 3 2 0 [] 0 d
  let (bad, s) := verifyFails s
  if d.length ≤ blk.length ∨ bad ∨ !s.on CPR_CTRL_ENABLE ∨ s.get CPR_ENG_OFF = 15 then (false, d, s) else (true, blk, s)

/-- One chunk sent to the Sett; answers its 16 B descriptor: media address, stored length, region and index (R51). -/
def putChunk (s : State) (seq index region off : Nat) (d : List Byte) : List Byte × State :=
  let (z, p, s) := chunkPayload s d
  let s := s.emit (.settChunk seq index (sealChunk s seq index (chunkHeader seq region (b2n z) index off p.length d.length) p))
  let (m, s) := s.fresh
  (natLe (m % 2 ^ 42) 8 ++ natLe p.length 4 ++ natLe (index + region * 2 ^ 24) 4, s)

/-- The chunks of a region from chunk `index` on: bytes `off` to its end, 1 MiB each. -/
def putRegion (x : List (List Byte) × State) (seq region : Nat) (n : Nat) (byte : Nat → Byte) : List (List Byte) × State :=
  (List.range (ceilDiv n 1048576)).foldl (fun y k =>
    let d := (List.range (min 1048576 (n - k * 1048576))).map fun i => byte (k * 1048576 + i)
    let (e, s) := putChunk y.2 seq y.1.length region (k * 1048576) d
    (y.1 ++ [e], s)) x

/-- Firmware's own state as region 5 carries it: free bytes. -/
def fwRegion (s : State) : List Byte × State :=
  let (n, s) := s.fresh
  s.freshBytes n

/-- The manifest (R51): its fields in the order of the rule, cut into pages of 64 KiB with header and tag (log entry 100). -/
def manifestBytes (s : State) (seq start n5 : Nat) (descs : List (List Byte)) : List Byte :=
  natLe seq 8 ++ natLe start 8 ++ natLe Config.mapVersion 2 ++ ((ckptRegions s).flatMap fun r => natLe r.2.2 8) ++ natLe 65536 8 ++ natLe n5 8
    ++ descs.flatMap id

/-- The manifest's pages sent: page i is sealed as chunk 0xFFFF_FF00 + i (R50). -/
def putManifest (s : State) (seq : Nat) (l : List Byte) : State :=
  (List.range (ceilDiv l.length 65488)).foldl (fun s i =>
    let p := fit ((l.drop (i * 65488)).take 65488) 65488
    s.emit (.settChunk seq (0xFFFFFF00 + i) (sealChunk s seq (0xFFFFFF00 + i)
      (chunkHeader seq 0 0 (0xFFFFFF00 + i) (i * 65488) 65488 65488) p))) s

/-- The checkpoint taken and complete: every chunk and the manifest in the Sett, which keeps the two newest checkpoints and the
pages from the older one's begin on (R49, R51). -/
def takeCkpt (s : State) (seq manifest : Nat) : State :=
  let start := s.get MAP_JNL_SEQ_SEQ
  let s := (ckptRegions s).foldl (fun s r => noteLines s r.2.1 r.2.2) s
  let c : Ckpt := ⟨seq, start, manifest,
    regionCells s (s.get MAP_RUN_BASE_BASE * 4096) (s.get MAP_RUN_LIMIT_RUN_COUNT * 8),
    regionCells s (excPool s).base ((excPool s).total * 64),
    regionCells s (s.get MAP_STRIPE_BASE_BASE * 4096) (s.get MAP_STRIPE_COUNT_COUNT * 256),
    ((List.range 4096).map fun n => (n, nsWord s n)).filter fun x => x.2 ≠ 0,
    s.media.migrAt, s.media.colls.filterMap fun x => if x.2.kind = .fold then some (x.1, x.2.target) else none⟩
  let x := (ckptRegions s).foldl (fun x r => putRegion x seq r.1 r.2.2 fun k => ckptByte s (r.2.1 + k)) ([], s)
  let x := putRegion x seq 4 65536 fun k => BitVec.ofNat 8 (nsWord s (k / 16) / 2 ^ (8 * (k % 16)))
  let (f, t) := fwRegion x.2
  let (descs, t) := putRegion (x.1, t) seq 5 f.length fun k => f.getD k 0
  let t := putManifest t seq (manifestBytes s seq start f.length descs)
  let kept := (c :: t.sys.sett.ckpts).take 2
  let oldest := match kept.getLast? with | some k => k.start | none => start
  { t with sys := { t.sys with sett := { t.sys.sett with
      ckpts := kept
      pages := if kept.length < 2 then t.sys.sett.pages else t.sys.sett.pages.filter fun p => oldest ≤ p.seq } } }

/-! Loading one (R53). -/

/-- Memory from `a`, `n` bytes, given the cells of a region: every other byte is 0. -/
def putCells (s : State) (a : Nat) (l : List Host.Cell) : State := l.foldl (fun s c => writeByte s (a + c.1) c.2) s

end Sys2Proof.Machine
end

