-- ==== Sys2Proof/Machine/MapCmd.lean ====
section
/-! DEFINITION. The map commands (R60, Table 2.11), retirement of staged rows (R35), the re-run queue, the journal's
own events, replay and sweep (R53, R54), and writes of the namespace table (R61). -/

namespace Sys2Proof.Machine

/-- Result codes of MAP_CMDn_CTL.RESULT (R60). -/
def mapOk : Nat := 0
def mapCompareFail : Nat := 1
def mapPoolFull : Nat := 2
def mapProbeFail : Nat := 3
def mapBadArg : Nat := 4
def mapDirty : Nat := 5
def mapBusy : Nat := 6
def mapCorrupt : Nat := 15

/-- Arguments of a MAP slot. -/
def mapArg0 (s : State) (n : Nat) : Nat := s.get MAP_CMDn_ARG0_V n
def mapArg1 (s : State) (n : Nat) : Nat := s.get MAP_CMDn_ARG1_V n
def mapArg2 (s : State) (n : Nat) : Nat := s.get MAP_CMDn_ARG2_V n

/-- Whether a run lies below MAP_RUN_LIMIT. -/
def runOk (s : State) (run : Nat) : Bool := run < s.get MAP_RUN_LIMIT_RUN_COUNT

/-- Whether a run word names a stripe that exists, when it is mapped (R60). -/
def runWordOk (s : State) (w : Nat) : Bool := bits w 0 2 ≠ 1 || bits w 2 20 < s.get MAP_STRIPE_COUNT_COUNT

/-- Whether a run entry can be read (R165). -/
def runReadable (s : State) (run : Nat) : Bool := (readLe s (runAddr s run) 8).isSome

/-- Whether the exception chain of a run can be read and is sound. -/
def excReadable (s : State) (run : Nat) : Bool :=
  let e := runEntry s run
  let p := excPool s
  runReadable s run && (bits e 37 1 = 0 ||
    (chainChecked s p run ((homeOf p run + bits e 38 3) % 2 ^ p.log2) chainFuel).isSome)

/-- Fields [35:0] of a run entry replaced: the only fields that a run-set changes (R23). -/
def runSet (s : State) (run w : Nat) : State := setRunEntry s run (setBits (runEntry s run) 0 36 w)

/-- RUN_READ. -/
def mapRunRead (s : State) (n : Nat) : State :=
  let run := mapArg0 s n
  if !runOk s run then slotDone s n mapBadArg
  else if !runReadable s run then slotDone s n mapCorrupt
  else slotDone (s.set MAP_CMDn_OUT0_V (runEntry s run) n) n mapOk

/-- RUN_CAS (R36): set only where fields [35:0] hold the expected value. -/
def mapRunCas (s : State) (n : Nat) : Option State :=
  let run := mapArg0 s n
  if !runOk s run || !runWordOk s (mapArg1 s n) || !runWordOk s (mapArg2 s n) then some (slotDone s n mapBadArg)
  else if !runReadable s run then some (slotDone s n mapCorrupt)
  else if bits (runEntry s run) 0 36 ≠ bits (mapArg1 s n) 0 36 then
    some (slotDone (s.set MAP_CMDn_OUT0_V (runEntry s run) n) n mapCompareFail)
  else if !ringFits s 1 then none
  else
    let s := touchRun (runSet s run (mapArg2 s n)) run
    let s := journal s [recRunSet run (runEntry s run)]
    some (slotDone (s.set MAP_CMDn_OUT0_V (runEntry s run) n) n mapOk)

/-- The outcome of an exception insertion by a slot: journalled, or failed with POOL_FULL or PROBE_FAIL. -/
def mapInsert (s : State) (n run e : Nat) : State :=
  match setException s run e with
  | .ok s => slotDone (journal s [recExcSet run e]) n mapOk
  | .error (.poolFull, s) => slotDone s n mapPoolFull
  | .error (.probeFail, s) => slotDone s n mapProbeFail

/-- EXC_CAS (R36): set only where a media exception of the sector holds the expected location. The entry that is set has VALID 1
whatever ARG2 gives (log entry 101). -/
def mapExcCas (s : State) (n : Nat) : Option State :=
  let run := mapArg0 s n
  let q := bits (mapArg1 s n) 48 9
  let e := setBits (mapArg2 s n) 63 1 1
  if !runOk s run || eKind e = 1 || eSector e ≠ q || q + eSpan e > 512 then some (slotDone s n mapBadArg)
  else if !excReadable s run then some (slotDone s n mapCorrupt)
  else
    match findEntry s (excPool s) run q with
    | none => some (slotDone s n mapCompareFail)
    | some (_, _, x) =>
      if eKind x ≠ 0 ∨ eLoc x ≠ bits (mapArg1 s n) 0 48 then some (slotDone s n mapCompareFail)
      else if !ringFits s 1 then none
      else some (mapInsert s n run e)

/-- EXC_DEALLOC and EXC_MARK_LOST: a span entry of the kind. -/
def mapExcSpan (s : State) (n kind : Nat) : Option State :=
  let run := mapArg0 s n
  let q := bits (mapArg1 s n) 0 9
  let span := bits (mapArg1 s n) 9 9 + 1
  if !runOk s run || q + span > 512 then some (slotDone s n mapBadArg)
  else if !excReadable s run then some (slotDone s n mapCorrupt)
  else if !ringFits s 1 then none
  else some (mapInsert s n run (mkSpanEntry kind q span))

/-- A run unmapped and its exceptions cleared, with its records (R60 RUN_CLEAR). -/
def clearRun (s : State) (run : Nat) : State :=
  let s := removeEntries s (excPool s) run fun _ => true
  let s := touchRun (runSet s run 0) run
  journal s [recRunSet run 0, recExcClear run false]

/-- RUN_CLEAR. -/
def mapRunClear (s : State) (n : Nat) : Option State :=
  let run := mapArg0 s n
  if !runOk s run then some (slotDone s n mapBadArg)
  else if !excReadable s run then some (slotDone s n mapCorrupt)
  else if !ringFits s 2 then none
  else some (slotDone (clearRun s run) n mapOk)

/-- A watch opened on a run: the lowest free watch slot (R40; which slot is log entry 12). -/
def openWatch (s : State) (run : Nat) : Option (Nat × State) :=
  (tfree s.map.watches 0 4096).map fun w =>
    let staged := (runEntries s (stgPool s) run).map fun x => x.2.2
    (w, { s with map := { s.map with watches := tput s.map.watches w ⟨run, false, staged⟩ } })

/-- Whether the run entry and the staging chain of a run can be read (R165). -/
def stgReadable (s : State) (run : Nat) : Bool := runReadable s run && (!runStaged s run || (walkStaging s run 512).isSome)

/-- RERUN_OPEN. -/
def mapRerunOpen (s : State) (n : Nat) : State :=
  let run := mapArg0 s n
  if !runOk s run then slotDone s n mapBadArg
  else if !stgReadable s run then slotDone s n mapCorrupt
  else
    match openWatch s run with
    | none => slotDone s n mapBusy
    | some (w, s) => slotDone (s.set MAP_CMDn_OUT0_V w n) n mapOk

/-- The coverage of one staging entry taken away where it still holds (R37, R40): sector `q` at staging index `i`. -/
def unstage (s : State) (run q i : Nat) : State :=
  if stagedAt s run q = some i then
    match replaceSpan s (stgPool s) run q q none with
    | .ok s => s
    | .error _ => s
  else s

/-- The sectors of a staging entry: sector and staging index. -/
def stgSectors (e : Nat) : List (Nat × Nat) :=
  (List.range (eSpan e)).map fun d => (eSector e + d, bits e 0 20 + d)

/-- A watch closed. -/
def closeWatch (s : State) (w : Nat) : State := { s with map := { s.map with watches := tdel s.map.watches w } }

/-- The commit of watch `id` with fields [35:0] of the run entry (R40): one update, or DIRTY; the watch closes either way
(log entry 14). None while the journal ring has no room. -/
def rerunCommit (s : State) (id word : Nat) : Option (State × Nat) :=
  match tget s.map.watches id with
  | none => some (s, mapBadArg)
  | some w =>
    if !runWordOk s word then some (s, mapBadArg)
    else if !excReadable s w.run then some (s, mapCorrupt)
    else if w.dirty then some (closeWatch s id, mapDirty)
    else if !ringFits s 2 then none
    else
      let s := closeWatch s id
      let s := removeEntries s (excPool s) w.run fun e => eKind e = 0
      let s := runSet s w.run word
      let s := w.staged.foldl (fun s e => (stgSectors e).foldl (fun s x => unstage s w.run x.1 x.2) s) s
      let s := touchRun s w.run
      some (journal s [recRunSet w.run (runEntry s w.run), recExcClear w.run true], mapOk)

/-- RERUN_COMMIT. -/
def mapRerunCommit (s : State) (n : Nat) : Option State :=
  (rerunCommit s (mapArg0 s n) (mapArg1 s n)).map fun x => slotDone x.1 n x.2

/-- A stripe header written, with the walker's cache; a free stripe forgets its failed row and its rows that wait (R24, R35). -/
def writeStripeHdr (s : State) (stripe h : Nat) : State :=
  let s := cacheWrite (writeLe s (stripeAddr s stripe) 8 h) stripe 0 8 h
  if stripeState h = 0 then
    { s with map := { s.map with
      failedRow := tdel s.map.failedRow stripe
      heldRows := s.map.heldRows.filter fun x => x.stripe ≠ stripe } }
  else s

/-- What device firmware notes of a stripe whose state changes: a stripe that opens has an empty signature, and may come from the reserve;
one that closes has its age from now on (R134, R144, R155). -/
def noteStripe (s : State) (stripe h : Nat) : State :=
  let old := stripeState (stripeHdr s stripe)
  if stripeState h = 0 then
    { s with media := { s.media with
      closedUs := tdel s.media.closedUs stripe
      fromReserve := s.media.fromReserve.filter (· ≠ stripe)
      toClose := s.media.toClose.filter (· ≠ stripe) } }
  else if old = 0 then
    let s := zeroBytes s (stripeAddr s stripe + 152) 64
    if reserveStops s && !s.media.fromReserve.contains stripe then
      { s with media := { s.media with fromReserve := s.media.fromReserve ++ [stripe] } }
    else s
  else if stripeState h = 2 ∧ old = 1 then { s with media := { s.media with closedUs := tput s.media.closedUs stripe s.timeUs } }
  else s

/-- A stripe header written by a STRIPE_HDR command or by device firmware. -/
def putStripeHdr (s : State) (stripe h : Nat) : State := writeStripeHdr (noteStripe s stripe h) stripe h

/-- A stripe header replayed: the signature of a stripe in use names every run, since rows written after its checkpoint are not in
it (R155). -/
def replayStripeHdr (s : State) (stripe h : Nat) : State :=
  let s := writeStripeHdr s stripe h
  if stripeState h = 0 then s else writeBytes s (stripeAddr s stripe + 152) (List.replicate 64 0xFF)

/-- STRIPE_HDR (R24). -/
def mapStripeHdr (s : State) (n : Nat) : Option State :=
  let stripe := mapArg0 s n
  if stripe ≥ s.get MAP_STRIPE_COUNT_COUNT then some (slotDone s n mapBadArg)
  else if !ringFits s 1 then none
  else some (slotDone (journal (putStripeHdr s stripe (mapArg1 s n)) [recStripeHdr stripe (mapArg1 s n)]) n mapOk)

/-- STRIPE_MEMBER (R24, R111, R453). -/
def mapStripeMember (s : State) (n : Nat) : Option State :=
  let stripe := mapArg0 s n
  let p := bits (mapArg1 s n) 0 6
  let w := bits (mapArg1 s n) 6 32
  if stripe ≥ s.get MAP_STRIPE_COUNT_COUNT ∨ p > 33 then some (slotDone s n mapBadArg)
  else if !ringFits s 1 then none
  else some (slotDone (journal (putMember s stripe p w) [recStripeMember stripe p w]) n mapOk)

/-- Result kind and location of a LOOKUP (R60). -/
def xlatKind : Xlat → Nat × Nat
  | .media a _ _ => (0, a)
  | .staging i => (1, i)
  | .burrow f => (2, f)
  | .zeros => (3, 0)
  | .unrecovered => (4, 0)
  | .corrupt => (15, 0)
  | .badMedia a => (15, a)

/-- LOOKUP. -/
def mapLookup (s : State) (n : Nat) : State :=
  let ns := mapArg0 s n
  let sec := lbaSector s ns (mapArg1 s n)
  if ns > 4095 ∨ !nsValid s ns ∨ sec / 512 ≥ nsRuns s ns then slotDone s n mapBadArg
  else
    let (x, s) := lookup s (nsBase s ns + sec / 512) (sec % 512)
    let (k, loc) := xlatKind x
    if k = 15 then slotDone s n mapCorrupt
    else slotDone ((s.set MAP_CMDn_OUT0_V k n).set MAP_CMDn_OUT1_V loc n) n mapOk

/-- The record that JNL_APPEND's arguments spell (R44). -/
def argRec (a0 a1 : Nat) : JRec := ⟨bits a0 0 8, bits a0 8 8, bits a0 32 32, a1⟩

/-- A record of firmware appended. A CHECKPOINT record ends the checkpoint that it names, which is taken in the same step
(R43, R51, log entry 100). -/
def appendFw (s : State) (r : JRec) : State :=
  if r.ty = 0x0D then
    let s := journal (takeCkpt s r.key (bits r.val 0 48)) [r]
    { s with map := { s.map with manifest := bits r.val 0 48, ckptSeq := r.key } }
  else
    let s := journal s [r]
    if r.ty = 0x0B then { s with media := { s.media with migrAt := tput s.media.migrAt r.key r.val } } else s

/-- JNL_APPEND: OUT0 is the sequence of the page that the record entered. -/
def mapJnlAppend (s : State) (n : Nat) : Option State :=
  if !ringFits s 1 then none
  else
    let q := (openPage s).seq
    some (slotDone ((appendFw s (argRec (mapArg0 s n) (mapArg1 s n))).set MAP_CMDn_OUT0_V q n) n mapOk)

/-- JNL_SYNC: the open page closed, and DONE when every page up to the sequence is durable (R45, R60). -/
def mapJnlSync (s : State) (n : Nat) : State :=
  let s := if s.map.page.isSome then updStall (closePage s false) else s
  let q := s.map.lastClosed
  let s := s.set MAP_CMDn_OUT0_V q n
  if durableTo s q then slotDone s n mapOk
  else { s with map := { s.map with syncWait := s.map.syncWait ++ [(n, q)] } }

/-- The command in a slot, by its OP: none where it waits for the journal ring. Where BUSY and BAD_ARG both apply the result is
BUSY (log entry 101). -/
def mapBody (s : State) (n : Nat) : Option State :=
  let op := s.get MAP_CMDn_CTL_OP n
  if op = 0x01 then some (mapRunRead s n)
  else if op = 0x0B then some (mapLookup s n)
  else if op = 0x0C then mapJnlAppend s n
  else if op = 0x0D then some (mapJnlSync s n)
  else if jnlHard s then some (slotDone s n mapBusy)
  else if op = 0x02 then mapRunCas s n
  else if op = 0x03 then mapExcCas s n
  else if op = 0x04 then mapExcSpan s n 2
  else if op = 0x05 then mapExcSpan s n 3
  else if op = 0x06 then mapRunClear s n
  else if op = 0x07 then some (mapRerunOpen s n)
  else if op = 0x08 then mapRerunCommit s n
  else if op = 0x09 then mapStripeHdr s n
  else if op = 0x0A then mapStripeMember s n
  else some (slotDone s n mapBadArg)

/-- The run that a slot's command updates; none for a command that updates no run. -/
def mapSlotRun (s : State) (n : Nat) : Option Nat :=
  let op := s.get MAP_CMDn_CTL_OP n
  if 2 ≤ op ∧ op ≤ 6 then some (mapArg0 s n)
  else if op = 0x08 then (tget s.map.watches (mapArg0 s n)).map (·.run)
  else none

/-- Whether a slot that waits for the ring updates the same run: commands to one run keep the order of their GO writes (R60). -/
def runWaits (s : State) (n : Nat) : Bool :=
  match mapSlotRun s n with
  | none => false
  | some run => s.map.ringWait.any fun m => mapSlotRun s m = some run

/-- A slot run now, or queued to wait for the journal ring or behind a command to the same run (R45, R60). -/
def mapRun (s : State) (n : Nat) : State :=
  match (if runWaits s n then none else mapBody s n) with
  | some t => t
  | none => { s with map := { s.map with ringWait := s.map.ringWait ++ [n] } }

/-- The lines that a slot's command reads of a run: its entry, with the exception chain or the staging chain (R165). -/
def slotLines (s : State) (n op : Nat) : List Nat :=
  let run := if op = 0x08 then (tget s.map.watches (mapArg0 s n)).map (·.run) else if op ≤ 0x07 then some (mapArg0 s n) else none
  match run with
  | none => []
  | some run =>
    if !runOk s run then []
    else runAddr s run :: (if op ≤ 0x02 then [] else if op = 0x07 then stgLines s run else excLines s run)

/-- A GO write of a MAP slot with command code `op` (R60). A slot that still runs a command takes no other; while
MAP_CTRL.ENABLE is 0 the slot starts nothing (log entry 15). -/
def mapGo (s : State) (n op : Nat) : State :=
  if 64 ≤ n ∨ s.on MAP_CMDn_CTL_GO n ∨ !s.on MAP_CTRL_ENABLE then s
  else mapRun (noteAll ((s.set MAP_CMDn_CTL_OP op n).set MAP_CMDn_CTL_GO 1 n) (slotLines s n op)) n

def execRunRead (slot : Nat) (s : State) : Host.Outcome State Fault Refusal := act .mapSlots s fun s => mapGo s slot 0x01
def execRunCas (slot : Nat) (s : State) : Host.Outcome State Fault Refusal := act .mapSlots s fun s => mapGo s slot 0x02
def execExcCas (slot : Nat) (s : State) : Host.Outcome State Fault Refusal := act .mapSlots s fun s => mapGo s slot 0x03
def execExcDealloc (slot : Nat) (s : State) : Host.Outcome State Fault Refusal := act .mapSlots s fun s => mapGo s slot 0x04
def execExcMarkLost (slot : Nat) (s : State) : Host.Outcome State Fault Refusal := act .mapSlots s fun s => mapGo s slot 0x05
def execRunClear (slot : Nat) (s : State) : Host.Outcome State Fault Refusal := act .mapSlots s fun s => mapGo s slot 0x06
def execRerunOpen (slot : Nat) (s : State) : Host.Outcome State Fault Refusal := act .mapSlots s fun s => mapGo s slot 0x07
def execRerunCommit (slot : Nat) (s : State) : Host.Outcome State Fault Refusal := act .mapSlots s fun s => mapGo s slot 0x08
def execStripeHdr (slot : Nat) (s : State) : Host.Outcome State Fault Refusal := act .mapSlots s fun s => mapGo s slot 0x09
def execStripeMember (slot : Nat) (s : State) : Host.Outcome State Fault Refusal := act .mapSlots s fun s => mapGo s slot 0x0A
def execLookup (slot : Nat) (s : State) : Host.Outcome State Fault Refusal := act .mapSlots s fun s => mapGo s slot 0x0B
def execJnlAppend (slot : Nat) (s : State) : Host.Outcome State Fault Refusal := act .mapSlots s fun s => mapGo s slot 0x0C
def execJnlSync (slot : Nat) (s : State) : Host.Outcome State Fault Refusal := act .mapSlots s fun s => mapGo s slot 0x0D

/-- A SHUTDOWN page closed: an empty one where no page is open, which waits while the ring is full (R45). -/
def closeShutdown (s : State) : State :=
  if s.map.page.isNone ∧ ringPages ≤ ringUsed s then { s with map := { s.map with shutWait := true } }
  else updStall (closePage { s with map := { s.map with shutWait := false } } true)

/-- Slots and a SHUTDOWN page that waited for the ring, tried again in order (R45). -/
def ringRetry (s : State) : State :=
  let s := s.map.ringWait.foldl mapRun { s with map := { s.map with ringWait := [] } }
  if s.map.shutWait then closeShutdown s else s

/-- MAP_STATUS.READY: ENABLE is 1 and REPLAY is 0 (R59). -/
def updReady (s : State) : State := s.set MAP_STATUS_READY (b2n (s.on MAP_CTRL_ENABLE && !s.on MAP_CTRL_REPLAY))

/-- The state of a copy after a program of its page ended: verified; programmed again after the first FAIL; lost after the
second (R46). -/
def afterProgram (c : PageCopy) (pass : Bool) : PageCopy :=
  match c with
  | .programming n => if pass then .verified else if n < 2 then .programming (n + 1) else .lost
  | x => x

/-- Whether exactly one copy holds a page for good. -/
def oneCopy (c : JClosed) : Bool := (c.copyA = .lost) != (c.copyB = .lost)

/-- A recovery whose RECOVERY record is durable: REPLAY is cleared (R53). -/
def recovDone (s : State) : State :=
  match s.map.recov with
  | some r =>
    (match r.wait with
      | some q => if durableTo s q then updReady ({ s with map := { s.map with recov := none } }.set MAP_CTRL_REPLAY 0) else s
      | none => s)
  | none => s

/-- What the new state of some closed pages leads to: SETT_DEGRADED, the loss of the Sett, durability (R46, R416). -/
def pagesEnded (s : State) (l : List JClosed) : State :=
  if l.any fun c => c.copyA = .lost && c.copyB = .lost then fatalFault s 2
  else
    let s := if l.any fun c => pageDurable c && oneCopy c then s.set MAP_STATUS_SETT_DEGRADED 1 else s
    recovDone (ringRetry (finishSyncs (advanceDurable s)))

/-- A copy of a page that can no longer be programmed because the copy is fenced (R46). -/
def fencedCopy (s : State) (b : Bool) (c : PageCopy) : PageCopy :=
  match c with
  | .programming n => if settFenced s b then .lost else .programming n
  | x => x

/-- The closed pages looked at again after a die of the Sett has been fenced: the surviving copy makes them durable (R46). -/
def settRecheck (s : State) : State :=
  let l := s.map.closed.map fun c => { c with copyA := fencedCopy s false c.copyA, copyB := fencedCopy s true c.copyB }
  if l = s.map.closed then s
  else pagesEnded { s with map := { s.map with closed := l } } (l.filter fun c => !s.map.closed.contains c)

/-! Retirement (R35). -/

/-- Whether a row's items are one whole run laid down as a new stripe row: 512 sectors of one run in place (R35). -/
def fullRun (items : List StagedItem) : Option Nat :=
  match items with
  | [] => none
  | x :: _ => if items.length = 512 && items.all (fun y => y.run = x.run && y.k = y.q) then some x.run else none

/-- The consecutive groups of a rising list of sectors: first and length. -/
def spansOf (l : List Nat) : List (Nat × Nat) :=
  l.foldr (fun q r => match r with
    | (a, n) :: t => if q + 1 = a then (q, n + 1) :: t else (q, 1) :: (a, n) :: t
    | [] => [(q, 1)]) []

/-- The exceptions of the spans of some sectors cleared: the spans that could be. A span whose clearing needs a bucket that is not
there keeps its exceptions, and its sectors are not retired (R35, R38). -/
def clearSpans (s : State) (run : Nat) (still : List StagedItem) : State × List (Nat × Nat) :=
  (spansOf (still.map fun x => x.q)).foldl (fun y x =>
    match replaceSpan y.1 (excPool y.1) run x.1 (x.1 + x.2 - 1) none with
    | .ok t => (t, y.2 ++ [x])
    | .error e => (insertFail y.1 run e, y.2)) (s, [])

/-- A full-run row retired: RUN_SET, and the exceptions of the sectors that the entry still covers cleared (R35, R38). -/
def retireRun (s : State) (stripe row run : Nat) (items : List StagedItem) : State :=
  let still := (items.filter fun x => stagedAt s run x.q = some x.idx)
  let qs := still.map fun x => x.q
  if qs = [] then s
  else
    let kg := match items with | x :: _ => x.keygen | [] => 0
    let w := 1 + stripe * 4 + row * 2 ^ 22 + kg * 2 ^ 35
    let s := touchRun (runSet s run w) run
    let (s, gone) :=
      if qs.length = 512 then
        (journal (removeEntries s (excPool s) run fun _ => true) [recRunSet run w, recExcClear run false], still)
      else
        let (t, spans) := clearSpans s run still
        (journal t (recRunSet run w :: spans.map fun x => recExcDel run x.1 x.2),
          still.filter fun x => spans.any fun y => decide (y.1 ≤ x.q) && decide (x.q < y.1 + y.2))
    let s := gone.foldl (fun s x => unstage s run x.q x.idx) s
    gone.foldl (fun s x => durMark s x.idx (jnlLast s)) s

/-- One staged sector retired as a media exception where its staging entry still covers it; a failed insertion leaves it
staged (R35, R38). -/
def retireOne (s : State) (stripe row : Nat) (x : StagedItem) : State :=
  if stagedAt s x.run x.q ≠ some x.idx then s
  else
    let m := memberMedia s stripe row (posOf row (x.k / 16)) (x.k / 4 % 4) (x.k % 4)
    let e := mkMediaEntry x.q m x.keygen
    match setException s x.run e with
    | .ok s =>
      let s := unstage (journal s [recExcSet x.run e]) x.run x.q x.idx
      durMark s x.idx (jnlLast s)
    | .error (_, s) => s

/-- Whether a held row may be retired now: it is the next row of its stripe, below any failed row, and map updates do
not stall (R35, R45, R48). -/
def mayRetire (s : State) (h : HeldRow) : Bool :=
  h.row = stripeRows (stripeHdr s h.stripe) && (match tget s.map.failedRow h.stripe with | some f => h.row < f | none => true)
    && !jnlHard s && ringFits s (1 + 2 * h.items.length)

/-- A verified row retired: ROWS advanced and journalled with the first retire, then its sectors (R35). -/
def retireRow (s : State) (h : HeldRow) : State :=
  let hdr := setBits (stripeHdr s h.stripe) 4 14 (h.row + 1)
  let s := { s with map := { s.map with heldRows := s.map.heldRows.filter fun x => x.stripe ≠ h.stripe || x.row ≠ h.row } }
  let s := journal (putStripeHdr s h.stripe hdr) [recStripeHdr h.stripe hdr]
  match fullRun h.items with
  | some run => retireRun s h.stripe h.row run h.items
  | none => h.items.foldl (fun s x => retireOne s h.stripe h.row x) s

/-- ROW_RETIRE (R35). -/
def execRowRetire (stripe row : Nat) (s : State) : Host.Outcome State Fault Refusal :=
  act .rowRetire s fun s =>
    match s.map.heldRows.find? fun x => x.stripe = stripe && x.row = row with
    | none => s
    | some h => if s.on MAP_CTRL_ENABLE ∧ mayRetire s h then durKick (retryProbes (retireRow s h)) else s

/-! The re-run queue's read (R5, R39). -/

/-- A read of MAP_RERUN_POP: the head is answered and removed; the register then holds the next entry. -/
def rerunPop (s : State) : Nat × State :=
  match s.map.rerun with
  | [] => (0, s)
  | (run, reason) :: r =>
    (run + reason * 2 ^ 29 + 2 ^ 31, ({ s with map := { s.map with rerun := r } }).set MAP_RERUN_DEPTH_DEPTH r.length)

/-- MAP_RERUN_POP. -/
def execMapRerunPop (s : State) : Host.Outcome State Fault Refusal :=
  act .journal s fun s => let (v, t) := rerunPop s; { t with bus := .data v }

/-! The journal's own events. -/

/-- JOURNAL_FLUSH_TIMER: FLUSH_MS after its first record the open page is closed; 0 disables the trigger (R45). -/
def execJournalFlushTimer (s : State) : Host.Outcome State Fault Refusal :=
  act .journal s fun s =>
    match s.map.page with
    | some p => if s.get MAP_JNL_CFG_FLUSH_MS ≠ 0 ∧ p.recs ≠ [] ∧ p.firstUs + 1000 * s.get MAP_JNL_CFG_FLUSH_MS ≤ s.timeUs then updStall (closePage s false) else s
    | none => s

/-- A write of MAP_JNL_SYNC.SYNC: the open page closed, if there is one (R45). -/
def execMapJnlSyncSync (s : State) : Host.Outcome State Fault Refusal :=
  act .journal s fun s => if s.map.page.isSome then updStall (closePage s false) else s


/-- A write of MAP_JNL_SYNC.SHUTDOWN (R45). -/
def execMapJnlSyncShutdown (s : State) : Host.Outcome State Fault Refusal :=
  act .journal s fun s => if s.on MAP_CTRL_ENABLE then closeShutdown s else s

/-- MAP_CKPT_BEGIN written: the replay base moves, and a JNL_HARD stall may end (R48). -/
def execMapCkptBeginWrite (seq : Nat) (s : State) : Host.Outcome State Fault Refusal :=
  act .journal s fun s => updStall (s.set MAP_CKPT_BEGIN_SEQ seq)

/-! Replay and sweep. -/

/-- Record `k` of the page at `a` (Table 2.5). -/
def pageRec (s : State) (a k : Nat) : JRec :=
  let w0 := readLeD s (a + 64 + 16 * k) 8
  ⟨bits w0 0 8, bits w0 8 8, bits w0 32 32, readLeD s (a + 64 + 16 * k + 8) 8⟩

/-- Whether the replay engine accepts a record (R59 MAP_REPLAY_CTL.ERR). -/
def recOk (s : State) (r : JRec) : Bool :=
  if 0x11 ≤ r.ty ∧ r.ty ≤ 0x7F then false
  else if 0x01 ≤ r.ty ∧ r.ty ≤ 0x04 then runOk s r.key && (r.ty ≠ 0x02 || eKind r.val ≠ 1)
  else if r.ty = 0x05 ∨ r.ty = 0x06 then decide (r.key < s.get MAP_STRIPE_COUNT_COUNT)
  else true

/-- The records of a page when its header and every record pass the engine's checks (R59). -/
def replayRecs (s : State) (a : Nat) : Option (List JRec) :=
  match readBytes s a 64 with
  | none => none
  | some _ =>
    let n := readLeD s (a + 4) 4
    let recs := (List.range n).map (pageRec s a)
    if readLeD s a 2 = 0xA71E ∧ readLeD s (a + 32) 1 / 2 = 0 ∧ n ≤ pageRecs
        ∧ (readBytes s (a + 64) (16 * n)).isSome ∧ recs.all (recOk s) then some recs else none

/-- Whether the map structures that a record's application reads can be read (R165): the run entry, and for an exception record
the run's chain, or the window in which its first bucket is claimed. -/
def recReadable (s : State) (r : JRec) : Bool :=
  let p := excPool s
  if r.ty = 0x01 then runReadable s r.key
  else if 0x02 ≤ r.ty ∧ r.ty ≤ 0x04 then
    excReadable s r.key && (runExc s r.key || decide (r.ty ≠ 0x02)
      || (List.range 8).all fun d => (readBytes s (p.base + (homeOf p r.key + d) % 2 ^ p.log2 * 64) 64).isSome)
  else true

/-- One record applied by the replay engine; types other than 0x01 to 0x06 are skipped (R44). An exception record for which there
is no bucket is left out, without an error (log entry 101). -/
def applyRec (s : State) (r : JRec) : State :=
  if r.ty = 0x01 then runSet s r.key r.val
  else if r.ty = 0x02 then (match setEntry s (excPool s) r.key r.val with | .ok t => t | .error _ => s)
  else if r.ty = 0x03 then
    (match replaceSpan s (excPool s) r.key (bits r.val 0 9) (bits r.val 0 9 + bits r.val 9 9) none with
      | .ok t => t
      | .error _ => s)
  else if r.ty = 0x04 then removeEntries s (excPool s) r.key fun e => bits r.val 0 1 = 0 || eKind e = 0
  else if r.ty = 0x05 then replayStripeHdr s r.key r.val
  else if r.ty = 0x06 then putMember s r.key (bits r.val 0 6) (bits r.val 6 32)
  else s

/-- The lines of the map that a record's application reads (R165). -/
def recLines (s : State) (r : JRec) : List Nat :=
  if 0x01 ≤ r.ty ∧ r.ty ≤ 0x04 then runAddr s r.key :: (if r.ty = 0x01 then [] else excLines s r.key) else []

/-- Records applied in order up to the first that meets a data error; answers whether all were applied. -/
def applyRecs (s : State) (l : List JRec) : State × Bool :=
  match l with
  | [] => (s, true)
  | r :: t =>
    let u := noteAll s (recLines s r)
    if recReadable s r then applyRecs (applyRec u r) t else (u, false)

/-- The buckets of the exception pool that some run reaches (R54). -/
def reached (s : State) : List Nat :=
  (List.range (s.get MAP_RUN_LIMIT_RUN_COUNT)).flatMap fun run => chainOf s (excPool s) run

/-- The overflow free list of buckets that no chain uses, in ascending order (R54, log entry 12). -/
def freeListOf (lo hi : Nat) (used : List Nat) : FreeList :=
  let top := used.foldl (fun m b => max m (b + 1)) lo
  ⟨(List.range (top - lo)).filterMap fun d => if used.contains (lo + d) then none else some (lo + d), top, hi⟩

/-- The parity group of a byte of a window's parity region (R164): the inverse of `parityAddr`'s slot, 15 × 47 = 1 mod 64. -/
def parityGroup (p x : Nat) : Nat := (x - p) / 4096 * 64 + ((x - p) % 4096 / 64 + 49) * 47 % 64

/-- Whether an address holds parity of a group that lies wholly from `a` to below `b` in some window. -/
def parityIn (s : State) (a b x : Nat) : Bool :=
  (List.range 16).any fun w =>
    match winOf s w with
    | some (wb, z, p) =>
      let g := parityGroup p x
      decide (p ≤ x) && decide (g * 960 < z) && parityAddr wb p (wb + g * 960 + x % 64) = x && decide (a ≤ wb + g * 960)
        && decide (min (wb + g * 960 + 960) (wb + z) ≤ b)
    | none => false

/-- The ranges from `a` to below `b` that cover a parity group in part only: address and bytes. -/
def edgeRanges (s : State) (a b : Nat) : List (Nat × Nat) :=
  ((groupsIn s a (b - a)).filter fun g => decide (g.1 < a) || decide (b < g.2.1)).map fun g => (max a g.1, min b g.2.1 - max a g.1)

/-- Memory from `a` to below `b` written to zero, with its parity (R164): the groups at the edges in part, the whole groups at
once with their parity lines. -/
def clearRange (s : State) (a b : Nat) : State :=
  let s := (edgeRanges s a b).foldl (fun s x => zeroBytes s x.1 x.2) s
  { s with
    mem := s.mem.filter fun c => (decide (c.1 < a) || decide (b ≤ c.1)) && !parityIn s a b c.1
    hbm := { s.hbm with unreadable := s.hbm.unreadable.filter fun l => decide (l * 64 < a) || decide (b ≤ l * 64) } }

/-- The owner entries of every member of a stripe in the open or closed state written (R54). -/
def sweepOwner (s : State) (stripe : Nat) : State :=
  let st := stripeState (stripeHdr s stripe)
  if st = 1 ∨ st = 2 then (List.range 34).foldl (fun s p => putMember s stripe p (memberWord s stripe p)) s else s

/-- The sweep of R54. -/
def sweep (s : State) : State :=
  let p := excPool s
  let used := reached s
  let s := (List.range (s.get MAP_RUN_LIMIT_RUN_COUNT)).foldl (fun s run =>
    setRunEntry s run (setBits (setBits (runEntry s run) 36 1 0) 41 1 0)) s
  let s := (List.range p.total).foldl (fun s b =>
    if hdrUsed (bWord s p b 0) && !used.contains b then zeroBytes s (p.base + b * 64) 64 else s) s
  let s := { s with map := { s.map with excFree := freeListOf (2 ^ p.log2) p.total (used.filter fun b => 2 ^ p.log2 ≤ b) } }
  let s := poolHigh (s.set MAP_EXC_USED_USED used.length)
  let g := stgPool s
  let s := clearRange s g.base (g.base + g.total * 64)
  let s := { s with map := { s.map with stgFree := ⟨[], 2 ^ g.log2, g.total⟩ } }
  let o := s.get MAP_OWNER_BASE_BASE * 4096
  let s := clearRange s o (o + 2048 * 16384 * 4)
  (List.range (s.get MAP_STRIPE_COUNT_COUNT)).foldl sweepOwner s

/-! The namespace table (R61). -/

/-- Whether the run range of a valid entry other than `n` overlaps the range. An empty range counts as overlapping where it lies
strictly inside another (log entry 101). -/
def nsOverlaps (s : State) (n base count : Nat) : Bool :=
  (List.range 4096).any fun m =>
    m ≠ n && nsValid s m && decide (base < nsBase s m + nsRuns s m) && decide (nsBase s m < base + count)

/-- A namespace entry's fields set from its 128-bit value. -/
def setNs (s : State) (n v : Nat) : State :=
  let s := s.set MAP_NSn_BASE_RUN (bits v 0 29) n
  let s := s.set MAP_NSn_RUN_COUNT (bits v 32 29) n
  let s := s.set MAP_NSn_KEY_SLOT (bits v 64 12) n
  let s := s.set MAP_NSn_LBA_4K (bits v 76 1) n
  s.set MAP_NSn_VALID (bits v 77 1) n

/-- A write of namespace entry `n`: refused with NS_OVERLAP when it sets VALID over a range that another valid entry
holds, or that reaches past MAP_RUN_LIMIT (R61). A change of the key slot invalidates the namespace's segments (R179). -/
def nsWrite (s : State) (n v : Nat) : State :=
  let base := bits v 0 29
  let count := bits v 32 29
  if 4096 ≤ n then s
  else if bits v 77 1 = 1 ∧ (nsOverlaps s n base count ∨ s.get MAP_RUN_LIMIT_RUN_COUNT < base + count) then
    s.set MAP_STATUS_NS_OVERLAP 1
  else setNs (if nsValid s n && nsSlot s n ≠ bits v 64 12 then invalRuns s (nsBase s n) (nsRuns s n) else s) n v

def execMapNsWrite (n value : Nat) (s : State) : Host.Outcome State Fault Refusal := act .journal s fun s => nsWrite s n value

end Sys2Proof.Machine
end

