-- ==== Sys2Proof/Machine/MbxOps.lean ====
section
/-! DEFINITION. Mailbox channels, doorbells, core control and interrupt sources (R320 to R332). -/

namespace Sys2Proof.Machine

/-- The doorbell register number of a master identity: cores, the out-of-band endpoint, the boot ROM (R315, R334). -/
def dbIndex (id : Nat) : Option Nat :=
  if 0x100 ≤ id ∧ id < 0x140 then some (id - 0x100)
  else if id = 0x180 then some 64
  else if id = 0x1C0 then some 65
  else none

/-- Whether an identity is one of Table 14.1. -/
def idValid (id : Nat) : Bool := decide (id < 256) || (dbIndex id).isSome

/-- DB of a core's LOCAL: an unmasked doorbell bit is set (R331). -/
def updDb (s : State) (r : Nat) : State :=
  if r < 64 then
    s.set MBX_COREn_LOCAL_DB (b2n (decide (s.get MBX_DBr_DB r &&& (0xFFFFFFFF - s.get MBX_DBMASKr_MASK r) ≠ 0))) r
  else s

/-- The MSI-X vector of a host function's doorbell fired when an unmasked bit is set (R331). -/
def hostDbFire (s : State) (f bit : Nat) : State :=
  if bits (s.get HOST_HDBMASK_MASK f) bit 1 = 0 ∧ s.on HOST_HVEC_EN f ∧ s.get HOST_HVEC_VECTOR f < vecCount s f then
    fireVec s f (s.get HOST_HVEC_VECTOR f)
  else s

/-- One doorbell bit of a master set (R326, R330, R331). -/
def setDoorbell (s : State) (id bit : Nat) : State :=
  if id < 256 then hostDbFire (s.set HOST_HDB_DB (setBits (s.get HOST_HDB_DB id) bit 1 1) id) id bit
  else
    match dbIndex id with
    | some r => updDb (s.set MBX_DBr_DB (setBits (s.get MBX_DBr_DB r) bit 1 1) r) r
    | none => s

/-! Channels. -/

def chSender (s : State) (c : Nat) : Nat := s.get MBX_BINDc_SENDER c
def chReceiver (s : State) (c : Nat) : Nat := s.get MBX_BINDc_RECEIVER c

/-- A channel's timer stopped. -/
def stopTimer (s : State) (c : Nat) : State := { s with mbx := { s.mbx with timers := tdel s.mbx.timers c } }

/-- A notice to the sender where R330 applies. -/
def ackNotice (s : State) (c : Nat) : State :=
  if s.on MBX_BINDc_ACK_DB_EN c then setDoorbell s (chSender s c) (s.get MBX_BINDc_ACK_BIT c) else s

/-- A held message withdrawn: FULL clears, the timer stops, and it counts (R328, R332). -/
def dropMessage (s : State) (c : Nat) : State :=
  stopTimer ((s.set MBX_CHc_STATE_FULL 0 c).bump MBX_CNTn_COUNT 2) c

/-- A message withdrawn with TIMEOUT at the sender (R328, R330, R332). -/
def dropTold (s : State) (c : Nat) : State := ackNotice ((dropMessage s c).set MBX_CHc_STATE_TIMEOUT 1 c) c

/-- A message withdrawn under R328, which MBX_STATUS shows too. -/
def withdraw (s : State) (c : Nat) : State := dropTold (s.set MBX_STATUS_TIMEOUT 1) c

/-- A binding violation: the access is ignored (R325). -/
def bindViol (s : State) (master : Nat) : State :=
  fltPlain ((s.set MBX_STATUS_BIND_VIOL 1).bump MBX_CNTn_COUNT 3) elemMbx 1 master

/-- Whether a receiver can take no message at all: a function that is not present, a retired core, the boot ROM once
the cores run (R328). -/
def receiverGone (s : State) (id : Nat) : Bool :=
  if id < 256 then !fnPresent s id
  else if id = 0x1C0 then s.phase = .running
  else
    match dbIndex id with
    | some r => r < 64 && s.get MBX_COREn_CTL_STATE r = 3
    | none => true

/-- An endpoint reset under R332: messages to it are withdrawn, messages from it are withdrawn with ACK_VALID and
REJECT cleared, and its doorbell register clears; a function's mask and vector return to their reset values. -/
def endpointReset (s : State) (id : Nat) : State :=
  let s := (List.range 256).foldl (fun s c =>
    if !s.on MBX_BINDc_VALID c then s
    else
      let s := if chReceiver s c = id ∧ s.on MBX_CHc_STATE_FULL c then dropTold s c else s
      if chSender s c = id then
        let s := if s.on MBX_CHc_STATE_FULL c then dropMessage s c else s
        (s.set MBX_CHc_STATE_ACK_VALID 0 c).set MBX_CHc_STATE_REJECT 0 c
      else s) s
  if id < 256 then
    (((s.set HOST_HDB_DB 0 id).set HOST_HDBMASK_MASK 0xFFFFFFFF id).set HOST_HVEC_VECTOR 0 id).set HOST_HVEC_EN 0 id
  else
    match dbIndex id with
    | some r => updDb (s.set MBX_DBr_DB 0 r) r
    | none => s

/-- The master identity under which UDM accesses registers: one of no entry of Table 14.1. -/
def udmMaster : Nat := 0x1FF

/-! Cores. -/

/-- STATE of a core: 0 held, 1 loading, 2 running, 3 retired. -/
def coreState (s : State) (n : Nat) : Nat := s.get MBX_COREn_CTL_STATE n

/-- The first running core after core `n`, in ascending order modulo 64 (R322). -/
def nextRunning (s : State) (n : Nat) : Option Nat :=
  ((List.range 63).map fun d => (n + 1 + d) % 64).find? fun m => coreState s m = 2

/-- Failover of core `n` (R322); with no running core, ROUTE_NONE and a fatal controller fault (R416). -/
def failover (s : State) (n : Nat) : State :=
  match nextRunning s n with
  | none => fatalFault (s.set MBX_STATUS_ROUTE_NONE 1) 3
  | some m =>
    let s := (List.range 64).foldl (fun s i => if s.get MBX_ROUTEi_CORE i = n then s.set MBX_ROUTEi_CORE m i else s) s
    (s.set MBX_COREn_LOCAL_FAILOVER 1 m).set MBX_COREn_LOCAL_FROM n m

/-- A core retired (R323). -/
def retireCore (s : State) (n : Nat) : State :=
  let s := ((s.set MBX_COREn_CTL_STATE 3 n).set MBX_COREn_CTL_RESTART 0 n).set MBX_STATUS_CORE_RETIRED 1
  endpointReset s (0x100 + n)

/-- A core held in reset and its restart begun (R321). -/
def loadCore (s : State) (n : Nat) : State :=
  endpointReset (s.set MBX_COREn_CTL_STATE 1 n) (0x100 + n)

/-- What MBX does at a core fault before the fault monitor: hold, CAUSE, RESTART_CNT, CORE_FAULT (R321). -/
def coreFaultRecord (s : State) (n cause addr : Nat) : State :=
  let s := (s.set MBX_COREn_FAULT_CAUSE cause n).set MBX_COREn_FAULT_ADDR addr n
  ((s.bump MBX_COREn_CNT_RESTART_CNT n).set MBX_STATUS_CORE_FAULT 1).set MBX_COREn_CTL_STATE 0 n

/-- A bus fault of a core: recorded, not a core fault (R319). -/
def busFaultRecord (s : State) (n addr : Nat) : State :=
  (s.set MBX_COREn_FAULT_CAUSE 5 n).set MBX_COREn_FAULT_ADDR addr n

end Sys2Proof.Machine
end

