-- ==== Sys2Proof/Machine/FenceOps.lean ====
section
/-! DEFINITION. How an operation of a die ends with its source, the fences of dies and channels, and what a lasting
declaration does to the blocks (R76 to R78, R89, R101, R107, R109, R110, R137, R183, R412). -/

namespace Sys2Proof.Machine

/-! Row accumulators (R101). -/

/-- The accumulator of a row, and it replaced. -/
def accOf (s : State) (stripe row : Nat) : Option RowAcc := s.cdc.accs.find? fun a => a.stripe = stripe && a.row = row
def setAcc (s : State) (a : RowAcc) : State :=
  { s with cdc := { s.cdc with accs := s.cdc.accs.map fun x => if x.stripe = a.stripe ∧ x.row = a.row then a else x } }

/-- A row's accumulator freed, with its key bindings and the buffers of its parity pages. -/
def freeAcc (s : State) (a : RowAcc) : State :=
  let s := giveBuffers s a.bufs
  unbindRow { s with cdc := { s.cdc with accs := s.cdc.accs.filter fun x => x.stripe ≠ a.stripe || x.row ≠ a.row } } a.stripe a.row

/-- Copy results (R137). -/
def cpOk : Nat := 0
def cpProgFail : Nat := 1
def cpAborted : Nat := 2
def cpBadArg : Nat := 3
def cpFencedDst : Nat := 4
def cpDropped : Nat := 5

/-- STATUS 0x05 written for the entries of a copy slot that ends before it has processed them (Table 6.1, log entry 24). -/
def copyStatuses (s : State) (y : CopySlot) : State :=
  (y.entries.zip (List.range y.entries.length)).foldl (fun s x =>
    if x.1.status = 0 then writeLe s (y.list + 16 * x.2 + 14) 1 5 else s) s

/-- A copy slot ended with a result (R137). -/
def copyEnd (s : State) (n result failPos : Nat) : State :=
  let s := match tget s.cdc.copies n with
    | some y => if y.kind = 2 then s else copyStatuses s y
    | none => s
  let s := { s with cdc := { s.cdc with copies := tdel s.cdc.copies n } }
  let s := dropSrc s fun x => match x with | .copyRead m _ => m = n | _ => false
  let s := { s with cdc := { s.cdc with recons := s.cdc.recons.filter (fun x =>
    (match x.2.target.src with | .copyRead m _ => m ≠ n | _ => true)) } }
  let s := ((s.set CDC_CPn_CTL_GO 0 n).set CDC_CPn_CTL_ABORT 0 n).set CDC_CPn_CTL_RESULT result n
  let s := s.set CDC_CPn_CTL_FAIL_POS failPos n
  s.set CDC_CP_DONE_DONE (setBits (s.get CDC_CP_DONE_DONE) n 1 1)

/-- The staging sectors of a row no longer used by its programs. -/
def rowUnuse (s : State) (a : RowAcc) : State := a.staged.foldl (fun s x => useStg s x.idx false) s

/-- The staging sectors of a failed row free to be placed in another row (R146). -/
def rowUnplace (s : State) (a : RowAcc) : State :=
  let stg := a.staged.foldl (fun t x =>
    match tget t x.idx with
    | some y => tput t x.idx { y with inRow := false }
    | none => t) s.hbm.stg
  { s with hbm := { s.hbm with stg := stg } }

/-- The end of the copy slot that filled an accumulator, while it still programs that row: a flush has ended it before (R137). -/
def copyRowEnd (s : State) (a : RowAcc) (n result pos : Nat) : State :=
  match tget s.cdc.copies n with
  | some y => if y.encoded ∧ y.stripe = a.stripe ∧ y.row = a.row then copyEnd s n result pos else s
  | none => s

/-- All 34 members of a row have passed: the row is verified (R101, R137). -/
def rowVerified (s : State) (a : RowAcc) : State :=
  let s := freeAcc s a
  match a.copySlot with
  | some n => copyRowEnd s a n cpOk 63
  | none =>
    let s := rowUnuse s a
    { s with map := { s.map with heldRows := s.map.heldRows ++ [⟨a.stripe, a.row, a.staged⟩] } }

/-- The first failed member of a row: it is not verified, its stripe retires nothing at or above it (R35, R101). -/
def rowFailed (s : State) (a : RowAcc) (pos result : Nat) : State :=
  let low := min a.row (tgetD s.map.failedRow a.stripe a.row)
  match a.copySlot with
  | some n => copyRowEnd s a n result pos
  | none => rowUnplace { s with
      map := { s.map with failedRow := tput s.map.failedRow a.stripe low }
      media := { s.media with rowFails := s.media.rowFails ++ [⟨a.stripe, a.row, pos, decide (result = cpProgFail)⟩] } } a

/-- Result of a copy slot by how a member's program ended. -/
def rowResult (r : RdRes) : Nat :=
  match r with
  | .fenced => cpFencedDst
  | .stale => cpFencedDst
  | .dropped => cpDropped
  | _ => cpProgFail

/-- One member program of a row ended. The accumulator is free when all 34 have: the spec does not say when a row leaves it (DESIGN
CHOICE, log entry 103). -/
def rowProgEnd (s : State) (stripe row pos : Nat) (r : RdRes) : State :=
  match accOf s stripe row with
  | none => s
  | some a =>
    let ok := match r with | .pass _ => true | _ => false
    let a2 := { a with
      programmed := pos :: a.programmed
      verified := if ok then pos :: a.verified else a.verified
      failed := a.failed || !ok }
    if a2.verified.length = 34 then rowVerified s a2
    else
      let s := setAcc s a2
      let s := if !ok ∧ !a.failed then rowFailed s a2 pos (rowResult r) else s
      if a2.programmed.length = 34 then (if a2.copySlot.isSome then freeAcc s a2 else rowUnuse (freeAcc s a2) a2) else s

/-! Rebuild slots (R109, R110). -/

def rbOk : Nat := 0
def rbLostRows : Nat := 1
def rbProgFail : Nat := 2
def rbAborted : Nat := 3
def rbBadArg : Nat := 4
def rbFencedDst : Nat := 5

/-- A rebuild slot, and it replaced. -/
def rebuildOf (s : State) (n : Nat) : Rebuild := tgetD s.cdc.rebuilds n ⟨false, false, false, [], [], [], [], 0, 0, 0, 0, 0⟩
def setRebuild (s : State) (n : Nat) (r : Rebuild) : State := { s with cdc := { s.cdc with rebuilds := tput s.cdc.rebuilds n r } }

/-- Bytes of a page's data, and of a stripe row's 34 pages. -/
def pageBytes : Nat := 65536
def rowBytes : Nat := 34 * pageBytes

/-- The health counters changed. -/
def updHealth (s : State) (g : Health → Health) : State := { s with media := { s.media with health := g s.media.health } }

/-- A rebuild slot ended with a result (R110); one that completed counts for Table 6.6. -/
def rebuildEnd (s : State) (n result : Nat) : State :=
  let r := rebuildOf s n
  let s := setRebuild s n { r with running := false, abort := false, inRow := false, members := [], got := [], failed := [] }
  let s := dropSrc s fun x => match x with | .rebuildRead m _ _ | .rebuildProg m _ => m = n | _ => false
  let s := ((s.set CDC_RBn_CTL_GO 0 n).set CDC_RBn_CTL_ABORT 0 n).set CDC_RBn_CTL_RESULT result n
  let s := (s.set CDC_RBn_CTL_DONE 1 n).set CDC_STATUS_RB_DONE 1
  let s := if result = rbOk ∨ result = rbLostRows then updHealth s fun h => { h with rebuilds := h.rebuilds + 1 } else s
  if result = rbOk then s else s.set CDC_STATUS_RB_ERR 1

/-- A codeword of KIND lost with zero data (R110), and of KIND pad (R101). -/
def kindSector (kind rowSeq : Nat) : List Byte := List.replicate 4096 0 ++ fit (devHdr 0 0 0 0 kind rowSeq) 64

/-- The program of a rebuilt row queued on its destination. -/
def rebuildProgram (s : State) (n row : Nat) (data : List (List Byte)) : State :=
  let die := s.get CDC_RBn_DST_DIE n
  let slc := stripeMode (stripeHdr s (s.get CDC_RBn_SRC_STRIPE n)) = 0
  let o := progOp (.rebuildProg n row) slc (mkMedia die 0 (s.get CDC_RBn_DST_BLOCK n) row 0) data
  if dieState s die = 1 then qPush (updHealth s fun h => { h with progRebuild := h.progRebuild + pageBytes }) die o
  else rebuildEnd s n rbFencedDst

/-- A row that cannot be reconstructed: programmed as lost, LOST advances (R110). -/
def rebuildLost (s : State) (n row : Nat) : State :=
  let s := updHealth (s.set CDC_RBn_LOST_LOST (s.get CDC_RBn_LOST_LOST n + 1) n) fun h => { h with lostRows := h.lostRows + 1 }
  let s := setRebuild s n { rebuildOf s n with lost := (rebuildOf s n).lost ++ [row] }
  rebuildProgram s n row (List.replicate 16 (kindSector 2 s.cdc.rowSeq))

/-- The 16 payloads of a position from those of 32 others (R100, R109). -/
def rebuildPayload (row pos : Nat) (got : Tbl (List (List Byte))) : List (List Byte) :=
  (List.range 16).map fun k =>
    recoverPos (fun p => p = 2 * row % 34) (fun p => p = (2 * row + 1) % 34) (dataOf row) pos
      (got.map fun x => (x.1, x.2.getD k []))

/-- A member page of a rebuild row arrived. -/
def rebuildGot (s : State) (n row pos : Nat) (data : List (List Byte)) : State :=
  let r := rebuildOf s n
  if !r.running ∨ !r.inRow then s
  else
    let r2 := { r with got := tput r.got pos data }
    let s := setRebuild s n r2
    if 32 ≤ r2.got.length then rebuildProgram s n row (rebuildPayload row (s.get CDC_RBn_SRC_POSITION n) r2.got) else s

/-- A class 4 read of a member's whole page. -/
def rebuildReadOp (s : State) (n stripe row p : Nat) : MOp :=
  let o := readOp (.rebuildRead n row p) 4 (stripeMode (stripeHdr s stripe) = 0) (memberMedia s stripe row p 0 0) false
  { o with count := 16, data := List.replicate 16 [] }

/-- A member page of a rebuild row failed: the unused member is read, else the row is lost (R105, R110). -/
def rebuildFail (s : State) (n row pos : Nat) : State :=
  let r := rebuildOf s n
  let stripe := s.get CDC_RBn_SRC_STRIPE n
  if !r.running ∨ !r.inRow then s
  else
    match (activeMembers s stripe (s.get CDC_RBn_SRC_POSITION n) false).find? fun p => p ≠ pos && !r.members.contains p && !r.failed.contains p with
    | some p =>
      let s := setRebuild s n { r with members := r.members.filter (· ≠ pos) ++ [p], failed := pos :: r.failed }
      qPush s (memberDie (memberWord s stripe p)) (rebuildReadOp s n stripe row p)
    | none =>
      let s := dropSrc s fun x => match x with | .rebuildRead m _ _ => m = n | _ => false
      rebuildLost (setRebuild s n { r with members := [], got := [], failed := [] }) n row

/-- The program of a rebuilt row ended (R110). -/
def rebuildProgEnd (s : State) (n : Nat) (res : RdRes) : State :=
  let r := rebuildOf s n
  if !r.running then s
  else
    match res with
    | .pass _ =>
      let row := s.get CDC_RBn_CTL_ROW n + 1
      let s := setRebuild (s.set CDC_RBn_CTL_ROW row n) n { r with inRow := false, members := [], got := [], failed := [], prevEnd := row }
      if row = s.get CDC_RBn_ROWS_FIRST n + s.get CDC_RBn_ROWS_COUNT n then
        rebuildEnd s n (if s.get CDC_RBn_LOST_LOST n = 0 then rbOk else rbLostRows)
      else if r.abort then rebuildEnd s n rbAborted
      else s
    | .fenced | .stale => rebuildEnd s n rbFencedDst
    | .dropped => s
    | _ => rebuildEnd s n rbProgFail

/-! The end of an operation. -/

/-- Status of a descriptor operation that is no read. -/
def descWriteStatus (kind : MKind) (failed : Bool) (r : RdRes) : Nat :=
  if failed then (if kind = .program then 4 else if kind = .erase then 5 else 1)
  else descStatus r

/-- Whether a scrub read that ended so makes its row due: it needed L2, or the die could not serve it (R149). -/
def scrubBad (r : RdRes) : Bool := match r with | .pass l => decide (100 ≤ l) | .dropped => false | _ => true

/-- An operation of die `die` ended other than by its own response, or by a pass: its source learns it. Reads that their
stripe can serve are reconstructed (R78, R97, R105). -/
def endOp (s : State) (die : Nat) (o : MOp) (r : RdRes) : State :=
  match o.src with
  | .host _ _ | .merge _ _ | .fill _ _ _ | .copyRead _ _ =>
    (match r with
      | .pass _ => endRead s o r
      | .dropped => endRead s o r
      | .uncorr => endUncorr s o
      | _ => escalate s (if dieState s die = 1 then .l3 else .degraded) o)
  | .member id pos =>
    (match r with
      | .pass _ => memberGot s id pos (o.data.headD [])
      | .dropped => s
      | _ => memberFail s id pos)
  | .rebuildRead n row pos =>
    (match r with
      | .pass _ => rebuildGot s n row pos o.data
      | .dropped => s
      | _ => rebuildFail s n row pos)
  | .rebuildProg n _ => rebuildProgEnd s n r
  | .rowProg st row pos => rowProgEnd s st row pos r
  | .desc den i => if o.kind = .read then endDesc s den i o r else descEnd s den i (descStatus r)
  | .firmware t =>
    if o.kind = .read then scrubRead s (scrubBad r)
    else
      let k := match r with | .pass _ => 0 | .uncorr => 1 | .abandoned | .timeout | .stale => 2 | _ => 3
      { s with media := { s.media with ends := s.media.ends ++ [(t, k)] } }
  | .fch => s

/-! Fences (R75, R76, R78). -/

/-- An operation that loses its source: what it answers later is discarded. -/
def muteOp (o : MOp) : MOp := { o with src := .fch }

/-- Whether an issued read is reconstructed at the fence, without waiting for its response (R107). -/
def reconAtFence (o : MOp) : Bool :=
  o.kind = .read && (match o.src with | .desc _ _ | .fch | .firmware _ => false | _ => true)

/-- The issued operations of a die at a fence: which are ended at once with STALE_EPOCH, and what stays on the die. -/
def issuedAtFence (d : DieSt) : List MOp × DieSt :=
  let ops (r : Running) : List MOp := (r.op :: r.merged).filter reconAtFence
  let mute (r : Running) : Running :=
    { r with op := if reconAtFence r.op then muteOp r.op else r.op, merged := r.merged.map fun o => if reconAtFence o then muteOp o else o }
  let fromRun := match d.run with | some r => if r.suspended then [r.op] else ops r | none => []
  let run := match d.run with | some r => if r.suspended then none else some (mute r) | none => none
  (fromRun ++ d.reads.flatMap ops, { d with queue := [], run := run, reads := d.reads.map mute })

/-- A die taken out of operation in a state: its queue is returned FENCED, issued reads are reconstructed, a suspended
operation ends with STALE_EPOCH, and its read cells become invalid (R78, R107, R124). -/
def takeOut (s : State) (die st : Nat) : State :=
  let d := dieOf s die
  let s := s.set FCH_DIEd_STATE st (die / 8) (die % 8)
  let (now, d2) := issuedAtFence d
  let s := noTokenWait (setDieSt s die { d2 with requal := none }) die
  let s := pendingCheck (dieCellsOff s die)
  let s := now.foldl (fun s o => endOp s die o .stale) s
  d.queue.foldl (fun s o => endOp s die o .fenced) s

/-- The operations that a die runs marked as issued under an older epoch, where EPOCH itself does not change: their responses are
discarded (R75, R76, R78). No epoch has the value that marks them. -/
def markOld (d : DieSt) : DieSt :=
  let old (o : MOp) : MOp := { o with epoch := 0x10000 }
  let fix (r : Running) : Running := { r with op := old r.op, merged := r.merged.map old }
  { d with run := d.run.map fix, reads := d.reads.map fix }

/-- A row of the die tables in the Sett (R75). -/
def dieRow (s : State) (die page : Nat) : State :=
  { s with media := { s.media with dieTab := s.media.dieTab ++ [⟨die, dieState s die, dieEpoch s die, page⟩] } }

/-- The DIE_EPOCH record of a die's new epoch appended, with its row of the die tables; while the ring has no room it waits (R45, R75,
R76). -/
def dieEpochRec (s : State) (die : Nat) : State :=
  if mayJournal s 1 then
    let s := appendFw s ⟨0x0F, 0, die, dieEpoch s die⟩
    dieRow s die (jnlLast s)
  else { s with media := { s.media with epochWait := s.media.epochWait.filter (· ≠ die) ++ [die] } }

/-- A die declared failed: EPOCH advances, or the die is retired at the last epoch (R76). -/
def fenceDie (s : State) (die : Nat) : State :=
  let st := dieState s die
  if st ≠ 1 ∧ st ≠ 4 then s
  else if dieEpoch s die = 0xFFFF then
    dieRow (settRecheck (takeOut (setDieSt s die (markOld (dieOf s die))) die 3)) die 0
  else
    dieEpochRec (settRecheck (takeOut (s.set FCH_DIEd_EPOCH (dieEpoch s die + 1) (die / 8) (die % 8)) die 2)) die

/-- STATE of a die written with fenced or retired: taken out of operation, its epoch unchanged (R75). -/
def restoreDie (s : State) (die st : Nat) : State := takeOut (setDieSt s die (markOld (dieOf s die))) die st

/-- The suspended erases abandoned at a clean shutdown: they are not resumed, and those of device firmware are counted as started
and not ended (R52, R55). -/
def dropSuspended (s : State) : State :=
  s.fch.dies.foldl (fun s x =>
    match x.2.run with
    | some r =>
      if r.suspended && r.op.kind = .erase then
        let s := setDieSt s x.1 { dieOf s x.1 with run := none }
        (match r.op.src with | .firmware _ => s | _ => endOp s x.1 r.op .abandoned)
      else s
    | none => s) s

/-- Channels of a den. -/
def denChans (den : Nat) : List Nat := (List.range 16).map (den * 16 + ·)

/-- Whether a requalification of a die of a fenced channel runs: it begins with a continuity check (R79). -/
def requalCheck (s : State) (ch : Nat) : Bool :=
  s.on FCH_CH_STATUS_FENCED ch && (List.range 8).any fun d => (dieOf s (ch * 8 + d)).requal.isSome

/-- WP_N of a den by where its channels stand (R67): low while a channel runs a continuity check or has not finished step
2 of its first training. -/
def updWp (s : State) (den : Nat) : State :=
  let low := (denChans den).any fun ch =>
    let c := chanOf s ch
    c.step = 1 || (c.step = 2 && !c.retraining) || requalCheck s ch
  setWp s den !low

/-- The number of declared dies of a channel. -/
def declared (s : State) (ch : Nat) : Nat := ((List.range 8).filter fun d => bits (chanOf s ch).present d 1 = 1).length

/-- The highest rate that Table 3.1 and RATE_LIMIT allow a den, over its channels that are not fenced (R63). -/
def denRate (s : State) (den : Nat) : Nat :=
  let chs := (denChans den).filter fun ch => (chanOf s ch).present ≠ 0 && !s.on FCH_CH_STATUS_FENCED ch
  let ok6400 := !s.on FCH_DEN_CFG_VCCQ_SEL den && chs.all fun ch => declared s ch ≤ 4
    && (List.range 8).all fun d => bits (chanOf s ch).listed d 1 = 0 || s.on FCH_DIEd_RATE_6400 ch d
  min (s.get FCH_DEN_CFG_RATE_LIMIT den) (if ok6400 then 5 else 4)

/-- The den rate set when the last channel in training has its dies identified or is fenced before that, in a den that has no rate
yet (R63, R71). -/
def settleRate (s : State) (den : Nat) : State :=
  if !s.on FCH_DEN_STATUS_ACTIVE den ∧ (denChans den).all (fun ch => (chanOf s ch).step = 0 || 5 ≤ (chanOf s ch).step)
      ∧ (denChans den).all (fun ch => (chanOf s ch).fails = 0 && (chanOf s ch).step ≠ 6) then
    s.set FCH_DEN_STATUS_RATE (denRate s den) den
  else s

/-- A den becomes active when no channel of it trains and one is trained (Table 3.2). -/
def denDone (s : State) (den : Nat) : State :=
  if s.on FCH_DEN_CFG_ENABLE den ∧ ((denChans den).all fun ch => (chanOf s ch).step = 0)
      ∧ ((denChans den).any fun ch => s.on FCH_CH_STATUS_TRAINED ch) then s.set FCH_DEN_STATUS_ACTIVE 1 den
  else s

/-- The lines of a channel while it is fenced: high impedance, but for CE_N[1:0] driven high where the recorded fault is not on that
line (R69). -/
def fencedLine (s : State) (ch line : Nat) : Option Bool :=
  if line < 15 ∨ ((chanOf s ch).contFault = true ∧ s.get FCH_CH_FAULT_LINE ch = line) then none else some true

/-- The 17 lines of a fenced channel as they are driven (R69). -/
def releaseLines (s : State) (ch : Nat) : State :=
  (List.range 17).foldl (fun s l => s.emit (.pin (.fcLine ch l) (fencedLine s ch l))) s

/-- A channel fenced with its dies (R69, R91). One fenced before its dies were identified leaves the den's rate to the others (R63). -/
def fenceChannel (s : State) (ch : Nat) : State :=
  let early := decide (1 ≤ (chanOf s ch).step) && decide ((chanOf s ch).step < 5)
  let s := (s.set FCH_CH_STATUS_FENCED 1 ch).set FCH_CH_STATUS_TRAINED 0 ch
  let s := setChan s ch { chanOf s ch with step := 0, retraining := false, retrain := false }
  let s := (List.range 8).foldl (fun s d => fenceDie s (ch * 8 + d)) (releaseLines s ch)
  let s := if early then settleRate s (ch / 16) else s
  updWp (denDone s (ch / 16)) (ch / 16)

/-! Events with lasting actions (Table 19.4). -/

/-- An event of a die: 1 poll timeout, 2 status FAIL. -/
def dieEvent (s : State) (die code data : Nat) : State :=
  let (s, lasting) := fltElem s die code data false
  if lasting then fenceDie s die else s

/-- An event of a channel: 1 DQS timeout, 2 retrain failure, 3 continuity. -/
def channelEvent (s : State) (ch code data : Nat) (once : Bool) : State :=
  let (s, lasting) := fltElem s (elemChannel ch) code data once
  if lasting then fenceChannel s ch else s

/-- A Burrow read whose frame failed, translated again without the Burrow (R183). -/
def rewalk (s : State) (c k : Nat) : State :=
  match srcSector s (.host c k) with
  | none => s
  | some (ns, run, q) =>
    let (x, s) := lookup s run q true
    match x with
    | .staging i =>
      let (d, s) := readStaged s i
      match d with
      | some d => opEnd (ctxGot s c k d) c
      | none => opEnd (ctxErr s c stInternal) c
    | .zeros => opEnd (ctxGot s c k (zeroSector (nsFmt s ns))) c
    | .media a kg row =>
      let home := match row with | some (st, rw) => some (st, rw, posOf rw (q / 16)) | none => (ownerOf s a).map fun x => (x.1, mediaPage a, x.2)
      queueRead s { readOp (.host c k) 1 (blockSlc s a) a false with kg := kg, home := home }
    | .unrecovered => opEnd (ctxErr s c stUnrecovered) c
    | _ => opEnd (ctxErr s c stInternal) c

/-- One frame of a failed pseudo-channel: failed, its tag, pin and fill gone, a doomed frame's fill too (R183). -/
def failFrame (s : State) (f : Nat) : State :=
  let w := frameWord s f
  let s := if (tget s.bur.fills f).isSome then cancelFill s f else s
  let s := unpinFrame s f
  let s := if frameState w = frValid then
      (dropTag s (frameRun w) (frameSeg w)).set BUR_RESIDENT_COUNT (s.get BUR_RESIDENT_COUNT - 1) else s
  setFrame s f (mkFrame 0 0 0 false frFailed 0)

/-- The frames of a failed pseudo-channel lost, and the Burrow reads on them translated again (R183). -/
def failFrames (s : State) (p : Nat) : State :=
  let n := s.get BUR_FRAMES_COUNT / 64
  if !s.on BUR_CTRL_ENABLE ∨ n = 0 then s
  else
    let rd := s.bur.readers.filter fun x => x.1 % 64 = p
    let s := { s with bur := { s.bur with readers := s.bur.readers.filter fun x => x.1 % 64 ≠ p } }
    let s := (List.range n).foldl (fun s k => failFrame s (64 * k + p)) s
    let s := (s.set BUR_AVAIL_COUNT (s.get BUR_AVAIL_COUNT - n)).set BUR_STATUS_FRAMES_LOST 1
    rd.foldl (fun s x => rewalk s x.2.1 x.2.2) s

/-- A pseudo-channel failed; a second one is a fatal controller fault (R183, R416). -/
def failPc (s : State) (p : Nat) : State :=
  let old := s.get HBM_PC_FAILED_FAILED
  if bits old p 1 = 1 then s
  else
    let s := (s.set HBM_PC_FAILED_FAILED (setBits old p 1 1)).set HBM_STATUS_PC_FAIL 1
    let s := failFrames s p
    if old = 0 then s else fatalFault s 1

/-- An event of a pseudo-channel: 1 uncorrectable line, 2 no response, 3 training. -/
def pcEvent (s : State) (p code data : Nat) (once : Bool) : State :=
  let (s, lasting) := fltElem s (elemPc p) code data once
  if lasting then failPc s p else s

/-- An event of a core; a lasting one retires it (R323). -/
def coreEvent (s : State) (n code data : Nat) : State :=
  let (s, lasting) := fltElem s (elemCore n) code data false
  if lasting then retireCore s n else s

end Sys2Proof.Machine
end

