-- ==== Sys2Proof/Machine/FchOps.lean ====
section
/-! DEFINITION. Training of channels and dens (R62 to R72), the descriptor rings (R86), the issue of operations with
their read levels (R81, R84, R88, R97, R116), and the decode of what a read answers (R96 to R99). -/

namespace Sys2Proof.Machine

/-! Training. -/

/-- Whether a channel may train now: declared, not fenced, not trained, and a Sett channel while SETT_ONLY is 1
(R62, R346). -/
def mayTrain (s : State) (ch : Nat) : Bool :=
  (chanOf s ch).present ≠ 0 && !s.on FCH_CH_STATUS_FENCED ch && !s.on FCH_CH_STATUS_TRAINED ch
    && (!s.on SYS_CTRL_SETT_ONLY || bits (s.get SYS_SETT_CHi_MASK (ch / 64)) (ch % 64) 1 = 1)

/-- The channels of a den that may train and do not yet, brought to step 1 (R67). -/
def beginTraining (s : State) (den : Nat) : State :=
  let s := (denChans den).foldl (fun s ch =>
    if mayTrain s ch ∧ (chanOf s ch).step = 0 then setChan s ch { chanOf s ch with step := 1, fails := 0, retraining := false, drv := 0, odt := 0 }
    else s) s
  updWp s den

/-- Whether a rail in mV lies in the window that VCCQ_SEL names (R64, Table 21.8). -/
def vccqOk (s : State) (den : Nat) : Bool :=
  let v := tgetD s.fch.vccq den 0
  if s.on FCH_DEN_CFG_VCCQ_SEL den then decide (1140 ≤ v ∧ v ≤ 1260) else decide (570 ≤ v ∧ v ≤ 650)

/-- A den that waits for FCH no longer. -/
def leaveDenWait (s : State) (den : Nat) : State := { s with fch := { s.fch with denWait := s.fch.denWait.filter (· ≠ den) } }

/-- A den enabled while FCH is active: refused on a wrong rail, else its channels train (R64, R67). One whose channels are trained
already runs again (log entry 102). -/
def startDen (s : State) (den : Nat) : State :=
  let s := leaveDenWait s den
  if vccqOk s den then denDone (beginTraining (s.set FCH_DEN_CFG_ENABLE 1 den) den) den
  else (s.set FCH_DEN_CFG_ENABLE 0 den).set FCH_DEN_STATUS_VCCQ_MISMATCH 1 den

/-- FCH_DEN_CFG.ENABLE cleared: the den runs no longer, and a channel of it that trains stops (R67, R92). What its dies run ends by
their responses. -/
def stopDen (s : State) (den : Nat) : State :=
  let s := (leaveDenWait s den).set FCH_DEN_STATUS_ACTIVE 0 den
  let s := (denChans den).foldl (fun s ch =>
    setChan s ch { chanOf s ch with step := 0, fails := 0, retraining := false }) s
  updWp s den

/-- Status bit of a continuity fault kind (R68). -/
def contStatus (s : State) (ch kind : Nat) : State :=
  match kind with
  | 0 => s.set FCH_CH_STATUS_SHORT_GND 1 ch
  | 1 => s.set FCH_CH_STATUS_SHORT_VCCQ 1 ch
  | 2 => s.set FCH_CH_STATUS_SHORT_NEIGH 1 ch
  | _ => s.set FCH_CH_STATUS_OPEN 1 ch

/-- A short or an open of one channel: recorded, reported, and the channel fenced (R68, R69, Table 3.9). -/
def contFaultOn (s : State) (ch : Nat) (k : ContFault) : State :=
  let s := contStatus s ch k.kind
  let s := s.set FCH_CH_FAULT_LINE k.line ch
  let s := if k.kind = 2 then (s.set FCH_CH_FAULT_PARTNER_CH k.partnerCh ch).set FCH_CH_FAULT_PARTNER_LINE k.partnerLine ch else s
  let s := s.bump FCH_CH_CNT_CONT_FAIL_CNT ch
  let s := setChan s ch { chanOf s ch with contFault := true }
  let s := channelEvent s ch 3 k.line true
  if s.on FCH_CH_STATUS_FENCED ch then s else fenceChannel s ch

/-- The outcome of a continuity check; a neighbour short fences both channels (R69), a partner that declares no die excepted (R62). -/
def contOutcome (s : State) (ch : Nat) (fault : Option ContFault) : State :=
  match fault with
  | none => setChan s ch { chanOf s ch with contFault := false }
  | some k =>
    let s := contFaultOn s ch k
    if k.kind = 2 ∧ k.partnerCh ≠ ch ∧ (chanOf s k.partnerCh).present ≠ 0 then contFaultOn s k.partnerCh ⟨2, k.partnerLine, ch, k.line⟩
    else s

/-- Whether every Read ID byte that BYTE_EN selects equals the model's (R65). -/
def idMatches (s : State) (m : Nat) (id : List Nat) : Bool :=
  s.on FCH_MODELm_ID_VALID m && (s.get FCH_MODELm_GEOM_CELL m = 1 || s.get FCH_MODELm_GEOM_CELL m = 2)
    && (List.range 6).all fun k =>
      bits (s.get FCH_MODELm_ID_BYTE_EN m) k 1 = 0 || id.getD k 0 = bits (s.get FCH_MODELm_ID_ID m) (8 * k) 8

/-- The model that a responding die matches, the lowest one; none where a check of R65 fails. -/
def matchModel (s : State) (i : DieId) : Option Nat :=
  if i.ppage ≠ [] ∧ i.planes = 4 ∧ i.pageBytes = 16384 ∧ 2048 ≤ i.spareBytes then
    (List.range 8).find? fun m => idMatches s m i.id
  else none

/-- Whether a die of a model declares 6,400 MT/s in its parameter page (R66). -/
def declares6400 (s : State) (m : Nat) (ppage : List Byte) : Bool :=
  s.on FCH_MODELm_GEOM_DECL_EN m
    && bits (ppage.getD (s.get FCH_MODELm_GEOM_DECL_OFFSET m) 0).toNat (s.get FCH_MODELm_GEOM_DECL_BIT m) 1 = 1

/-- Step 4 of one declared die: its model and rate, or UNKNOWN_DIE or DIE_MISSING (R62, R65). A die of a den that
already runs at 6,400 MT/s and does not declare the rate is not listed (log entry 20). -/
def identifyDie (s : State) (ch d : Nat) (ids : List DieId) : State :=
  let st := s.get FCH_DIEd_STATE ch d
  if st = 2 ∨ st = 3 then s
  else
    match ids.find? fun i => i.d = d && i.responds with
    | none => s.set FCH_CH_STATUS_DIE_MISSING 1 ch
    | some i =>
      let s := setDieSt s (ch * 8 + d) { dieOf s (ch * 8 + d) with ident := i.id }
      match matchModel s i with
      | none => s.set FCH_CH_STATUS_UNKNOWN_DIE 1 ch
      | some m =>
        let r := declares6400 s m i.ppage
        if s.on FCH_DEN_STATUS_ACTIVE (ch / 16) ∧ s.get FCH_DEN_STATUS_RATE (ch / 16) = 5 ∧ !r then
          s.set FCH_CH_STATUS_UNKNOWN_DIE 1 ch
        else
          let s := (s.set FCH_DIEd_MODEL m ch d).set FCH_DIEd_RATE_6400 (b2n r) ch d
          setChan s ch { chanOf s ch with listed := setBits (chanOf s ch).listed d 1 1 }


/-- What FCH keeps for a channel, with the drive strength and termination of the lowest-numbered model among its listed dies (R442). -/
def driveOf (s : State) (ch : Nat) : ChSt :=
  let c := chanOf s ch
  let l := ((List.range 8).filter fun d => bits c.listed d 1 = 1).map fun d => s.get FCH_DIEd_MODEL ch d
  match l.min? with
  | some m => { c with drv := s.get FCH_MODELm_GEOM_DRV m, odt := s.get FCH_MODELm_GEOM_ODT m }
  | none => c

/-- A channel trained: TRAINED, its dies listed active (Table 3.2, step 7). -/
def trainedNow (s : State) (ch : Nat) : State :=
  let c := chanOf s ch
  let s := s.set FCH_CH_STATUS_TRAINED 1 ch
  let s := (List.range 8).foldl (fun s d =>
    if bits c.listed d 1 = 1 ∧ s.get FCH_DIEd_STATE ch d = 0 then s.set FCH_DIEd_STATE 1 ch d else s) s
  let s := if c.retraining then (s.set FCH_CH_CTRL_RETRAIN 0 ch).set FCH_CH_STATUS_RETRAIN_DONE 1 ch else s
  let s := setChan s ch { c with
    step := 0, fails := 0, retrain := c.retrain && !c.retraining, retraining := false
    trainedUs := s.timeUs, trainedTemp := tgetD s.fch.temps (ch / 16) 0 }
  denDone s (ch / 16)

/-- A failed retrain: a channel fault event; the channel keeps its earlier training (R71, log entry 21). RETRAIN clears and
RETRAIN_DONE does not set: the spec sets it where a retrain is complete and does not say that a failed one is (DESIGN CHOICE, log entry
102). -/
def retrainFailed (s : State) (ch : Nat) : State :=
  let s := (s.bump FCH_CH_CNT_RETRAIN_FAIL_CNT ch).set FCH_CH_CTRL_RETRAIN 0 ch
  let s := setChan s ch { chanOf s ch with step := 0, fails := 0, retrain := false, retraining := false }
  channelEvent s ch 2 0 false

/-- The den one rate lower, its channels again at step 5 (R71). -/
def stepDown (s : State) (den : Nat) : State :=
  let s := (s.set FCH_DEN_STATUS_RATE (s.get FCH_DEN_STATUS_RATE den - 1) den).set FCH_DEN_STATUS_STEPPED 1 den
  (denChans den).foldl (fun s ch =>
    let c := chanOf s ch
    if 5 ≤ c.step ∨ s.on FCH_CH_STATUS_TRAINED ch then
      setChan (s.set FCH_CH_STATUS_TRAINED 0 ch) ch { c with step := 5, fails := 0 }
    else s) s

/-- A failure of step 5 or 6 (R71); the last one of a den's training is lasting at once (R412). -/
def trainFailed (s : State) (ch : Nat) : State :=
  let c := chanOf s ch
  let den := ch / 16
  if c.fails < 2 then setChan s ch { c with step := 5, fails := c.fails + 1 }
  else if c.retraining then retrainFailed s ch
  else if !s.on FCH_DEN_STATUS_ACTIVE den ∧ s.on FCH_DEN_CFG_FALLBACK den
      ∧ s.get FCH_DEN_CFG_FLOOR den < s.get FCH_DEN_STATUS_RATE den then stepDown s den
  else
    let s := channelEvent (s.set FCH_CH_STATUS_TRAIN_FAIL 1 ch) ch 2 0 true
    if s.on FCH_CH_STATUS_FENCED ch then s else fenceChannel s ch

/-- Whether a bit order names every die DQ bit once (R70). -/
def orderOk (m : Nat) : Bool :=
  decide (m < 2 ^ 24) && (List.range 8).all fun b => (List.range 8).any fun i => bits m (3 * i) 3 = b

/-- The identity and the full reversal (R70). -/
def orderIdentity : Nat := 0xFAC688
def orderReversal : Nat := 0x053977

/-- The place of a bit order in the sequence of candidates: MAP, identity, full reversal, then the others in lexicographic order of
their fields, field 0 first (R70). -/
def orderRank (s : State) (ch m : Nat) : Nat :=
  if m = s.get FCH_CH_SWIZZLE_MAP ch then 0
  else if m = orderIdentity then 1
  else if m = orderReversal then 2
  else 3 + (List.range 8).foldl (fun v i => v * 8 + bits m (3 * i) 3) 0

/-- The first candidate of a list in that sequence. -/
def firstOrder (s : State) (ch : Nat) (l : List Nat) : Option Nat :=
  (l.filter orderOk).foldl (fun best m => match best with
    | none => some m
    | some b => if orderRank s ch m < orderRank s ch b then some m else best) none

/-- The bit-order search of a channel (R70): the candidates up to the first that passes are tried, and a trial at which a die drove DQS is
followed by Reset. A candidate that passes is one of these. -/
def orderSearch (s : State) (ch : Nat) (passes drives : List Nat) : State × Option Nat :=
  let win := firstOrder s ch passes
  let tried (m : Nat) : Bool := orderOk m && (match win with | some w => decide (orderRank s ch m ≤ orderRank s ch w) | none => true)
  let driven := (uniq (passes ++ drives)).filter tried
  (driven.foldl (fun s m => chanReset (s.emit (.dieOp ch 0 0 opOrderTrial m 0 [] [])) ch) s, win)

/-- One training step of a channel finished (Table 3.2). An outcome of another step than the one that runs is no event
of this channel. -/
def trainStep (s : State) (ch : Nat) (o : TrainOutcome) : State :=
  let c := chanOf s ch
  let den := ch / 16
  match o with
  | .cont fault =>
    if c.step ≠ 1 then s
    else
      let s := contOutcome s ch fault
      let s := if fault = none then setChan s ch { chanOf s ch with step := 2 } else s
      updWp s den
  | .ready =>
    if c.step ≠ 2 then s
    else
      let s := (List.range 8).foldl (fun s d =>
        if bits c.present d 1 = 1 then
          setDieSt s (ch * 8 + d) { dieOf s (ch * 8 + d) with offsets := [] }
        else s) (chanReset s ch)
      updWp (setChan s ch { c with step := 3 }) den
  | .order passes drives =>
    if c.step ≠ 3 then s
    else
      match orderSearch s ch passes drives with
      | (s, some m) => setChan (s.set FCH_CH_SWIZZLE_MAP m ch) ch { c with step := 4, listed := 0 }
      | (s, none) => fenceChannel (s.set FCH_CH_STATUS_ORDER_FAIL 1 ch) ch
  | .ids l =>
    if c.step ≠ 4 then s
    else
      let s := ((List.range 8).filter fun d => bits c.present d 1 = 1).foldl (fun s d => identifyDie s ch d l) s
      settleRate (setChan s ch { driveOf s ch with step := 5, fails := 0 }) den
  | .result pass =>
    if c.step ≠ 5 ∧ c.step ≠ 6 then s
    else if !s.on FCH_DEN_STATUS_ACTIVE den ∧ (denChans den).any (fun x => 1 ≤ (chanOf s x).step && (chanOf s x).step < 5) then s
    else if !pass then trainFailed s ch
    else if c.step = 5 then setChan s ch { c with step := 6 }
    else trainedNow s ch

/-! Retrains and continuity checks of a channel in use (R67, R72). -/

/-- Whether no die of a channel has an operation queued or issued. -/
def chanQuiet (s : State) (ch : Nat) : Bool :=
  (List.range 8).all fun d =>
    let x := dieOf s (ch * 8 + d)
    x.queue = [] && x.run = none && x.reads = []

/-- Whether a retrain may begin: scheduled ones run on at most two channels of a den at a time, one commanded by RETRAIN on any (R72). -/
def retrainSlot (s : State) (ch : Nat) : Bool :=
  s.on FCH_CH_CTRL_RETRAIN ch
    || ((denChans (ch / 16)).filter fun x => (chanOf s x).retraining && !s.on FCH_CH_CTRL_RETRAIN x).length < 2

/-- Whether FCH schedules a retrain of a channel: 10 min have passed since it last trained, or its den's temperature has moved by 10 °C
(R72). -/
def retrainDue (s : State) (ch : Nat) : Bool :=
  let c := chanOf s ch
  let t := tgetD s.fch.temps (ch / 16) 0
  decide (600000000 ≤ s.timeUs - c.trainedUs) || decide (c.trainedTemp + 80 ≤ t) || decide (t + 80 ≤ c.trainedTemp)

/-- A wanted retrain begun when the channel is quiet: from step 2, or from step 1 with a continuity fault on record
(R67). -/
def tryRetrain (s : State) (ch : Nat) : State :=
  let c := chanOf s ch
  if c.retrain ∧ !c.retraining ∧ c.step = 0 ∧ s.on FCH_CH_STATUS_TRAINED ch ∧ s.on FCH_GCTRL_ENABLE ∧ s.on FCH_DEN_CFG_ENABLE (ch / 16)
      ∧ chanQuiet s ch ∧ retrainSlot s ch then
    let s := setChan s ch { c with retraining := true, step := if c.contFault then 1 else 2, fails := 0, drv := 0, odt := 0 }
    updWp (s.bump FCH_CH_CNT_RETRAIN_CNT ch) (ch / 16)
  else s

/-- A continuity check of CONT_CHECK run: WP_N is low during it, CONT_DONE at its end (R67, R68). The checks of training and of a
requalification do not set CONT_DONE: the spec does not say which checks do (DESIGN CHOICE, log entry 102). -/
def runCont (s : State) (ch : Nat) (fault : Option ContFault) : State :=
  let s := setChan s ch { chanOf s ch with contWait := none }
  let s := contOutcome (setWp s (ch / 16) false) ch fault
  updWp ((s.set FCH_CH_CTRL_CONT_CHECK 0 ch).set FCH_CH_STATUS_CONT_DONE 1 ch) (ch / 16)

/-- Whether a continuity check may run: FCH and the den are enabled, the channel declares a die and does not train (R62, R67). -/
def contMay (s : State) (ch : Nat) : Bool :=
  s.on FCH_GCTRL_ENABLE && s.on FCH_DEN_CFG_ENABLE (ch / 16) && (chanOf s ch).present ≠ 0 && (chanOf s ch).step = 0

/-- What waits for a channel to become quiet. -/
def chanIdle (s : State) (ch : Nat) : State :=
  if !chanQuiet s ch then s
  else
    let s := match (chanOf s ch).contWait with
      | some f => if contMay s ch then runCont s ch f else s
      | none => s
    tryRetrain s ch

/-- The retrains of a den that wait for one of the two places. -/
def retrainNext (s : State) (den : Nat) : State := (denChans den).foldl chanIdle s

/-! Descriptor rings (R86, Table 3.7). -/

/-- Kind of an OP; none for a reserved one. -/
def descKind (op : Nat) : Option MKind :=
  match op with
  | 1 => some .read
  | 2 => some .program
  | 3 => some .erase
  | 4 => some .reset
  | 5 => some .getFeatures
  | 6 => some .setFeatures
  | 7 => some .paramPage
  | 8 => some .readStatus
  | _ => none

/-- Whether a descriptor is rejected with BAD_DESC, by its kind, class, count and media address. A COUNT of 0 is none of
its values. -/
def badDesc (s : State) (k : MKind) (cls count media : Nat) : Bool :=
  let first := mediaPlane media * 4 + mediaSector media
  5 < cls || !mediaValid s media || !s.on FCH_DEN_STATUS_ACTIVE (mediaDie media / 128)
    || (k = .read && (count = 0 || 16 < count || 16 < first + count))
    || (k = .program && first ≠ 0)
    || (k = .erase && (first ≠ 0 || mediaPage media ≠ 0))

/-- The 16 sectors of a program with their metadata; none where a byte has a data error. -/
def descPayload (s : State) (buf mt : Nat) : Option (List (List Byte)) :=
  (List.range 16).mapM fun k =>
    match readBytes s (buf + 4096 * k) 4096,
      (if mt = 0 then some (List.replicate 64 0) else readBytes s (sramBase + mt % 2 ^ 27 + 64 * k) 64) with
    | some d, some m => some (d ++ m)
    | _, _ => none

/-- One descriptor queued on its die, or rejected; an invalid media address is recorded (R11). An operation of a die that receives none
is returned FENCED; a program whose data cannot be read ends as a program failure (log entry 22). Table 3.7 gives set features no place
for its feature address and data, and OP 0x05 to 0x08 none for what they answer: they take 4 bytes at BUF, and leave their answer there
(DESIGN CHOICE, log entry 102). -/
def takeDesc (s : State) (den i : Nat) : State :=
  let a := descAddr s den i
  let ctl := readLeD s (a + 1) 1
  let count := readLeD s (a + 2) 2
  let media := readLeD s (a + 8) 8
  let die := mediaDie media
  let cls := bits ctl 0 3
  match descKind (readLeD s a 1) with
  | none => descEnd s den i 0x0A
  | some k =>
    if !mediaValid s media then descEnd (badMediaEvent s media) den i 0x0A
    else if badDesc s k cls count media then descEnd s den i 0x0A
    else if bits ctl 5 1 = 1 ∧ readLeD s (a + 28) 2 ≠ dieEpoch s die then descEnd s den i 7
    else if dieState s die ≠ 1 ∧ dieState s die ≠ 4 then descEnd s den i 6
    else if flushDrops s cls then descEnd s den i 0x0B
    else
      let o : MOp := ⟨.desc den i, k, cls, cls, bits ctl 3 1 = 1, media, 1, false, 0, 0, 0, false, [], none, 0, none⟩
      match k with
      | .read => qPush s die { o with count := count, data := List.replicate count [] }
      | .program =>
        (let t := noteLines s (readLeD s (a + 16) 8) 65536
         match descPayload s (readLeD s (a + 16) 8) (readLeD s (a + 24) 4) with
          | some d => qPush t die { o with count := 16, data := d }
          | none => descEnd t den i 4)
      | .setFeatures => qPush s die { o with data := [(readBytes s (readLeD s (a + 16) 8) 4).getD []] }
      | _ => qPush s die o

/-- Size of a ring in descriptors. -/
def ringSize (s : State) (den : Nat) : Nat := 2 ^ s.get FCH_DEN_RING_CFG_SIZE_LOG2 den

/-- Whether FCH reads a descriptor now: one whose operation carries data waits for CDC. -/
def descReady (s : State) (den i : Nat) : Bool :=
  let op := readLeD s (descAddr s den i) 1
  s.on CDC_CTRL_ENABLE || (op ≠ 1 && op ≠ 2)

/-- Whether a descriptor of a ring waits for a place in its die's full queue: FCH then reads no further one (R80, R86). -/
def ringStalled (s : State) (den : Nat) : Bool :=
  s.fch.dies.any fun x => (x.2.queue.drop 64).any fun o => match o.src with | .desc d _ => d = den | _ => false

/-- Descriptors taken in ring order from RING_HEAD up to RING_TAIL, at most `n` of them. -/
def ringTake (s : State) (den n : Nat) : State :=
  match n with
  | 0 => s
  | m + 1 =>
    let h := s.get FCH_DEN_RING_HEAD_INDEX den
    if h = s.get FCH_DEN_RING_TAIL_INDEX den ∨ !descReady s den h ∨ ringStalled s den then s
    else ringTake (s.set FCH_DEN_RING_HEAD_INDEX ((h + 1) % ringSize s den) den |> fun t => takeDesc t den h) den m

/-- The ring of a den served while it and FCH are enabled. -/
def ringServe (s : State) (den : Nat) : State :=
  if s.on FCH_DEN_RING_CFG_ENABLE den ∧ s.on FCH_GCTRL_ENABLE then ringTake s den (ringSize s den) else s

/-! Issue (R81, R84, R88). -/

/-- Whether a die's channel runs operations now. -/
def chanRuns (s : State) (die : Nat) : Bool :=
  let ch := chOf die
  s.on FCH_GCTRL_ENABLE && s.on FCH_DEN_CFG_ENABLE (denOf die) && s.on FCH_DEN_STATUS_ACTIVE (denOf die)
    && s.on FCH_CH_STATUS_TRAINED ch && (chanOf s ch).step = 0

/-- Whether an operation may issue at all while CDC is as it is. -/
def codecReady (s : State) (o : MOp) : Bool := s.on CDC_CTRL_ENABLE || (o.kind ≠ .read && o.kind ≠ .program)

/-- The operation that a die would issue next: while an operation is suspended only reads of class 0 to 2, at most
MAX_READS, that do not touch its block (R81, R82, R88). -/
def nextOp (s : State) (die : Nat) : Option MOp :=
  let d := dieOf s die
  match d.run with
  | none => pickOp (queued d) (codecReady s)
  | some r =>
    if r.suspended ∧ d.reads = [] ∧ r.readsInSuspend < s.get FCH_DEN_SUSP2_MAX_READS (denOf die) then
      pickOp (queued d) fun o => codecReady s o && o.kind = .read && o.cls ≤ 2 && !sameBlock o r.op
    else none

/-- Whether a die of the den whose operation began to wait earlier takes the tokens first (R84). -/
def othersWait (s : State) (die : Nat) : Bool :=
  (s.fch.tokenQ.takeWhile (· ≠ die)).any fun x => denOf x = denOf die && (dieOf s x).queue ≠ []

/-- Whether the tokens allow an operation (R84). -/
def tokensFor (s : State) (die : Nat) (o : MOp) : Bool :=
  let c := tokenCost s (denOf die) o
  c = 0 || (denUsed s (denOf die) + c ≤ denBudget s (denOf die) && !othersWait s die)

/-- The entry of CDC_RETRY for a die's model, a mode and step `k` (R97). -/
def retryOffs (s : State) (die : Nat) (slc : Bool) (k : Nat) : List Int :=
  let v := s.get CDC_RETRY_OFFSET (dieModel s die * 2 + (if slc then 0 else 1)) k
  (List.range 15).map (packedOff v)

/-- What a read captures at its decode level, and the offsets it is read at: the tracking output at L0; at L1 a retry step's offsets added
to the captured A, on the levels that the page type reads; at L2 the last read's offsets plus, then minus, SOFT_DELTA (R97, R116). -/
def levelCap (s : State) (die : Nat) (o : MOp) : Cap × List Int × State :=
  match o.cap with
  | none =>
    let (c, s) := capture s die o.media o.slc
    (c, c.offs, s)
  | some c =>
    if o.level < 100 then
      let add := retryOffs s die o.slc o.level
      let offs := (List.range 15).map fun k =>
        if readsLevel s (dieModel s die) c.pageType o.slc k then sat8 (intAt c.offs k + intAt add k) else intAt (dieOf s die).offsets k
      ({ c with last := offs }, offs, s)
    else
      let d : Int := s.get CDC_DEC_CFG_SOFT_DELTA
      (c, c.last.map fun x => sat8 (if o.level = 100 then x + d else x - d), s)

/-- A read's offsets loaded into the LUN: Set Features at FEAT_ADDR + j with levels 4j to 4j + 3 as its parameters, for every j whose
bytes changed (R116). -/
def loadOffsets (s : State) (die : Nat) (offs : List Int) : State :=
  let d := dieOf s die
  let quad (l : List Int) (j : Nat) : List Int := (List.range 4).map fun k => intAt l (4 * j + k)
  let addr := s.get TRK_MODELm_CFG_FEAT_ADDR (dieModel s die)
  ((List.range 4).filter fun j => quad d.offsets j ≠ quad offs j).foldl
    (fun s j => s.emit (dieOut die (opCode .setFeatures) 0 0 (((addr + j : Nat) : Int) :: quad offs j) []))
    (setDieSt s die { d with offsets := offs })

/-- A codeword on the bus: bytes 0 to 4,159 and the LDPC parity over them (Table 4.1). -/
def codeword (p : List Byte) : List Byte := fit p 4160 ++ fit (Config.ldpcParity (fit p 4160)) 448

/-- The four plane pages of a program: codewords for sector-in-page 0 to 3 at byte offsets 0, 4,608, 9,216 and 13,824 of 18,432 (R93). -/
def planePages (data : List (List Byte)) : List (List Byte) :=
  (List.range 4).map fun p => (List.range 4).flatMap fun k => codeword (data.getD (4 * p + k) [])

/-- What the command sequence of an operation carries to the die. -/
def opPayload (o : MOp) : List (List Byte) :=
  if o.kind = .program then planePages o.data else if o.kind = .setFeatures then o.data else []

/-- A picked operation sent to its die, with the reads of the same page (R81). -/
def issueOp (s : State) (die : Nat) (o : MOp) : State :=
  let (cap, s) :=
    if o.kind = .read then
      let (c, offs, s) := levelCap s die o
      (some c, loadOffsets s die offs)
    else (none, s)
  let d := dieOf s die
  let susp := d.run.isSome
  let same := ((withBefore (queued d) []).filter fun x =>
    x.1 ≠ o && samePage x.1 o && !blockedBy x.2 x.1 && (!susp || x.1.cls ≤ 2)).map Prod.fst
  let fix (x : MOp) : MOp := { x with cap := cap, epoch := dieEpoch s die }
  let r : Running := ⟨fix o, same.map fix, s.timeUs, s.timeUs, 0, 0, false, 0, tokenCost s (denOf die) o, susp, none, false⟩
  let q := (d.queue.erase o).filter fun x => !same.contains x
  let s := match d.run with
    | some x => setDieSt s die { d with queue := q, reads := d.reads ++ [r], run := some { x with readsInSuspend := x.readsInSuspend + 1 } }
    | none => setDieSt s die { d with queue := q, run := some r }
  let s := if o.kind = .reset then setDieSt s die { dieOf s die with offsets := [] } else s
  s.emit (dieOut die (opCode o.kind) o.media o.count [] (opPayload o))

/-! Decode (R96 to R99). -/

/-- The device header checks that a read has: class 1 (R96). -/
def readHdr (s : State) (o : MOp) (d : List Byte) : Nat := if o.cls = 1 then opHdr s o.src d else 0

/-- Whether a source may use L2 (R97). -/
def mayL2 (src : Src) : Bool := match src with | .member _ _ | .rebuildRead _ _ _ => false | _ => true

/-- Whether a source's failed read goes on to its stripe (R97). -/
def mayL3 (src : Src) : Bool := match src with | .host _ _ | .merge _ _ | .fill _ _ _ | .copyRead _ _ => true | _ => false

/-- Whether a read is a member read (R99). -/
def isMember (src : Src) : Bool := match src with | .member _ _ | .rebuildRead _ _ _ => true | _ => false

/-- The level after a failed one: none when the die is not read again (Table 4.4). -/
def nextLevel (s : State) (o : MOp) : Option Nat :=
  let l2 := if s.on CDC_DEC_CFG_SOFT_EN ∧ mayL2 o.src = true then some 100 else none
  if o.level < s.get CDC_DEC_CFG_RETRY_MAX then some (o.level + 1)
  else if o.level < 100 then l2
  else if o.level = 100 then some 101
  else none

/-- The codeword counter of a level (Table 4.7). -/
def levelCnt (level : Nat) : Nat := if level = 0 then 0 else if level < 100 then 1 else 2

/-- A codeword of a scrub read counted with its corrected bits (R149). -/
def scrubWord (s : State) (o : MOp) (errs : Nat) : State :=
  match o.src, s.media.scrub with
  | .firmware _, some r => { s with media := { s.media with scrub := some { r with words := r.words + 1, errs := r.errs + errs } } }
  | _, _ => s

/-- The zero bits of a byte string. -/
def zeroBits (l : List Byte) : Nat := l.foldl (fun n b => n + ((List.range 8).filter fun k => !b.getLsbD k).length) 0

/-- Whether a codeword is ERASED: fewer than 64 zero bits in its raw 4,608 B (R96). -/
def erasedWord (w : CwIn) : Bool := decide (zeroBits (fit w.raw 4608) < 64)

/-- One codeword of a read: its payload where it passes, its sample at L0, its counts. An ERASED one is not decoded (R96). -/
def decodeWord (s : State) (die : Nat) (r : Running) (o : MOp) (w : CwIn) : List Byte × State :=
  if erasedWord w then ([], if o.cls = 1 then s.bump CDC_CNTn_COUNT 11 else s)
  else if w.verdict = 0 then
    let s := s.bump CDC_CNTn_COUNT (levelCnt o.level)
    let s := match o.cap with
      | some c => if o.level = 0 then sample s die c o.slc r.suspTag (isMember o.src) w.errs w.imbalance else s
      | none => s
    (fit w.payload 4160, scrubWord s o w.errs)
  else ([], s)

/-- The codewords of an operation decoded: the sectors that it now has, and whether every missing one is erased. -/
def decodeWords (s : State) (die : Nat) (r : Running) (o : MOp) (ws : List CwIn) : List (List Byte) × Bool × State :=
  (o.data.zip (List.range o.data.length)).foldl (fun x y =>
    let (l, erased, s) := x
    if y.1 ≠ [] then (l ++ [y.1], erased, s)
    else
      let w := ws.getD y.2 ⟨1, [], [], 0, 0⟩
      let (d, s) := decodeWord s die r o w
      (l ++ [d], erased && (d ≠ [] || erasedWord w), s)) ([], true, s)

/-- A read that the die cannot serve ends, or goes on to its stripe. Counter 6 counts its codewords that ended uncorrectable (R113). -/
def readFailed (s : State) (die : Nat) (o : MOp) : State :=
  if mayL3 o.src then escalate (noteBadRow s o.media) .l3 o
  else if isMember o.src then endOp s die o .uncorr
  else endOp ((s.set CDC_STATUS_UNCORR 1).bump CDC_CNTn_COUNT 6 (o.data.filter (· = [])).length) die o .uncorr

/-- An L0 failure of a class 1 read: L3 starts beside L1 where the budget allows (R98). -/
def earlyStart (s : State) (o : MOp) : State :=
  if o.level = 0 ∧ o.cls = 1 ∧ mayL3 o.src ∧ s.on CDC_DEC_CFG_EARLY_RA ∧ (earlyOf s o.src).isNone then
    match o.home with
    | none => s
    | some h => if budgetHolds s then addRecon (drawBudget s 32) .early { o with data := [[]] } h [] else budgetRefused s
  else s

/-- A read with every sector: header check, then its source (R96, R97). -/
def readPassed (s : State) (die : Nat) (o : MOp) : State :=
  match readHdr s o (o.data.headD []) with
  | 0 => endOp (dropEarly s o.src) die o (.pass o.level)
  | 1 =>
    let s := (s.set CDC_STATUS_MISDIRECT 1).bump CDC_CNTn_COUNT 9
    if mayL3 o.src then escalate s .l3 { o with data := [[]] } else endUncorr s o
  | _ => endUncorr (dropEarly s o.src) o

/-- What a read answered, taken through the levels (Table 4.4). -/
def readAnswer (s : State) (die : Nat) (r : Running) (o : MOp) (ws : List CwIn) : State :=
  if o.level = 100 then qAgain s die { o with level := 101 }
  else
    let (data, erased, s) := decodeWords s die r o ws
    let o2 := { o with data := data }
    if data.all (· ≠ []) then readPassed s die o2
    else if erased then readFailed s die o2
    else
      match nextLevel s o2 with
      | none => readFailed s die o2
      | some l => qAgain (earlyStart s o2) die { o2 with level := l }

/-- A read with its merged reads answered: the codewords come in the order of the operations (R81). -/
def readAnswers (s : State) (die : Nat) (r : Running) (l : List MOp) (ws : List CwIn) : State :=
  match l with
  | [] => s
  | o :: t => readAnswers (readAnswer s die r o (ws.take o.count)) die r t (ws.drop o.count)

/-- A program or erase answered (Table 3.9): `fail` are the planes whose status reads FAIL. Device firmware handles the block of a
descriptor's erase as that of its own (R147). -/
def writeAnswer (s : State) (die : Nat) (o : MOp) (fail : List Nat) : State :=
  if fail = [] then endOp s die o (.pass 0)
  else
    let key := die * 16384 + mediaBlock o.media
    let s := s.bump FCH_DIEd_CNT_STATUS_FAIL_CNT (chOf die) 1 (die % 8)
    let s := { s with media := { s.media with failPlanes := tput s.media.failPlanes key fail } }
    let s := match o.src with
      | .desc den i =>
        let s := descEnd s den i (descWriteStatus o.kind true (.pass 0))
        if o.kind = .erase then { s with media := { s.media with ends := s.media.ends ++ [(key, 1)] } } else s
      | _ => endOp s die o .uncorr
    dieEvent s die 2 o.media

/-- Whether an operation is polled until RDY and ARDY: those of Table 3.4 (R73, R74). -/
def isPolled (k : MKind) : Bool := k = .read || k = .program || k = .erase || k = .reset

/-- The interval between polls in µs, and the timeout in µs, of an operation (R74). -/
def pollInterval (s : State) (den : Nat) (k : MKind) : Nat :=
  match k with
  | .read => s.get FCH_DEN_POLL_INT_READ den
  | .program => s.get FCH_DEN_POLL_INT_PROG den
  | _ => s.get FCH_DEN_POLL_INT_ERASE den
def pollLimit (s : State) (den : Nat) (k : MKind) : Nat :=
  1000 * (match k with
    | .read => s.get FCH_DEN_POLL_TO_READ den
    | .program => s.get FCH_DEN_POLL_TO_PROG den
    | .erase => s.get FCH_DEN_POLL_TO_ERASE den
    | _ => s.get FCH_DEN_POLL_TO_RESET den)

/-- Whether a poll of an operation is due: the first at FIRST_PCT of its nominal time, the others at its interval, until one has read
ready (R74). Suspended time does not count. -/
def pollDue (s : State) (die : Nat) (r : Running) : Bool :=
  isPolled r.op.kind && !r.ready &&
    (match r.polledUs with
      | none => decide (s.get FCH_DEN_POLL_FIRST_PCT (denOf die) * nominal s die r.op ≤ 100 * runTime s r)
      | some t => decide (t + pollInterval s (denOf die) r.op.kind ≤ runTime s r))

/-- Whether an operation has reached its timeout without having been ready (R74). -/
def pollExpired (s : State) (die : Nat) (r : Running) : Bool :=
  isPolled r.op.kind && !r.ready && decide (pollLimit s (denOf die) r.op.kind ≤ runTime s r)

/-- Whether a status reads RDY and ARDY, bits 6 and 5 of ONFI's status byte (PRESUMED, log entry 102). -/
def statusReady (status : Nat) : Bool := bits status 5 2 = 3

/-- Whether an operation's response may come: a poll has read it ready (R73). -/
def mayAnswer (r : Running) : Bool := !isPolled r.op.kind || r.ready

/-- Whether an operation has a data-out phase. -/
def hasDataOut (k : MKind) : Bool := k = .read || k = .getFeatures || k = .paramPage || k = .readStatus

/-- The operations of a die's response: those of the run reads first. -/
def answering (d : DieSt) : Option Running :=
  match d.reads with
  | r :: _ => some r
  | [] => match d.run with | some r => if r.suspended then none else some r | none => none

/-- The operation that a die issues now: the one its rules pick where the tokens allow, else one of class 0 (R81, R84). -/
def issueNow (s : State) (die : Nat) : Option MOp :=
  if !chanRuns s die then none
  else
    match nextOp s die with
    | none => none
    | some o =>
      if tokensFor s die o then some o
      else if (dieOf s die).run.isNone then pickOp (queued (dieOf s die)) fun x => x.cls = 0
      else none

/-- Whether a die has bus work ready: a data-out phase, or an operation to issue (R83). -/
def busWork (s : State) (die : Nat) : Bool :=
  (match answering (dieOf s die) with | some r => mayAnswer r && hasDataOut r.op.kind | none => false) || (issueNow s die).isSome

/-- Whether the round robin of its channel serves a die now: no die with bus work stands between the one served last and it (R83). -/
def busTurn (s : State) (die : Nat) : Bool :=
  let after (d : Nat) : Nat := (d % 8 + 15 - (chanOf s (chOf die)).turn) % 8
  (List.range 8).all fun d => decide (after die ≤ after d) || !busWork s (chOf die * 8 + d)

/-- The die that its channel's bus has served. -/
def busServed (s : State) (die : Nat) : State := setChan s (chOf die) { chanOf s (chOf die) with turn := die % 8 }

/-- A die without the operation that has answered. -/
def dropAnswering (d : DieSt) : DieSt :=
  match d.reads with
  | _ :: t => { d with reads := t }
  | [] => { d with run := none }

/-- Whether an operation was issued under another epoch than the die's (R77). -/
def staleOp (s : State) (die : Nat) (r : Running) : Bool := r.op.epoch ≠ dieEpoch s die

/-- A response of an older epoch: discarded, counted, the operation ends with STALE_EPOCH (R77). -/
def discard (s : State) (die : Nat) (r : Running) : State :=
  let s := s.bump FCH_DIEd_CNT_EPOCH_DISCARD_CNT (chOf die) 1 (die % 8)
  (r.op :: r.merged).foldl (fun s o => endOp s die o .stale) s

/-- Operations ended by a reset of their die: ABANDONED, or STALE_EPOCH under an older epoch (R89). -/
def abandonAll (s : State) (die : Nat) (l : List Running) : State :=
  l.foldl (fun s r => (r.op :: r.merged).foldl (fun s o =>
    endOp s die o (if staleOp s die r then .stale else .abandoned)) s) s

end Sys2Proof.Machine
end

