-- ==== Sys2Proof/Machine/RowOps.lean ====
section
/-! DEFINITION. Rows: the payloads of a stripe row from staged data or from a copy slot, its parity and its programs
(R94, R100, R101, R136, R140, R263), and the running of copy and rebuild slots (R109, R135 to R138). -/

namespace Sys2Proof.Machine

/-! Payloads. -/

/-- The metadata area of an encoded sector: a new device header where the format has one, the rest carried (R136). -/
def rowMeta (fmt run q ns kg rowSeq : Nat) (m : List Byte) : List Byte :=
  if fmtHdr fmt then fit (devHdr run q ns kg 0 rowSeq ++ (fit m 64).drop 16) 64 else fit m 64

/-- A pad or lost position of a row: KIND 1 or 2 with zero data; zeros alone where the format has no header. -/
def emptySector (fmt kind rowSeq : Nat) : List Byte := if fmtHdr fmt then kindSector kind rowSeq else List.replicate 4160 0

/-- A plaintext sector sealed under a position; none where that position holds no key (R268). -/
def sealSector (s : State) (ns run q kg : Nat) (d : List Byte) : Option (List Byte) × State :=
  let (c, s) := xtsSeal s (nsSlot s ns) kg (nsLba4k s ns) (runSec s ns run q) (d.take 4096)
  (c.map fun x => fit x 4096 ++ rowMeta (nsFmt s ns) run q ns kg s.cdc.rowSeq (d.drop 4096), s)

/-- The payloads of a row as 32 pages of 16, pads after the last (R101). -/
def rowPages (rowSeq : Nat) (l : List (List Byte)) : List (List (List Byte)) :=
  (List.range 32).map fun m => (List.range 16).map fun k => l.getD (16 * m + k) (kindSector 1 rowSeq)

/-- The P and Q pages of 32 data pages (R100). -/
def pPage (pages : List (List (List Byte))) : List (List Byte) :=
  (List.range 16).map fun k => parityP (pages.map fun p => p.getD k [])
def qPage (pages : List (List (List Byte))) : List (List Byte) :=
  (List.range 16).map fun k => parityQ (pages.map fun p => p.getD k [])

/-- The page at a member position of a row (R25). -/
def pageAt (row p : Nat) (pages : List (List (List Byte))) : List (List Byte) :=
  match dataOf row p with
  | some m => pages.getD m []
  | none => if p = 2 * row % 34 then pPage pages else qPage pages

/-- Number of row accumulators (R101). -/
def accCount : Nat := 32

/-- Encoding of a row that has to wait: ACC_STALL where all accumulators are busy (R101). -/
def rowStall (s : State) : State := if accCount ≤ s.cdc.accs.length then s.set CDC_STATUS_ACC_STALL 1 else s

/-- A row put into a free accumulator, its parity pages into pool 1 buffers, and its 34 programs queued (R101). None
while no accumulator or no buffers are free. A member whose media address is invalid is not programmed, and its row fails (R11). -/
def startRow (s : State) (stripe row : Nat) (pages : List (List (List Byte))) (items : List StagedItem) (slot : Option Nat) :
    Option State :=
  if accCount ≤ s.cdc.accs.length then none
  else
    match claim s 1 8 with
    | none => none
    | some (bufs, s) =>
      let a : RowAcc := ⟨stripe, row, [], items, [], [], false, slot, bufs⟩
      let s := { s with
        cdc := { s.cdc with accs := s.cdc.accs ++ [a], rowSeq := s.cdc.rowSeq + 1 }
        media := { s.media with progUs := tput s.media.progUs (stripe * 8192 + row) s.timeUs } }
      let slc := stripeMode (stripeHdr s stripe) = 0
      some ((List.range 34).foldl (fun s p =>
        let die := memberDie (memberWord s stripe p)
        let m := memberMedia s stripe row p 0 0
        if dieState s die = 1 then
          if mediaValid s m then qPush s die (progOp (.rowProg stripe row p) slc m (pageAt row p pages))
          else rowProgEnd (badMediaEvent s m) stripe row p .abandoned
        else rowProgEnd s stripe row p .fenced) s)

/-! Rows of staged data (R35, R140, R146). -/

/-- Staging sectors that wait to be programmed: their data has arrived, no row holds them, an entry covers them. Oldest
write first. -/
def unprogrammed (s : State) : List (Nat × StgSec) :=
  let l := s.hbm.stg.filter fun x => x.2.staged && !x.2.inRow && covered s x.1
  l.foldl (fun r x => (r.takeWhile fun y => decide (y.2.seq ≤ x.2.seq)) ++ x :: (r.dropWhile fun y => decide (y.2.seq ≤ x.2.seq))) []


/-- The staged sectors of a row sealed under their slots' bound positions: a sector without a key stays in staging
(R263, R268), one that cannot be read from HBM as well. -/
def sealStaged (s : State) (stripe row : Nat) (l : List (Nat × StgSec)) : List (List Byte) × List StagedItem × State :=
  l.foldl (fun x y =>
    let (ps, items, s) := x
    let (i, g) := y
    let (d, s) := readStaged s i
    match d with
    | some d =>
      let (pos, s) := bindPos s stripe row (nsSlot s g.ns)
      (match sealSector s g.ns g.run g.q pos d with
        | (some p, s) => (ps ++ [p], items ++ [⟨ps.length, g.run, g.q, i, pos⟩], s)
        | (none, s) => (ps, items, s))
    | none => (ps, items, s)) ([], [], s)

/-- The staging sectors of a row marked: in use by its programs, placed in a row. -/
def placeStaged (s : State) (items : List StagedItem) : State :=
  let s := items.foldl (fun s x => useStg s x.idx true) s
  let stg := items.foldl (fun t x =>
    match tget t x.idx with
    | some y => tput t x.idx { y with inRow := true }
    | none => t) s.hbm.stg
  { s with hbm := { s.hbm with stg := stg } }

/-- Whether a row of a stripe may take staged data: the stripe is open, the row is not programmed, held or failed. -/
def rowOpen (s : State) (stripe row : Nat) : Bool :=
  let h := stripeHdr s stripe
  stripe < s.get MAP_STRIPE_COUNT_COUNT && stripeState h = 1 && stripeRows h ≤ row && row < 8192
    && (accOf s stripe row).isNone && !(s.map.heldRows.any fun x => x.stripe = stripe && x.row = row)
    && (match tget s.map.failedRow stripe with | some f => decide (row < f) | none => true)
    && !(s.cdc.copies.any fun x => x.2.stripe = stripe && x.2.row = row && x.2.kind ≠ 2)

/-- A row of some staged sectors encoded; the stripe's signature names their runs (R155). -/
def encodeSectors (s : State) (stripe row : Nat) (l : List (Nat × StgSec)) : State :=
  if l = [] ∨ !rowOpen s stripe row then s
  else
    let (ps, items, t) := sealStaged s stripe row l
    if items = [] then t
    else
      match startRow t stripe row (rowPages t.cdc.rowSeq ps) items none with
      | none => rowStall s
      | some u => placeStaged (sign u stripe (uniq (items.map fun x => x.run))) items

/-! Copy slots (R135 to R137). -/

/-- The entries of a copy source list; none where a line cannot be read. -/
def copyEntries (s : State) (list n : Nat) : Option (List CopyEnt) :=
  (List.range n).mapM fun k =>
    (readBytes s (list + 16 * k) 16).map fun b =>
      let w := leAt b 6 2
      ⟨leAt b 0 6, bits w 0 9, bits w 9 1, bits w 10 1 = 1, bits (leAt b 8 4) 0 29, bits (leAt b 12 2) 0 12, 0⟩

/-- Whether a slot's arguments pass the checks at GO (R136, R137). -/
def copyArgsOk (s : State) (kind stripe row : Nat) (l : List CopyEnt) : Bool :=
  let h := stripeHdr s stripe
  stripe < s.get MAP_STRIPE_COUNT_COUNT && stripeState h = 1 && stripeRows h = row && 1 ≤ l.length && l.length ≤ 512
    && (l.all fun e => e.walker || mediaValid s e.src)
    && (kind = 0 || (l.length = 512 && (l.zip (List.range 512)).all fun x => x.1.q = x.2 && x.1.run = (l.headD x.1).run))


/-- One source of a copy slot read (R135). An address that is invalid records its fault (R11). -/
def copySource (s : State) (n k : Nat) (e : CopyEnt) : State :=
  let media (s : State) (a kg : Nat) (home : Option (Nat × Nat × Nat)) : State :=
    queueRead s { readOp (.copyRead n k) 4 (blockSlc s a) a false with kg := kg, home := home }
  if !e.walker then media s e.src e.kg ((ownerOf s e.src).map fun x => (x.1, mediaPage e.src, x.2))
  else
    let (x, s) := lookup s (bits e.src 0 29) e.q
    match x with
    | .staging i =>
      (let (d, s) := readStaged s i
       match d with | some d => copyGot s n k (.plain d) 1 | none => copyGot s n k .lost 3)
    | .burrow f =>
      (let t := noteFrame s f (e.q % 16)
       match frameSector s f (e.q % 16) with
        | some d => copyGot t n k (.plain (d ++ zeroMeta (nsFmt s e.ns))) 1
        | none => copyGot t n k .lost 3)
    | .media a kg row =>
      let home := match row with
        | some (st, rw) => some (st, rw, posOf rw (e.q / 16))
        | none => (ownerOf s a).map fun x => (x.1, mediaPage a, x.2)
      media s a kg home
    | .zeros => copyGot s n k (.plain (zeroSector (nsFmt s e.ns))) 1
    | _ => copyGot s n k .lost 3

/-- The 8 KiB bitmap of a mark scan, written to LIST (R138). -/
def writeMarks (s : State) (list : Nat) (l : List MarkedBlock) : State :=
  let s := zeroBytes s list 8192
  l.foldl (fun s m =>
    let i := m.plane * 16384 + m.block
    let a := list + i / 8
    writeLe s a 1 (setBits (readLeD s a 1) (i % 8) 1 1)) s

/-- The marked blocks of a scan: those below BLOCKS in the die's four planes whose mark byte reads other than FFh in one of the two pages
(R138). A block that the scan's answer does not list reads FFh in both. -/
def scanned (s : State) (die : Nat) (l : List MarkRead) : List MarkedBlock :=
  (l.filter fun m => m.plane < 4 && m.block < s.get FCH_MODELm_GEOM_BLOCKS (dieModel s die) && (m.first ≠ 0xFF || m.last ≠ 0xFF)).map
    fun m => ⟨m.plane, m.block⟩

/-- The marks of a die's first scan stored in its Sett table: they are read only once (R151). -/
def keepMarks (s : State) (die : Nat) (l : List MarkedBlock) : State :=
  if dieScanned s die then s else { s with media := { s.media with marks := tput s.media.marks die ⟨(dieOf s die).ident, l⟩ } }

/-- A copy slot begun, once CDC is enabled: its checks, then its reads (R137, R138). -/
def copyBegin (s : State) (n : Nat) : State :=
  match tget s.cdc.copies n with
  | none => s
  | some y =>
    if y.started ∨ !s.on CDC_CTRL_ENABLE then s
    else if y.kind = 2 then
      let die := y.stripe % 2048
      if dieState s die ≠ 1 then copyEnd s n cpBadArg 63
      else if s.fch.flushing then copyEnd s n cpDropped 63
      else copyEnd (keepMarks (writeMarks s y.list (scanned s die y.marks)) die (scanned s die y.marks)) n cpOk 63
    else
      let cnt := s.get CDC_CPn_COUNT_COUNT n
      let t := noteLines s y.list (16 * cnt)
      match (if 1 ≤ cnt ∧ cnt ≤ 512 then copyEntries s y.list cnt else none), t with
      | none, s => copyEnd s n cpBadArg 63
      | some l, s =>
        let s := { s with cdc := { s.cdc with copies := tput s.cdc.copies n { y with started := true, entries := l } } }
        let bad := l.find? fun e => !e.walker && !mediaValid s e.src
        let s := match bad with | some e => badMediaEvent (s.set MAP_STATUS_INVALID_ADDR 1) e.src | none => s
        if !copyArgsOk s y.kind y.stripe y.row l then copyEnd s n cpBadArg 63
        else if s.fch.flushing then copyEnd s n cpDropped 63
        else (l.zip (List.range l.length)).foldl (fun s x => copySource s n x.2 x.1) s

/-- GO of a copy slot (R137, R139): its progress clears, and it begins or waits for CDC. -/
def copyGo (s : State) (n kind : Nat) (marks : List MarkRead) : State :=
  if 32 ≤ n ∨ s.on CDC_CPn_CTL_GO n then s
  else
    let s := ((s.set CDC_CPn_CTL_KIND kind n).set CDC_CPn_CTL_GO 1 n).set CDC_CPn_CTL_ABORT 0 n
    let s := ((s.set CDC_CPn_PROG_READ 0 n).set CDC_CPn_PROG_LOST 0 n).set CDC_CPn_PROG_MISMATCH 0 n
    let y : CopySlot := ⟨kind, s.on CDC_CPn_CTL_RECRYPT n, s.get CDC_CPn_CTL_DST_KEYGEN n, s.get CDC_CPn_DST_STRIPE n,
      s.get CDC_CPn_DST_ROW n, s.get CDC_CPn_LIST_ADDR n * 64, [], [], false, false, marks⟩
    copyBegin { s with cdc := { s.cdc with copies := tput s.cdc.copies n y } } n

/-- STATUS of an entry replaced. -/
def copyStatus (s : State) (n k status : Nat) : State :=
  match tget s.cdc.copies n with
  | none => s
  | some y =>
    let ents := y.entries.mapIdx fun i e => if i = k then { e with status := status } else e
    let s := { s with cdc := { s.cdc with copies := tput s.cdc.copies n { y with entries := ents } } }
    let s := writeLe s (y.list + 16 * k + 14) 1 status
    if status = 3 then s.set CDC_CPn_PROG_LOST (s.get CDC_CPn_PROG_LOST n + 1) n else s

/-- A sector of a copy slot without its key: lost (R268). -/
def copyNoKey (s : State) (n k fmt : Nat) : List Byte × State := (emptySector fmt 2 s.cdc.rowSeq, copyStatus s n k 3)

/-- The payload of an entry in its row (R136). -/
def copyPayload (s : State) (n k : Nat) (y : CopySlot) (e : CopyEnt) (d : CopyData) : List Byte × State :=
  let fmt := nsFmt s e.ns
  match d with
  | .pad => (emptySector fmt 1 s.cdc.rowSeq, s)
  | .lost => (emptySector fmt 2 s.cdc.rowSeq, s)
  | .plain p =>
    (match sealSector s e.ns e.run e.q y.dstKg p with
      | (some x, s) => (x, s)
      | (none, s) => copyNoKey s n k fmt)
  | .cipher kg c =>
    if (y.kind = 0 ∧ !y.recrypt) ∨ (y.kind = 1 ∧ kg = y.dstKg) then
      (c.take 4096 ++ rowMeta fmt e.run e.q e.ns kg s.cdc.rowSeq (c.drop 4096), s)
    else
      match openSector s e.ns e.run e.q kg c with
      | (none, s) => copyNoKey s n k fmt
      | (some p, s) =>
        (match sealSector s e.ns e.run e.q y.dstKg p with
          | (some x, s) => (x, s)
          | (none, s) => copyNoKey s n k fmt)

/-- A copy slot's row encoded once every entry has been read. -/
def encodeCopy (s : State) (n : Nat) (y : CopySlot) : State :=
  let (ps, t) := (y.entries.zip (List.range y.entries.length)).foldl (fun x z =>
    let (p, t) := copyPayload x.2 n z.2 y z.1 ((tget y.got z.2).getD .pad)
    (x.1 ++ [p], t)) ([], s)
  let t := match tget t.cdc.copies n with
    | some z => { t with cdc := { t.cdc with copies := tput t.cdc.copies n { z with encoded := true } } }
    | none => t
  match startRow t y.stripe y.row (rowPages t.cdc.rowSeq ps) [] (some n) with
  | none => rowStall s
  | some u => sign u y.stripe (uniq (y.entries.map fun e => e.run))

/-- The copy slot whose row this is and whose sources have all been read. -/
def copyOfRow (s : State) (stripe row : Nat) : Option (Nat × CopySlot) :=
  s.cdc.copies.find? fun x => x.2.kind ≠ 2 && x.2.stripe = stripe && x.2.row = row && x.2.started && !x.2.encoded
    && x.2.got.length = x.2.entries.length

/-! Rebuild slots (R109, R110). -/

/-- Whether a rebuild slot's arguments pass the checks of R109. The mode of a block that no stripe owns is the mode that
its programs give it. -/
def rebuildArgsOk (s : State) (n : Nat) : Bool :=
  let st := s.get CDC_RBn_SRC_STRIPE n
  let pos := s.get CDC_RBn_SRC_POSITION n
  let first := s.get CDC_RBn_ROWS_FIRST n
  let cnt := s.get CDC_RBn_ROWS_COUNT n
  let die := s.get CDC_RBn_DST_DIE n
  let blk := s.get CDC_RBn_DST_BLOCK n
  let h := stripeHdr s st
  let r := rebuildOf s n
  st < s.get MAP_STRIPE_COUNT_COUNT && pos < 34 && 1 ≤ cnt && cnt ≤ 8192 && first + cnt ≤ stripeRows h
    && dieState s die = 1 && blk < s.get FCH_MODELm_GEOM_BLOCKS (dieModel s die)
    && ((List.range 34).all fun p => p = pos || memberDie (memberWord s st p) / 8 ≠ die / 8)
    && (match ownerOf s (mkMedia die 0 blk 0 0) with | some (o, _) => stripeMode (stripeHdr s o) = stripeMode h | none => true)
    && (first = 0 || (r.prevStripe = st && r.prevPos = pos && r.prevDie = die && r.prevBlock = blk && first ≤ r.prevEnd))

/-- A rebuild slot begun, once CDC is enabled (R109). -/
def rebuildBegin (s : State) (n : Nat) : State :=
  if !s.on CDC_RBn_CTL_GO n ∨ (rebuildOf s n).running ∨ !s.on CDC_CTRL_ENABLE then s
  else if !rebuildArgsOk s n then rebuildEnd s n rbBadArg
  else
    let first := s.get CDC_RBn_ROWS_FIRST n
    setRebuild (s.set CDC_RBn_CTL_ROW first n) n
      ⟨true, false, false, [], [], [], [], s.get CDC_RBn_SRC_STRIPE n, s.get CDC_RBn_SRC_POSITION n, s.get CDC_RBn_DST_DIE n,
        s.get CDC_RBn_DST_BLOCK n, first⟩

/-- Rebuild rows in flight across all slots. -/
def rebuildRows (s : State) : Nat := (s.cdc.rebuilds.filter fun x => x.2.inRow).length

/-- The next row of a rebuild slot: its member reads queued, or a lost row programmed (R109, R110). -/
def rebuildNext (s : State) (n : Nat) : State :=
  let r := rebuildOf s n
  if !r.running ∨ r.inRow ∨ !s.on CDC_CTRL_ENABLE ∨ s.get CDC_RB_CFG_MAX_ROWS ≤ rebuildRows s then s
  else
    let st := s.get CDC_RBn_SRC_STRIPE n
    let row := s.get CDC_RBn_CTL_ROW n
    if dieState s (s.get CDC_RBn_DST_DIE n) ≠ 1 then rebuildEnd s n rbFencedDst
    else
      let ps := (activeMembers s st (s.get CDC_RBn_SRC_POSITION n) (stripeMode (stripeHdr s st) = 0)).take 32
      if ps.length < 32 then rebuildLost (setRebuild s n { r with inRow := true, members := [], got := [], failed := [] }) n row
      else
        let s := setRebuild s n { r with inRow := true, members := ps, got := [], failed := [] }
        ps.foldl (fun s p => qPush s (memberDie (memberWord s st p)) (rebuildReadOp s n st row p)) s

end Sys2Proof.Machine
end

