-- ==== Sys2Proof/Machine/FillOps.lean ====
section
/-! DEFINITION. Fills of the Burrow and what reads, hints and BUR commands do to segments (R176, R181, R182, R186). -/

namespace Sys2Proof.Machine

/-- A walker result with its stripe row, for a read of sector-in-run `q`. -/
def homeFor (s : State) (a q : Nat) (row : Option (Nat × Nat)) : Option (Nat × Nat × Nat) :=
  match row with
  | some (st, rw) => some (st, rw, posOf rw (q / 16))
  | none => (ownerOf s a).map fun x => (x.1, mediaPage a, x.2)

/-- A class 4 read of one sector of a fill through the walker, not counted in the sketch (R176). -/
def fillSector (s : State) (f k gen : Nat) : State :=
  match tget s.bur.fills f with
  | none => s
  | some y =>
    if y.gen ≠ gen then s
    else
      let q := y.seg * 16 + k
      let (x, s) := lookup s y.run q
      match x with
      | .media a kg row =>
        queueRead s { readOp (.fill f k gen) 4 (blockSlc s a) a false with kg := kg, home := homeFor s a q row }
      | .zeros => fillGot s f k (List.replicate 4096 0)
      | _ => cancelFill s f

/-- The 16 sectors of a fill read. -/
def startFill (s : State) (f : Nat) : State :=
  match tget s.bur.fills f with
  | none => s
  | some y => (List.range 16).foldl (fun s k => fillSector s f k y.gen) s

/-- A segment that may be resident: of a run below the limit, in a namespace without protection information. -/
def segOk (s : State) (run : Nat) : Bool := s.on BUR_CTRL_ENABLE && segAllowed s run

/-- A segment prefetched (R182, R186): whether it is resident or was admitted, be its fill cancelled at once, and the state. -/
def prefetchSeg (s : State) (run seg : Nat) : Bool × State :=
  if !segOk s run then (false, s)
  else
    match burFrame s run seg with
    | some f => (frameState (frameWord s f) = frValid || frameState (frameWord s f) = frFilling, s)
    | none =>
      match admitSeg s run seg with
      | (none, s) => (false, s)
      | (some f, s) => (true, startFill s f)

/-- What a pin of one segment did: pinned, waits for the fill of a number, skipped, or stopped by the limit. -/
inductive PinRes where
  | pinned
  | waits (gen : Nat)
  | skipped
  | limit
  deriving DecidableEq, Repr

/-- A segment pinned, or its fill marked to pin it; the limit stops it (R182). -/
def pinSeg (s : State) (run seg : Nat) : PinRes × State :=
  if !segOk s run then (.skipped, s)
  else
    let held := match burFrame s run seg with
      | some f =>
        if framePin (frameWord s f) then some PinRes.pinned
        else (match tget s.bur.fills f with | some y => if y.pin then some (.waits y.gen) else none | none => none)
      | none => none
    if held.isSome then (held.getD .pinned, s)
    else if pinLimit s ≤ pinsHeld s then (.limit, s.set BUR_STATUS_PIN_LIMIT 1)
    else
      let (ok, s) := prefetchSeg s run seg
      match burFrame s run seg with
      | some f =>
        if !ok then (.skipped, s)
        else if frameState (frameWord s f) = frValid then
          (.pinned, (setFramePin s f true).set BUR_PINNED_COUNT (s.get BUR_PINNED_COUNT + 1))
        else
          match tget s.bur.fills f with
          | some y => (.waits y.gen, { s with bur := { s.bur with fills := tput s.bur.fills f { y with pin := true } } })
          | none => (.skipped, s)
      | none => (.skipped, s)

/-- PIN cleared on a resident segment, with whether it was set (R182). -/
def unpinSeg (s : State) (run seg : Nat) : Bool × State :=
  match burFrame s run seg with
  | none => (false, s)
  | some f =>
    if framePin (frameWord s f) then (true, unpinFrame s f)
    else
      match tget s.bur.fills f with
      | some y => (y.pin, { s with bur := { s.bur with fills := tput s.bur.fills f { y with pin := false } } })
      | none => (false, s)

/-- USE 0 in an unpinned resident segment (R181). -/
def coolSeg (s : State) (run seg : Nat) : State :=
  match burFrame s run seg with
  | none => s
  | some f =>
    let w := frameWord s f
    if frameState w = frValid ∧ !framePin w then setFrameUse s f 0 else s

/-- `n` consecutive segments from segment `seg` of a run, continuing into following runs (R182). -/
def segSpan (run seg n : Nat) : List (Nat × Nat) := (List.range n).map fun k => (run + (seg + k) / 32, (seg + k) % 32)

/-- Segments prefetched in order: how many are resident or admitted. -/
def prefetchAll (s : State) (l : List (Nat × Nat)) : Nat × State :=
  l.foldl (fun x y => let (ok, t) := prefetchSeg x.2 y.1 y.2; (x.1 + b2n ok, t)) (0, s)

/-- Segments pinned in order up to the limit: how many are pinned, which fills will pin more, whether the limit stopped it. -/
def pinAll (s : State) (l : List (Nat × Nat)) : PinWait × State :=
  match l with
  | [] => (⟨0, false, []⟩, s)
  | y :: r =>
    match pinSeg s y.1 y.2 with
    | (.limit, s) => (⟨0, true, []⟩, s)
    | (.pinned, s) => let (w, t) := pinAll s r; ({ w with count := w.count + 1 }, t)
    | (.waits g, s) => let (w, t) := pinAll s r; ({ w with gens := g :: w.gens }, t)
    | (.skipped, s) => pinAll s r

/-- A pin of some segments begun: it waits for the fills that it pins under a key (R182). -/
def pinBegin (s : State) (key : Nat) (l : List (Nat × Nat)) : State :=
  let (w, s) := pinAll s l
  { s with bur := { s.bur with pinWait := tput s.bur.pinWait key w } }

/-- Segments unpinned: how many. -/
def unpinAll (s : State) (l : List (Nat × Nat)) : Nat × State :=
  l.foldl (fun x y => let (ok, t) := unpinSeg x.2 y.1 y.2; (x.1 + b2n ok, t)) (0, s)

/-- The counting and admission of one segment that a class 1 read touches: `hint` is the access frequency of the command,
`whole` the context when the read covers all 16 sectors and each resolved to media or zeros (R175, R176, Table 7.4). -/
def touchSeg (s : State) (run seg hint : Nat) (whole : Option Nat) : State :=
  if !s.on BUR_CTRL_ENABLE ∨ hint = 6 then s
  else
    let s := sketchCount s run seg
    if (burFrame s run seg).isSome then s
    else
      let s := s.bump BUR_CNTn_COUNT 1
      let hot := hint = 3 ∨ hint = 5 ∨ s.get BUR_ADMIT_THRESH ≤ sketchEst s run seg
      if s.on BUR_CTRL_ADMIT ∧ hint ≠ 7 ∧ hot ∧ !runStaged s run ∧ segAllowed s run = true then
        match admitSeg s run seg with
        | (none, s) => s
        | (some f, s) =>
          match whole with
          | some c => { s with bur := { s.bur with fills := s.bur.fills.map fun x => if x.1 = f then (x.1, { x.2 with ctx := some c }) else x } }
          | none => startFill s f
      else s

end Sys2Proof.Machine
end

