-- ==== Sys2Proof/Machine/IoOps.lean ====
section
/-! DEFINITION. The data path of Read, Write, Compare and Verify: translation of each sector, host data and protection
information, admission, merges, and what a commit waits for (R12, R32, R95, R134, R167 to R172, R202, R221, R243). -/

namespace Sys2Proof.Machine

/-! Reads. -/


/-- The data of a sector that the walker gave at once: kept for the command, offered to a fill that the command feeds. -/
def gotNow (s : State) (c k run q : Nat) (d : List Byte) : State :=
  opEnd (hostFill (ctxGot s c k d) c run q (some d)) c

/-- Sector `k` of a command translated and served (R32): staging and zeros at once, the Burrow and media later. `bypass`
leaves the Burrow out. -/
def serveSector (s : State) (c k : Nat) (bypass : Bool) : State :=
  match srcSector s (.host c k) with
  | none => s
  | some (ns, run, q) =>
    let (x, s) := lookup s run q bypass
    match x with
    | .staging i =>
      match readStaged s i with
      | (some d, s) => gotNow s c k run q d
      | (none, s) => opEnd (ctxErr (hostFill s c run q none) c stInternal) c
    | .burrow f => hitFrame s f c k
    | .zeros => gotNow s c k run q (zeroSector (nsFmt s ns))
    | .media a kg row =>
      queueRead s { readOp (.host c k) 1 (blockSlc s a) a false with kg := kg, home := homeFor s a q row }
    | .unrecovered => opEnd (ctxErr (hostFill s c run q none) c stUnrecovered) c
    | _ => opEnd (ctxErr (hostFill s c run q none) c stInternal) c

/-- The segments that a command's sectors touch: run, segment, the first sector of the command in it and how many. -/
def cmdSegs (s : State) (x : Ctx) : List (Nat × Nat × Nat) :=
  let ns := cmdNs x
  let a := cmdFirst s x
  let b := a + cmdSectors s x
  (List.range ((b + 15) / 16 - a / 16)).map fun j =>
    let g := a / 16 + j
    let lo := max a (g * 16)
    let hi := min b (g * 16 + 16)
    (secRun s ns (g * 16), g % 32, hi - lo)

/-- Whether every sector of a segment resolves to media or zeros (R176). -/
def segPlain (s : State) (run seg : Nat) : Bool :=
  (List.range 16).all fun k => match translate s run (seg * 16 + k) true with
    | .media _ _ _ => true
    | .zeros => true
    | _ => false

/-- A command's sectors read (R12): the Burrow counts and may admit its segments, then each sector is translated. Verify
leaves the Burrow alone: it reads media (R246). -/
def readSectors (s : State) (c : Nat) (hint : Nat) (bypass : Bool) : State :=
  match ctxOf s c with
  | none => s
  | some x =>
    let n := cmdSectors s x
    let s := setCtx s c { x with started := true, left := x.left + n }
    let s := if bypass then s else
      (cmdSegs s x).foldl (fun s g =>
        touchSeg s g.1 g.2.1 hint (if g.2.2 = 16 ∧ segPlain s g.1 g.2.1 = true then some c else none)) s
    (List.range n).foldl (fun s k => serveSector s c k bypass) s

/-! Protection information (R95, R243). Tags are bytes as they are transferred. -/

/-- Guard of the data of a logical block, as `n` bytes most significant first. -/
def guardBytes (md : Nat) (d : List Byte) : List Byte := if md = 8 then natBe (guard16 d) 2 else natBe (guard64 d) 8

/-- Bytes of a guard, and of all tags, by metadata size. -/
def guardLen (md : Nat) : Nat := if md = 8 then 2 else 8

/-- A big-endian number. -/
def beNat (l : List Byte) : Nat := leNat l.reverse

/-- Application and reference tag of protection information of `md` bytes. -/
def piApp (md : Nat) (p : List Byte) : Nat := beNat ((p.drop (guardLen md)).take 2)
def piRef (md : Nat) (p : List Byte) : Nat := beNat (p.drop (guardLen md + 2))
def refBits (md : Nat) : Nat := if md = 8 then 32 else 48

/-- The first reference tag that a command expects; its upper bits lie in CDW3 for the 48-bit tag. -/
def cmdRef (md : Nat) (x : Ctx) : Nat := (x.sqe.cdw14 + x.sqe.cdw3 * 2 ^ 32) % 2 ^ refBits md

/-- Status of the check of one logical block's protection information (0 passes): `i` its number in the command. -/
def piCheck (md ty chk : Nat) (x : Ctx) (i : Nat) (d p : List Byte) : Nat :=
  let ones := piApp md p = 0xFFFF && (ty ≠ 3 || piRef md p = 2 ^ refBits md - 1)
  if ty = 0 ∨ ones then 0
  else if bits chk 2 1 = 1 ∧ p.take (guardLen md) ≠ guardBytes md d then stGuard
  else if bits chk 1 1 = 1 ∧ (piApp md p ^^^ bits x.sqe.cdw15 0 16) &&& bits x.sqe.cdw15 16 16 ≠ 0 then stAppTag
  else if bits chk 0 1 = 1 ∧ ty ≠ 3 ∧ piRef md p ≠ (cmdRef md x + i) % 2 ^ refBits md then stRefTag
  else 0

/-- Protection information made for a logical block (PRACT). -/
def piMake (md ty : Nat) (x : Ctx) (i : Nat) (d : List Byte) : List Byte :=
  guardBytes md d ++ natBe (bits x.sqe.cdw15 0 16) 2
    ++ natBe ((cmdRef md x + (if ty = 3 then 0 else i)) % 2 ^ refBits md) (md - guardLen md - 2)

/-- Logical blocks of a sector by format, and its data and metadata taken from a payload (Table 4.2). -/
def lbaPer (fmt : Nat) : Nat := if fmt < 3 then 8 else 1

/-- Data and protection information of logical block `j` of a sector's payload: in 512 B formats the guard is computed
from the data (R95). -/
def blockOf (fmt : Nat) (d : List Byte) (j : Nat) : List Byte × List Byte :=
  let md := mdBytes fmt
  if fmt < 3 then
    let b := (d.drop (512 * j)).take 512
    let tags := if fmt = 1 then (d.drop (4112 + 6 * j)).take 6 else if fmt = 2 then (d.drop (4096 + 8 * j)).take 8 else []
    (b, if md = 0 then [] else guardBytes md b ++ tags)
  else (d.take 4096, (d.drop 4112).take md)

/-- A sector's payload from its logical blocks, each data and protection information. -/
def sectorOf (fmt : Nat) (l : List (List Byte × List Byte)) : List Byte :=
  let d := l.flatMap Prod.fst
  let m := l.map Prod.snd
  if fmt = 1 then d ++ fit (List.replicate 16 0 ++ m.flatMap fun p => p.drop 2) 64
  else if fmt = 2 then d ++ fit (m.flatMap fun p => p.drop 8) 64
  else d ++ fit (List.replicate 16 0 ++ m.flatMap id) 64

/-- Sector number within the command, and block within the sector, of logical block `i` of a command. -/
def blockPlace (s : State) (x : Ctx) (i : Nat) : Nat × Nat :=
  let lba := cmdSlba x + i
  (lbaSector s (cmdNs x) lba - cmdFirst s x, if nsLba4k s (cmdNs x) then 0 else lba % 8)

/-- The logical blocks of a read command from the sectors that it has. -/
def readBlocks (s : State) (x : Ctx) : List (List Byte × List Byte) :=
  let fmt := nsFmt s (cmdNs x)
  (List.range (cmdNlb x)).map fun i =>
    let (k, j) := blockPlace s x i
    blockOf fmt (tgetD x.got k []) j

/-- The first failing check of a list of logical blocks, 0 for none. -/
def checkBlocks (s : State) (x : Ctx) (chk : Nat) (l : List (List Byte × List Byte)) : Nat :=
  let md := mdBytes (nsFmt s (cmdNs x))
  let ty := nsPiType s (cmdNs x)
  if md = 0 then 0
  else
    (l.zip (List.range l.length)).foldl (fun st y => if st ≠ 0 then st else piCheck md ty chk x y.2 y.1.1 y.1.2) 0

/-- The host's data buffer of a list of logical blocks, and its separate metadata buffer. -/
def hostBuffers (s : State) (x : Ctx) (l : List (List Byte × List Byte)) : List Byte × List Byte :=
  let m := if hostMd s x = 0 then l.map fun _ => ([] : List Byte) else l.map Prod.snd
  if nsExt s (cmdNs x) then ((l.zip m).flatMap fun y => y.1.1 ++ y.2, []) else (l.flatMap Prod.fst, m.flatMap id)

/-! Writes. -/


/-- Whether a write admitted now completes only when it is durable (Table 7.2, R172): write-through, WCE = 0, or FUA with
a volatile write cache. -/
def writeWaits (s : State) (x : Ctx) : Bool :=
  s.on HBM_CEIL_WT || (s.on HBM_CEIL_VWC && (feat s x.f 6 0 % 2 = 0 || bits x.sqe.cdw12 30 1 = 1))

/-- The placement handle of a write: the named entry of the namespace's list, else its first; none past the list's end
(R252). -/
def writeHandle (s : State) (x : Ctx) : Option Nat :=
  match nsInfo s (cmdNs x) with
  | none => some 0
  | some i =>
    if !s.sys.image.fdp ∨ i.handles = [] then some 0
    else if bits x.sqe.cdw12 20 4 = 2 then i.handles[bits x.sqe.cdw13 16 16]? else i.handles[0]?

/-- The sectors of a write: run and sector-in-run. -/
def writeSecs (s : State) (x : Ctx) : List (Nat × Nat) :=
  (List.range (cmdSectors s x)).map fun k =>
    let sec := cmdFirst s x + k
    (secRun s (cmdNs x) sec, secQ sec)

/-- Sectors of a write that it covers only in part (R168). -/
def partSectors (s : State) (x : Ctx) : List Nat :=
  if nsLba4k s (cmdNs x) then []
  else
    let a := cmdSlba x % 8
    let b := (cmdSlba x + cmdNlb x) % 8
    let n := cmdSectors s x
    (List.range n).filter fun k => (k = 0 && a ≠ 0) || (k = n - 1 && b ≠ 0)

/-- The current data of a partly written sector asked for (R168): from staging, the Burrow or zeros at once, from media by
a class 1 read. -/
def mergeRead (s : State) (c k : Nat) : State :=
  match srcSector s (.merge c k) with
  | none => s
  | some (ns, run, q) =>
    let put (s : State) (d : List Byte) : State := updCtx s c fun x => { x with merges := tput x.merges k (some d) }
    let fail (s : State) (st : Nat) : State := ctxErr (s.bump HBM_CNTn_COUNT 5) c st
    let s := (updCtx s c fun x => { x with merges := tput x.merges k none }).bump HBM_CNTn_COUNT 4
    let (x, s) := lookup s run q
    let (x, s) := match x with
      | .burrow f => (let t := noteFrame s f (q % 16); if (frameSector s f (q % 16)).isSome then (x, t) else lookup t run q true)
      | _ => (x, s)
    match x with
    | .staging i => match readStaged s i with | (some d, s) => put s d | (none, s) => fail s stInternal
    | .burrow f => put (s.bump BUR_CNTn_COUNT 0) ((frameSector s f (q % 16)).getD [] ++ zeroMeta (nsFmt s ns))
    | .zeros => put s (zeroSector (nsFmt s ns))
    | .media a kg row =>
      let s := updCtx s c fun x => { x with left := x.left + 1 }
      queueRead s { readOp (.merge c k) 1 (blockSlc s a) a false with kg := kg, home := homeFor s a q row }
    | .unrecovered => fail s stUnrecovered
    | _ => fail s stInternal

/-- Pieces of some ranges, each of at most `m` bytes, with the byte offset of each from `off` on. -/
def rangeFuel : Nat := 100000
def readPieces (fuel off m : Nat) (l : List (Nat × Nat)) : List (Nat × Nat × Nat) :=
  match fuel, l with
  | 0, _ => []
  | _, [] => []
  | k + 1, (a, n) :: r =>
    if n ≤ m then (off, a, n) :: readPieces k (off + n) m r
    else (off, a, m) :: readPieces k (off + m) m ((a + m, n - m) :: r)

/-- Offset that stands for the first byte of a separate metadata buffer. -/
def mdOff : Nat := 2 ^ 32

/-- Bytes of the separate metadata buffer of a command. -/
def mdLen (s : State) (x : Ctx) : Nat := if nsExt s (cmdNs x) then 0 else cmdNlb x * hostMd s x

/-- The host data of a write or a compare asked for: reads of at most the Max_Read_Request_Size (R196, R202). -/
def askData (s : State) (c : Nat) : State :=
  match ctxOf s c with
  | none => s
  | some x =>
    let m := maxRead s x.f
    let l := readPieces rangeFuel 0 m x.dma
    let k := if mdLen s x = 0 then [] else readPieces rangeFuel mdOff m [(x.sqe.mptr, mdLen s x)]
    (l ++ k).foldl (fun s y => ctxReq s c (.data c y.1) y.2.1 y.2.2) s

/-- Whether all host data of a command has arrived. -/
def dataHere (s : State) (x : Ctx) : Bool :=
  ((x.raw.map fun y => y.2.length).foldl (· + ·) 0) = dataLen s x + mdLen s x && 0 < dataLen s x

/-- The logical blocks that the host sent: data and protection information, made where PRACT asks for it. -/
def hostBlocks (s : State) (x : Ctx) : List (List Byte × List Byte) :=
  let ns := cmdNs x
  let d := (x.raw.filter fun y => y.1 < mdOff).flatMap Prod.snd
  let m := (x.raw.filter fun y => mdOff ≤ y.1).flatMap Prod.snd
  let z := lbaSize s ns
  let h := hostMd s x
  let md := mdBytes (nsFmt s ns)
  (List.range (cmdNlb x)).map fun i =>
    let b := (d.drop (hostLba s x * i)).take z
    let p := if nsExt s ns then (d.drop (hostLba s x * i + z)).take h else (m.drop (h * i)).take h
    (b, if h = 0 ∧ md ≠ 0 then piMake md (nsPiType s ns) x i b else p)

/-- The first failing check of a write's blocks: those of PRCHK, and in 512 B formats the guard of every block (R95). -/
def writeCheck (s : State) (x : Ctx) (l : List (List Byte × List Byte)) : Nat :=
  let fmt := nsFmt s (cmdNs x)
  let md := mdBytes fmt
  if (fmt = 1 ∨ fmt = 2) ∧ l.any (fun y => y.2.take (guardLen md) ≠ guardBytes md y.1) then stGuard
  else if hostMd s x = 0 then 0
  else checkBlocks s x (prChk x) l

/-- Sector `k` of a write as it will stand in staging: the host's blocks, over the merged data where it is partial. -/
def writeSector (s : State) (x : Ctx) (l : List (List Byte × List Byte)) (k : Nat) (base : List Byte) : List Byte :=
  let fmt := nsFmt s (cmdNs x)
  sectorOf fmt ((List.range (lbaPer fmt)).map fun j =>
    let i := (cmdFirst s x + k) * lbaPer fmt + j
    if cmdSlba x ≤ i ∧ i < cmdSlba x + cmdNlb x then l.getD (i - cmdSlba x) ([], []) else blockOf fmt base j)

/-- A write with every sector complete: its data goes to its staging sectors and counts as staged (R31, R167). -/
def tryStage (s : State) (c : Nat) : State :=
  match ctxOf s c with
  | none => s
  | some x =>
    if x.staged ∨ x.err ≠ 0 ∨ x.got.length ≠ cmdSectors s x ∨ x.stage = .draining then s
    else
      let s := (x.stg.zip x.got).foldl (fun s y =>
        writeBytes (writeBytes s (stgAddr s y.1) (y.2.2.take 4096)) (stgMeta s y.1) (y.2.2.drop 4096)) s
      durKick (stageWrite s c)

/-- Host data of a write complete: it is checked, and the sectors that it covers wholly are made (R95, R168). -/
def writeArrived (s : State) (c : Nat) : State :=
  match ctxOf s c with
  | none => s
  | some x =>
    if !isIo x 1 ∨ !dataHere s x then s
    else
      let l := hostBlocks s x
      let st := writeCheck s x l
      if st ≠ 0 then ctxErr s c st
      else
        let part := partSectors s x
        let full := (List.range (cmdSectors s x)).filter fun k => !part.contains k
        let got := full.foldl (fun t k => tput t k (writeSector s x l k [])) x.got
        tryStage (setCtx s c { x with got := got }) c

/-- A write admitted (R169): its staging sectors are reserved, its merge reads begin and its data is asked for. -/
def admitWrite (s : State) (c : Nat) : State :=
  match ctxOf s c with
  | none => s
  | some x =>
    let s := setCtx s c { x with started := true, waitDur := writeWaits s x }
    let s := reserveSectors s c (cmdNs x) ((writeHandle s x).getD 0) (writeSecs s x)
    let s := (partSectors s x).foldl (fun s k => mergeRead s c k) s
    if dmaReady x then askData s c else s

/-- Whether staged data of a namespace waits for a key: its slot holds none (R268). -/
def keyless (s : State) (ns : Nat) : Bool :=
  !keyValid s (nsSlot s ns) 0 && !keyValid s (nsSlot s ns) 1 && s.hbm.stg.any fun x => x.2.staged && x.2.ns = ns

/-- Whether the 8840 admits a write of `n` sectors to a namespace now (R134, R170, R268). -/
def mayAdmit (s : State) (ns n : Nat) : Bool := roomFor s n && !reserveStops s && !keyless s ns

/-- Whether a command's namespace waits for a key. -/
def keyWait (s : State) (c : Nat) : Bool := match ctxOf s c with | some x => keyless s (cmdNs x) | none => false

/-- The place of a command in fetch order. -/
def seqOf (s : State) (c : Nat) : Nat := match ctxOf s c with | some x => x.seq | none => 0

/-- Whether a write that was fetched before the one of number `seq` is held; one that waits for its namespace's key holds up no other
(R170, R268). -/
def heldBefore (s : State) (seq : Nat) : Bool := s.hbm.held.any fun h => decide (seqOf s h.ctx < seq) && !keyWait s h.ctx

/-- A write held in fetch order, once: CEIL_HIT is set and HBM_CNT3 advances (R170). -/
def holdWrite (s : State) (c n : Nat) : State :=
  if s.hbm.held.any fun h => h.ctx = c then s
  else
    let early (h : HeldWrite) : Bool := decide (seqOf s h.ctx ≤ seqOf s c)
    let l := s.hbm.held
    { ((s.set HBM_STATUS_CEIL_HIT 1).bump HBM_CNTn_COUNT 3) with
      hbm := { s.hbm with held := l.takeWhile early ++ ⟨c, n⟩ :: l.dropWhile early } }

/-- A write no longer held. -/
def unholdWrite (s : State) (c : Nat) : State := { s with hbm := { s.hbm with held := s.hbm.held.filter fun h => h.ctx ≠ c } }

/-! Commits (R221, Table 7.2). -/

/-- Host counters of the health log: a successful read or write of `n` bytes (Table 6.5). -/
def countIo (s : State) (write : Bool) (n : Nat) : State :=
  let h := s.media.health
  let h := if write then { h with bytesWritten := h.bytesWritten + n, writeCmds := h.writeCmds + 1 }
    else { h with bytesRead := h.bytesRead + n, readCmds := h.readCmds + 1 }
  { s with media := { s.media with health := h } }

/-- Media and Data Integrity Errors: a command completed with Unrecovered Read Error or an end-to-end check error on
read (Table 6.5). -/
def countIntegrity (s : State) (x : Ctx) (st : Nat) : State :=
  let rd := isIo x 2 || isIo x 5 || isIo x 0x0C
  if st = stUnrecovered ∨ (rd ∧ (st = stGuard ∨ st = stAppTag ∨ st = stRefTag)) then
    { s with media := { s.media with health := { s.media.health with integrityErrs := s.media.health.integrityErrs + 1 } } }
  else s

/-- A command committed with an error: a write's staging sectors are released without retirement (R206). -/
def commitErr (s : State) (c : Nat) (x : Ctx) (st : Nat) : State :=
  commitCtx (releaseUnstaged (countIntegrity s x st) c) c st 0 0

/-- The buffers that hold a Read's data for the host port, in the order in which they were given: address and size (log entry 112). -/
def portBuffers (s : State) (c : Nat) : List (Nat × Nat) :=
  (s.bpm.grants.filter fun g => g.1 = c).map fun g => (g.2, bufferSize s g.2)

/-- The words of buffer SRAM that hold the `n` bytes at `off` of a Read's data and fail the SRAM check (R208, R299). -/
def portBad (s : State) (c off n : Nat) : List Nat :=
  (cutRanges (portBuffers s c) off n).flatMap fun r => s.bpm.bad.filter fun w => decide (r.1 < w * 8 + 8) && decide (w * 8 < r.1 + r.2)

/-- A Read's data and separate metadata sent to the host: a TLP whose buffer data fails the SRAM check has EP set, and the command
then completes with Data Transfer Error (R208). -/
def sendRead (s : State) (c : Nat) (x : Ctx) (d m : List Byte) : State :=
  let ep (off n : Nat) : Bool := decide (portBad s c off n ≠ [])
  let t := writeChecked ep s x.f 0 (cutRanges x.dma 0 d.length) d
  let t := if m = [] then t else writeChecked ep t x.f d.length [(x.sqe.mptr, m.length)] m
  match portBad s c 0 (d.length + m.length) with
  | [] => commitCtx (countIo t false (cmdNlb x * lbaSize t (cmdNs x))) c 0 0 0
  | l => commitErr (l.foldl noteWord t) c x stDataTransfer

/-- A Read with all its sectors (R12, R202, R243): its protection information is checked, its data written to the host. -/
def commitRead (s : State) (c : Nat) (x : Ctx) : State :=
  let l := readBlocks s x
  let st := checkBlocks s x (prChk x) l
  if st ≠ 0 then commitErr s c x st
  else
    let (d, m) := hostBuffers s x l
    sendRead s c x d m

/-- A Compare with all its sectors and its host data (R246). -/
def commitCompare (s : State) (c : Nat) (x : Ctx) : State :=
  let l := readBlocks s x
  let h := hostBlocks s x
  let st := checkBlocks s x (prChk x) l
  let same := (l.zip h).all fun y => y.1.1 = y.2.1 && (hostMd s x = 0 || y.1.2.drop (guardLen (mdBytes (nsFmt s (cmdNs x)))) =
    y.2.2.drop (guardLen (mdBytes (nsFmt s (cmdNs x)))))
  if st ≠ 0 then commitErr s c x st
  else if !same then commitCtx s c stCompare 0 0
  else commitCtx (countIo s false (cmdNlb x * lbaSize s (cmdNs x))) c 0 0 0

/-- A Verify with all its sectors (R246). -/
def commitVerify (s : State) (c : Nat) (x : Ctx) : State :=
  let st := checkBlocks s x (prChk x) (readBlocks s x)
  if st ≠ 0 then commitErr s c x st else commitCtx s c 0 0 0

/-- The commit of a command that CMD executes, where everything that it waits for has come (R221, R232, Table 7.2). A
command of a function without Bus Master Enable stays where it stands (R209); a Fence has a commit of its own. -/
def commitRow (s : State) (c : Nat) : State :=
  match ctxOf s c with
  | none => s
  | some x =>
    if x.stage ≠ .running ∨ !x.started ∨ !byCmd x ∨ !bme s x.f ∨ x.left ≠ 0 then s
    else if x.sq = 0 then (if x.fences = [] then commitCtx s c x.err x.dw0 0 else s)
    else if x.err ≠ 0 then commitErr s c x x.err
    else if x.sqe.opcode = 2 then (if dmaReady x then commitRead s c x else s)
    else if x.sqe.opcode = 5 then (if dataHere s x then commitCompare s c x else s)
    else if x.sqe.opcode = 0x0C then commitVerify s c x
    else if x.sqe.opcode = 1 then
      (if x.staged && (!x.waitDur || isDurable s x) then
        commitCtx (countIo s true (cmdNlb x * lbaSize s (cmdNs x))) c 0 0 0
      else s)
    else if x.sqe.opcode = 0 then (if !x.waitDur || isDurable s x then commitCtx s c 0 0 0 else s)
    else s

/-- A command that CMD executes begun once: `g` runs on one of the opcode whose records are granted, while its function
may master the bus (R209). -/
def cmdRun (s : State) (c : Nat) (op : Nat) (g : State → Ctx → State) : State :=
  match ctxOf s c with
  | none => s
  | some x =>
    if x.stage = .running && !x.started && byCmd x && x.sq ≠ 0 && x.sqe.opcode = op && bme s x.f then g s x else s

/-! Abort (R231). -/

/-- What a Fence stopped is fetched again. -/
def unfence (s : State) (c : Nat) : State :=
  { s with cmd := { s.cmd with sqs := s.cmd.sqs.map fun x => (x.1, if x.2.fence = some c then { x.2 with fence := none } else x.2) } }

/-- Whether a command is past its commit point: committed, taken by firmware, or a write with all its data (R221). -/
def isCommitted (x : Ctx) : Bool := x.stage = .committed || x.stage = .taken || x.staged

/-- A command stopped by an Abort or by the deletion of its queue, with its status (R231, R236). -/
def stopCommand (s : State) (t : Nat) (x : Ctx) (st : Nat) : State :=
  let s := match x.stage with
    | .ringed i => writeLe s (ringAddr s i + 80) 1 (setBits (readLeD s (ringAddr s i + 80) 1) 2 1 1)
    | _ => s
  let s := unfence (dropWaitReqs (releaseUnstaged s t) t) t
  updLockStop (commitCtx s t st 0 0) x.f x.sq

/-- The command that an Abort names. -/
def abortTarget (s : State) (c : Nat) (x : Ctx) : Option (Nat × Ctx) :=
  s.cmd.ctxs.find? fun y => y.1 ≠ c && y.2.f = x.f && y.2.tunnel.isNone && y.2.sq = bits x.sqe.cdw10 0 16
    && y.2.sqe.cid = bits x.sqe.cdw10 16 16 && y.2.stage ≠ .draining && y.2.stage ≠ .fetching

/-- An Abort executed: DW0 bit 0 says that nothing was stopped; it commits behind the target's entry (R231, R232). -/
def abortRun (s : State) (c : Nat) (x : Ctx) : State :=
  let fin (s : State) (dw0 : Nat) (w : List Nat) : State := updCtx s c fun y => { y with started := true, dw0 := dw0, fences := w }
  match abortTarget s c x with
  | none => fin s 1 []
  | some (t, y) =>
    if s.nvm.aers.contains t then fin s 1 []
    else if isCommitted y then fin s 1 [t]
    else fin ((stopCommand s t y stAbortRequested).bump CMD_CNTn_COUNT 2) 0 [t]

end Sys2Proof.Machine
end

