-- ==== Sys2Proof/Machine/AdmOps.lean ====
section
/-! DEFINITION. Admin commands: queue administration, features, power states and asynchronous events (R215, R216, R249,
R250, R380, R381, R385, R386). -/

namespace Sys2Proof.Machine

/-- Data of an admin command for its sender: host memory, or the response of a tunnelled command (R402). -/
def fwData (s : State) (x : Ctx) (c off : Nat) (d : List Byte) : State :=
  match x.tunnel with
  | some _ => updCtx s c fun y => { y with raw := tput y.raw off d }
  | none => ctxWrite s c off d

/-! Queues (R216). -/

/-- QID and QSIZE of a queue command. -/
def cmdQid (x : Ctx) : Nat := bits x.sqe.cdw10 0 16
def cmdQsize (x : Ctx) : Nat := bits x.sqe.cdw10 16 16

/-- Checks that both Create commands share; `used` says that the identifier is in use and `es` that the entry size of CC
is right. -/
def createStatus (s : State) (x : Ctx) (used es : Bool) : Nat :=
  if cmdQid x = 0 ∨ pairsOf s x.f < cmdQid x ∨ used = true then stInvalidQid
  else if cmdQsize x = 0 then stInvalidQsize
  else if bits x.sqe.cdw11 0 1 = 0 ∨ x.sqe.dptr1 % pageSize s x.f ≠ 0 ∨ es = false then stInvalidField
  else 0

/-- Interrupt enable, vector and priority of a Create command. -/
def cmdIen (x : Ctx) : Bool := bits x.sqe.cdw11 1 1 = 1
def cmdHigh11 (x : Ctx) : Nat := bits x.sqe.cdw11 16 16

/-- Status of Create I/O Completion Queue. -/
def createCqStatus (s : State) (x : Ctx) : Nat :=
  let st := createStatus s x (cqOf s x.f (cmdQid x)).isSome (s.get NVME_CC_IOCQES x.f = 4)
  if st ≠ 0 then st
  else if (cmdIen x ∧ vecCount s x.f ≤ cmdHigh11 x) ∨ (cmdHigh11 x ≠ 0 ∧ !s.on CFG_MSIX_EN x.f) then stInvalidVector
  else 0

/-- Status of Create I/O Submission Queue. -/
def createSqStatus (s : State) (x : Ctx) : Nat :=
  let st := createStatus s x (sqOf s x.f (cmdQid x)).isSome (s.get NVME_CC_IOSQES x.f = 6)
  if st ≠ 0 then st
  else if cmdHigh11 x = 0 ∨ (cqOf s x.f (cmdHigh11 x)).isNone then stCqInvalid
  else 0

/-- A function has created an I/O queue since its last controller reset (R215). -/
def noteCreated (s : State) (f : Nat) : State :=
  if s.cmd.created.contains f then s else { s with cmd := { s.cmd with created := f :: s.cmd.created } }

def createCq (s : State) (c : Nat) (x : Ctx) : State :=
  let st := createCqStatus s x
  if st ≠ 0 then fwPost s c st 0 0
  else
    let q : Cq := ⟨x.sqe.dptr1, cmdQsize x + 1, cmdHigh11 x, cmdIen x, 0, 0, true, []⟩
    fwPost (noteCreated (setCq s x.f (cmdQid x) q) x.f) c 0 0 0

def createSq (s : State) (c : Nat) (x : Ctx) : State :=
  let st := createSqStatus s x
  if st ≠ 0 then fwPost s c st 0 0
  else
    let q : Sq := ⟨x.sqe.dptr1, cmdQsize x + 1, cmdHigh11 x, bits x.sqe.cdw11 1 2, 0, 0, 0, none, none, false, false⟩
    fwPost (noteCreated (setSq s x.f (cmdQid x) q) x.f) c 0 0 0

/-- Whether a submission queue of a function uses a completion queue. -/
def cqUsedBy (s : State) (f q : Nat) : Bool := s.cmd.sqs.any fun y => y.1 / 65536 = f && y.2.cq = q

/-- Delete I/O Completion Queue (R216). -/
def deleteCq (s : State) (c : Nat) (x : Ctx) : State :=
  if cmdQid x = 0 ∨ (cqOf s x.f (cmdQid x)).isNone then fwPost s c stInvalidQid 0 0
  else if cqUsedBy s x.f (cmdQid x) then fwPost s c stInvalidQdel 0 0
  else fwPost (updInta { s with cmd := { s.cmd with cqs := tdel s.cmd.cqs (qkey x.f (cmdQid x)) } } x.f) c 0 0 0

/-- Contexts of a submission queue whose commands are not committed. -/
def sqUncommitted (s : State) (f q : Nat) : List (Nat × Ctx) :=
  s.cmd.ctxs.filter fun y => y.2.f = f && y.2.sq = q && y.2.tunnel.isNone && !isCommitted y.2 && y.2.stage ≠ .draining
    && y.2.stage ≠ .fetching

/-- Delete I/O Submission Queue (R216, R236): fetch from it stops, its uncommitted commands complete as aborted, and the
Delete completes when the last of its commands has posted. A second Delete waits for the first. -/
def deleteSq (s : State) (c : Nat) (x : Ctx) : State :=
  match if cmdQid x = 0 then none else sqOf s x.f (cmdQid x) with
  | none => fwPost s c stInvalidQid 0 0
  | some q =>
    if q.deleting.isSome then s
    else
      let s := setSq s x.f (cmdQid x) { q with deleting := some c }
      let s := (sqUncommitted s x.f (cmdQid x)).foldl (fun s y => stopCommand s y.1 y.2 stSqDeletion) s
      deleteCheck s x.f (cmdQid x)

/-! Number of Queues (R215). -/

/-- The part of the shared remainder that other functions have not taken above their QMIN. -/
def queueRemainder (s : State) (f : Nat) : Nat :=
  let fs := (List.range 256).filter (fnPresent s)
  let sum (g : Nat → Nat) (l : List Nat) : Nat := l.foldl (fun n k => n + g k) 0
  (262144 - sum (fun k => s.get CMD_FNf_CFG0_QMIN k) fs)
    - sum (fun k => s.get CMD_FNf_STATE_QALLOC k - s.get CMD_FNf_CFG0_QMIN k) (fs.filter (· ≠ f))

/-- The pairs that a Set Features Number of Queues allocates. -/
def queueGrant (s : State) (f want : Nat) : Nat :=
  min (min (want + 1) (s.get CMD_FNf_CFG0_QMAX f)) (min (barPairs s f) (s.get CMD_FNf_CFG0_QMIN f + queueRemainder s f))

/-! Features (R249). -/

/-- Feature identifier, and whether the fields that every Set Features has are right: 0 goes on. -/
def cmdFid (x : Ctx) : Nat := bits x.sqe.cdw10 0 8
def setStatus (x : Ctx) : Nat :=
  if bits x.sqe.cdw10 31 1 = 1 then stNotSaveable else if bits x.sqe.cdw10 8 23 ≠ 0 then stInvalidField else 0

/-- A Set Features of the identifiers `p`, run by `g` once its common fields are right. -/
def setRun (s : State) (c : Nat) (p : Nat → Bool) (g : State → Ctx → State) : State :=
  fwRun s c false 0x09 fun s x =>
    if !p (cmdFid x) then s
    else if setStatus x ≠ 0 then fwPost s c (setStatus x) 0 0
    else g s x

/-- Number of Queues (R215). -/
def setQueues (s : State) (c : Nat) (x : Ctx) : State :=
  if s.cmd.created.contains x.f then fwPost s c stSequence 0 0
  else
    let p := queueGrant s x.f (max (bits x.sqe.cdw11 0 16) (bits x.sqe.cdw11 16 16))
    let s := returnPairs s x.f
    let s := (s.set CMD_FNf_STATE_QALLOC p x.f).set CMD_QPOOL_FREE_COUNT (s.get CMD_QPOOL_FREE_COUNT - p)
    fwPost s c 0 ((p - 1) + (p - 1) * 65536) 0

/-- Power Management (R380, R381, R383): PS from 0 to 4; the Workload Hint has no effect. -/
def setPower (s : State) (c : Nat) (x : Ctx) : State :=
  let v := x.sqe.cdw11
  if 4 < bits v 0 5 ∨ 256 ≤ v then fwPost s c stInvalidField 0 0
  else
    let s := setFeat s x.f 2 0 v
    let s := if bits v 0 5 < 4 then { s with nvm := { s.nvm with lastOp := tput s.nvm.lastOp x.f v } } else s
    fwPost (updPs s) c 0 0 0

/-- Volatile Write Cache (Table 7.2): refused while none is reported. -/
def setWce (s : State) (c : Nat) (x : Ctx) : State :=
  if !s.on HBM_CEIL_VWC ∨ 2 ≤ x.sqe.cdw11 then fwPost s c stInvalidField 0 0
  else fwPost (setFeat s x.f 6 0 x.sqe.cdw11) c 0 0 0

/-- Sub-indices of feature 04h that a command names: sensor TMPSEL, or all with Fh; 16 more for the under-temperature
threshold. -/
def thresholdSubs (v : Nat) (all : Bool) : List Nat :=
  let n := bits v 16 4
  let k := bits v 20 2
  if 2 ≤ k ∨ 2 ^ 22 ≤ v then []
  else if n ≤ 8 then [n + 16 * k]
  else if n = 15 ∧ all = true then (List.range 9).map fun i => i + 16 * k
  else []

/-- Temperature Threshold (R385). -/
def setThreshold (s : State) (c : Nat) (x : Ctx) : State :=
  match thresholdSubs x.sqe.cdw11 true with
  | [] => fwPost s c stInvalidField 0 0
  | a :: r => fwPost (updTempWarn ((a :: r).foldl (fun s k => setFeat s subsys 4 k (bits x.sqe.cdw11 0 16)) s)) c 0 0 0

/-- Whether a thermal management temperature is admitted (R386). -/
def tmtOk (t : Nat) : Bool := t = 0 || (273 ≤ t && t ≤ 368)

/-- Host Controlled Thermal Management (R386). -/
def setHctm (s : State) (c : Nat) (x : Ctx) : State :=
  let t1 := bits x.sqe.cdw11 16 16
  let t2 := bits x.sqe.cdw11 0 16
  if tmtOk t1 && tmtOk t2 && (t1 = 0 || t2 = 0 || t1 < t2) then
    fwPost ((s.set PWR_HCTM_TMT1 t1).set PWR_HCTM_TMT2 t2) c 0 0 0
  else fwPost s c stInvalidField 0 0

/-- The types of FDP event (R252): Reclaim Unit Not Written To Capacity, Media Reallocated. -/
def fdpTypes : List Nat := [0x00, 0x80]

/-- The placement handle that an FDP Events feature names: an index into the namespace's list. -/
def fdpHandle (s : State) (x : Ctx) : Option Nat :=
  if !s.sys.image.fdp then none
  else match nsInfo s (x.sqe.nsid - 1) with
    | some i => if x.sqe.nsid = 0 then none else i.handles[bits x.sqe.cdw11 0 16]?
    | none => none

/-- FDP Events: the event types of the data are enabled or disabled for the handle. -/
def setFdpEvents (s : State) (c : Nat) (x : Ctx) (d : List Byte) : State :=
  match fdpHandle s x with
  | none => fwPost s c stInvalidField 0 0
  | some h =>
    let l := (fit d (bits x.sqe.cdw11 16 8)).map BitVec.toNat
    if (l.all fdpTypes.contains) = false then fwPost s c stInvalidField 0 0
    else fwPost (l.foldl (fun s t => setFeat s subsys 0x1E (h * 256 + t) (bits x.sqe.cdw12 0 1)) s) c 0 0 0

/-- The Set Features that have no row of their own: their identifiers, and their values. -/
def ownRow (fid : Nat) : Bool := [0x02, 0x04, 0x06, 0x07, 0x10].contains fid

/-- The greatest value of CDW11 of a plain feature, none for one that is not plain. -/
def plainLimit (fid : Nat) : Option Nat :=
  if fid = 0x05 ∨ fid = 0x08 then some (2 ^ 16) else if fid = 0x0A then some 2 else if fid = 0x0B then some (2 ^ 11) else none

def setFeature (s : State) (c : Nat) (x : Ctx) (d : List Byte) : State :=
  let v := x.sqe.cdw11
  let fid := cmdFid x
  match plainLimit fid with
  | some m => if v < m then fwPost (setFeat s x.f fid 0 v) c 0 0 0 else fwPost s c stInvalidField 0 0
  | none =>
    if fid = 0x01 then
      (if bits v 3 5 = 0 then fwPost (setFeat s x.f 1 0 v) c 0 0 0 else fwPost s c stInvalidField 0 0)
    else if fid = 0x09 then
      (if bits v 0 16 < vecCount s x.f ∧ v < 2 ^ 17 then fwPost (setFeat s x.f 9 (bits v 0 16) v) c 0 0 0
       else fwPost s c stInvalidField 0 0)
    else if fid = 0x0E then
      fwPost { s with nvm := { s.nvm with stamp := some (leNat (fit d 6), s.timeUs) } } c 0 0 0
    else if fid = 0x1D then fwPost s c stNotChangeable 0 0
    else if fid = 0x1E then setFdpEvents s c x d
    else if fid = 0x81 then
      (if v = 1 then fwPost (setFeat s x.f 0x81 0 (leNat (fit d 16))) c 0 0 0 else fwPost s c stInvalidField 0 0)
    else fwPost s c stInvalidField 0 0

/-! Get Features. -/

/-- Milliseconds of the Timestamp: what was set and the time since, or the time since the start (R249), with its Timestamp
Origin. -/
def stampMs (s : State) : Nat × Nat :=
  match s.nvm.stamp with
  | some (v, at_) => (v + (s.timeUs - at_) / 1000, 1)
  | none => ((s.timeUs - s.flt.resetUs) / 1000, 0)

/-- Value and data of a feature; `dflt` asks for its default. None for one that is not supported. -/
def getFeature (s : State) (x : Ctx) (dflt : Bool) : Option (Nat × List Byte) :=
  let v := x.sqe.cdw11
  let fid := cmdFid x
  let get (f sub : Nat) : Nat := if dflt then featDefault fid sub else feat s f fid sub
  if [0x01, 0x02, 0x05, 0x06, 0x08, 0x0A, 0x0B].contains fid then some (get x.f 0, [])
  else if fid = 0x04 then
    match thresholdSubs (v - v % 65536) false with
    | [] => none
    | k :: _ => some (get subsys k, [])
  else if fid = 0x07 then
    let p := if dflt then min (s.get CMD_FNf_CFG0_QMIN x.f) (barPairs s x.f) else pairsOf s x.f
    some ((p - 1) + (p - 1) * 65536, [])
  else if fid = 0x09 then
    if bits v 0 16 < vecCount s x.f then
      some (if dflt then bits v 0 16 else bits v 0 16 + 65536 * bits (feat s x.f 9 (bits v 0 16)) 16 1, [])
    else none
  else if fid = 0x0E then
    let (ms, o) := if dflt then (0, 0) else stampMs s
    some (0, natLe ms 6 ++ natLe (2 * o) 1 ++ [0])
  else if fid = 0x10 then
    some (if dflt then 0 else s.get PWR_HCTM_TMT1 * 65536 + s.get PWR_HCTM_TMT2, [])
  else if fid = 0x1D then (if bits v 0 16 = 1 then some (b2n s.sys.image.fdp, []) else none)
  else if fid = 0x1E then
    match fdpHandle s x with
    | none => none
    | some h =>
      some (2, fdpTypes.flatMap fun t =>
        natLe t 1 ++ natLe (if dflt then 0 else feat s subsys 0x1E (h * 256 + t)) 1)
  else if fid = 0x81 then some (0, natLe (get x.f 0) 16)
  else none

/-- Capabilities of a feature (SEL 3): changeable; none is saveable. -/
def featCaps (fid : Nat) : Nat := if fid = 0x1D then 0 else 4

/-- Get Features (R249): SEL 0 the current value, 1 and 2 the default, 3 the capabilities. -/
def getFeatures (s : State) (c : Nat) (x : Ctx) : State :=
  let sel := bits x.sqe.cdw10 8 3
  if 3 < sel ∨ 2 ^ 11 ≤ x.sqe.cdw10 then fwPost s c stInvalidField 0 0
  else
    match getFeature s x (sel = 1 || sel = 2) with
    | none => fwPost s c stInvalidField 0 0
    | some (v, d) =>
      if sel = 3 then fwPost s c 0 (featCaps (cmdFid x)) 0
      else fwPost (fwData s x c 0 (if d = [] then [] else fit d (dataLen s x))) c 0 v 0

/-! Asynchronous events (R250). -/

/-- Asynchronous Event Request: it waits for an event; a ninth is refused. -/
def eventRequest (s : State) (c : Nat) (x : Ctx) : State :=
  if s.nvm.aers.contains c then s
  else if 8 ≤ (s.nvm.aers.filter fun a => match ctxOf s a with | some y => y.f = x.f | none => false).length then
    fwPost s c stAerLimit 0 0
  else { s with nvm := { s.nvm with aers := s.nvm.aers ++ [c] } }

/-- Whether an event's type waits for the log of an earlier one to be read. -/
def eventBlocked (s : State) (e : Aen) : Bool := s.nvm.blocked.any fun b => b.1 = e.f && b.2 / 256 = e.ty

/-- The oldest event of a function that may be posted, posted on its oldest request (R250). -/
def postEvent (s : State) (f : Nat) : State :=
  match s.nvm.events.find? fun e => e.f = f && !eventBlocked s e,
        s.nvm.aers.find? fun a => match ctxOf s a with | some y => y.f = f | none => false with
  | some e, some a =>
    let s := { s with nvm := { s.nvm with
      events := s.nvm.events.erase e
      aers := s.nvm.aers.filter (· ≠ a)
      blocked := s.nvm.blocked ++ [(f, e.ty * 256 + e.lid)] } }
    fwPost s a 0 (e.ty + e.info * 256 + e.lid * 65536) 0
  | _, _ => s

/-- A log page read with RAE = 0: events of the types that waited for it may be posted again (R250). -/
def clearEvent (s : State) (f lid : Nat) : State :=
  { s with nvm := { s.nvm with blocked := s.nvm.blocked.filter fun b => !(b.1 = f && b.2 % 256 = lid) } }

end Sys2Proof.Machine
end

