-- ==== Sys2Proof/Machine/CmdCmd.lean ====
section
/-! DEFINITION. The commands of the command engine: doorbells, fetch, grants, commits, posting, the firmware ring, lock slots,
activation, and the NVMe commands that CMD executes (09, 10). -/

namespace Sys2Proof.Machine

/-! Doorbells (R217). -/

def execSqTailDoorbell (f : Nat) (q : Nat) (v : Nat) (s : State) : Host.Outcome State Fault Refusal := act .doorbells s fun s => sqTail s f q v
def execCqHeadDoorbell (f : Nat) (q : Nat) (v : Nat) (s : State) : Host.Outcome State Fault Refusal := act .doorbells s fun s => cqHead s f q v

/-! Fetch and registration (R218 to R229). -/

def execSubmissionFetch (s : State) : Host.Outcome State Fault Refusal := act .fetch s fetchOne
def execSubmissionEntriesArrive (link : Nat) (tag : Nat) (entries : List Sqe) (s : State) : Host.Outcome State Fault Refusal :=
  act .entries s fun s => entriesArrive s link tag entries

/-- A grant (R227): the named record, with the one registered together with it. A command whose records are all granted
starts, and a lock slot that waited for them completes. -/
def execLockGrant (ctx : Nat) (recB : Bool) (s : State) : Host.Outcome State Fault Refusal := act .locks s fun s =>
  let s := lkCheck (grantRec s ctx recB)
  match ctxOf s ctx with
  | none => s
  | some x => if x.stage = .waiting ∧ allGranted x = true then startCtx s ctx else s

def execCommit (ctx : Nat) (s : State) : Host.Outcome State Fault Refusal := act .commit s fun s => commitRow s ctx
def execCompletionPost (f : Nat) (cq : Nat) (s : State) : Host.Outcome State Fault Refusal := act .post s fun s => postOne s f cq

/-- The time of Interrupt Coalescing, TIME × 100 µs since the first entry that the vector has not signalled, is over (R224). -/
def execInterruptCoalescingTimer (f : Nat) (cq : Nat) (s : State) : Host.Outcome State Fault Refusal := act .post s fun s =>
  match cqOf s f cq with
  | none => s
  | some x =>
    match tget s.cmd.coal (qkey f x.iv) with
    | some y => if y.firstUs + bits (feat s f 8 0) 8 8 * 100 ≤ s.timeUs then fireQueue s f x.iv else s
    | none => s

/-! The firmware ring (R222). -/

/-- CMD_FWQ_HEAD written. -/
def execFirmwareRingTake (head : Nat) (s : State) : Host.Outcome State Fault Refusal := act .firmwareRing s fun s =>
  if head < ringEntries s ∧ s.on CMD_FWQ_CFG_ENABLE then fwqTake s head else s

def execFwcplGo (s : State) : Host.Outcome State Fault Refusal := act .firmwareRing s fwcplGo

/-! Lock slots (R240). -/

/-- Record A, and record B, that a lock slot's arguments name. -/
def slotRecA (s : State) (n : Nat) : LockRec :=
  ⟨s.get CMD_LKn_ARG0_NS n, s.get CMD_LKn_ARG1_FIRST n, s.get CMD_LKn_ARG0_COUNT n + 1,
   s.on CMD_LKn_ARG0_EXCL n || s.on CMD_LKn_ARG0_WHOLE n, s.on CMD_LKn_ARG0_WHOLE n, 0, false⟩
def slotRecB (s : State) (n : Nat) : LockRec :=
  ⟨s.get CMD_LKn_ARG2_NS_B n, s.get CMD_LKn_ARG2_FIRST_B n, s.get CMD_LKn_ARG2_COUNT_B n + 1, s.on CMD_LKn_ARG2_EXCL_B n, false, 0, false⟩

/-- Whether an ACQUIRE's arguments are admitted. -/
def acquireOk (s : State) (n : Nat) : Bool :=
  let recB := s.on CMD_LKn_ARG0_REC n
  let both := s.on CMD_LKn_ARG2_VALID_B n
  match ctxOf s (s.get CMD_LKn_ARG0_CTX n) with
  | none => false
  | some x =>
    x.stage = .taken && (s.on CMD_LKn_ARG0_WHOLE n || s.get CMD_LKn_ARG0_COUNT n ≤ 512) && !(both && recB)
      && (!both || s.get CMD_LKn_ARG2_COUNT_B n ≤ 512) && (if recB then x.recB.isNone else x.recA.isNone)
      && (!both || x.recB.isNone)

/-- A GO write of ACQUIRE: its records are registered, and it waits until they are granted. -/
def acquireGo (s : State) (n : Nat) : State :=
  if !acquireOk s n then lkDone s n 4
  else
    let c := s.get CMD_LKn_ARG0_CTX n
    let recB := s.on CMD_LKn_ARG0_REC n
    let both := s.on CMD_LKn_ARG2_VALID_B n
    let s := if recB then registerRecs s c none (some (slotRecA s n))
      else registerRecs s c (some (slotRecA s n)) (if both then some (slotRecB s n) else none)
    let s := { s with cmd := { s.cmd with acquires := tput s.cmd.acquires n (c, both, recB) } }
    let t := lkCheck s
    if (tget t.cmd.acquires n).isSome then t.bump CMD_CNTn_COUNT 3 else t

/-- Record A or B of a context gone. -/
def dropRec (s : State) (c : Nat) (recB : Bool) : State :=
  updCtx s c fun x => if recB then { x with recB := none } else { x with recA := none }

/-- Whether a lock slot can take an operation now. -/
def lkFree (s : State) (n : Nat) : Bool := n < 16 && s.on CMD_CTRL_ENABLE && !s.on CMD_LKn_CTL_GO n

def execAcquire (slot : Nat) (s : State) : Host.Outcome State Fault Refusal := act .firmwareRing s fun s =>
  if lkFree s slot then acquireGo ((s.set CMD_LKn_CTL_OP 1 slot).set CMD_LKn_CTL_GO 1 slot) slot else s

def execRelease (slot : Nat) (s : State) : Host.Outcome State Fault Refusal := act .firmwareRing s fun s =>
  if lkFree s slot then
    lkDone (dropRec (s.set CMD_LKn_CTL_OP 2 slot) (s.get CMD_LKn_ARG0_CTX slot) (s.on CMD_LKn_ARG0_REC slot)) slot 0
  else s

/-- CANCEL of a waiting ACQUIRE: its records are withdrawn. -/
def execCancel (slot : Nat) (s : State) : Host.Outcome State Fault Refusal := act .firmwareRing s fun s =>
  match tget s.cmd.acquires slot with
  | none => s
  | some (c, both, recB) =>
    let s := dropRec s c recB
    lkDone (if both then dropRec s c true else s) slot 1

/-! Enable and activation (R238, R239). -/

/-- Whether the shares of queues and contexts fit. -/
def cmdCfgOk (s : State) : Bool :=
  let fs := List.range 256
  let sum (g : Nat → Nat) (l : List Nat) : Nat := l.foldl (fun n f => n + g f) 0
  sum (fun f => s.get CMD_FNf_CFG0_QMIN f) (fs.filter (fnPresent s)) ≤ 262144
    && sum (fun f => s.get CMD_FNf_CFG0_CTX_MIN f) fs ≤ 326648
    && fs.all fun f => s.get CMD_FNf_CFG0_QMIN f ≤ s.get CMD_FNf_CFG0_QMAX f
        && s.get CMD_FNf_CFG0_CTX_MIN f ≤ s.get CMD_FNf_CFG1_CTX_MAX f

def execCmdEnable (s : State) : Host.Outcome State Fault Refusal := act .firmwareRing s fun s =>
  if s.on CMD_CTRL_ENABLE then s
  else if cmdCfgOk s then s.set CMD_CTRL_ENABLE 1 else s.set CMD_STATUS_CFG_ERR 1

/-- CSTS.PP of every controller. -/
def setPp (s : State) (v : Nat) : State :=
  (List.range 256).foldl (fun s f => if fnPresent s f then s.set NVME_CSTS_PP v f else s) s

def pauseFetch (s : State) : State :=
  setPp { (s.set CMD_ACT_CTL_PAUSE 1) with cmd := { s.cmd with paused := true } } 1
def resumeFetch (s : State) : State :=
  setPp { ((s.set CMD_ACT_CTL_PAUSE 0).set CMD_ACT_CTL_DRAINED 0) with cmd := { s.cmd with paused := false } } 0

def execPause (s : State) : Host.Outcome State Fault Refusal := act .firmwareRing s pauseFetch


/-- Whether an activation drain is done: no context is held by a fetch or by a command that CMD executes, and no ring
entry is untaken. -/
def drainedNow (s : State) : Bool :=
  s.cmd.ctxs.all (fun x => x.2.stage ≠ .fetching && !byCmd x.2) && s.get CMD_FWQ_HEAD_INDEX = s.get CMD_FWQ_TAIL_INDEX

def execDrained (s : State) : Host.Outcome State Fault Refusal := act .firmwareRing s fun s =>
  if s.on CMD_ACT_CTL_PAUSE ∧ drainedNow s = true then (s.set CMD_ACT_CTL_DRAINED 1).set CMD_STATUS_ACT_DRAINED 1 else s

/-! Commands that CMD executes. -/

/-- Read (R12): the DSM field of the command gives the access frequency (R181). -/
def execRead (ctx : Nat) (s : State) : Host.Outcome State Fault Refusal := act .io s fun s =>
  cmdRun s ctx 2 fun s x => readSectors s ctx (bits x.sqe.cdw13 0 4) false

/-- Verify (R246). -/
def execVerify (ctx : Nat) (s : State) : Host.Outcome State Fault Refusal := act .io s fun s =>
  cmdRun s ctx 0x0C fun s _ => readSectors s ctx 0 true

/-- Compare (R246): the blocks are read, and the host's data is asked for. -/
def execCompare (ctx : Nat) (s : State) : Host.Outcome State Fault Refusal := act .io s fun s =>
  cmdRun s ctx 5 fun s x =>
    let t := readSectors s ctx 0 false
    if dmaReady x then askData t ctx else t

/-- Write (R169, R170): admitted at once, or held behind the ceiling, the free list and held writes that were fetched before. -/
def execWrite (ctx : Nat) (s : State) : Host.Outcome State Fault Refusal := act .io s fun s =>
  cmdRun s ctx 1 fun s x =>
    if (writeHandle s x).isNone then commitCtx s ctx stPlacementHandle 0 0
    else
      let n := cmdSectors s x
      if heldBefore s x.seq = false ∧ mayAdmit s (cmdNs x) n = true then admitWrite s ctx
      else holdWrite (setCtx s ctx { x with started := true }) ctx n

/-- The held write that was fetched first admitted where the ceiling and the free list allow it (R170). A held Copy, Write Zeroes or
Dataset Management reserves its sectors in its own row, ahead of the writes behind it. -/
def execWriteAdmission (s : State) : Host.Outcome State Fault Refusal := act .io s fun s =>
  match s.hbm.held.find? fun h => !keyWait s h.ctx with
  | none => s
  | some h =>
    match ctxOf s h.ctx with
    | none => s
    | some x => if isIo x 1 && mayAdmit s (cmdNs x) h.sectors then admitWrite (unholdWrite s h.ctx) h.ctx else s

/-- A partly written sector overlaid on its merged data (R168): done once the merge read has ended and the host's data is
here. A merge read that failed ends the write, which changes nothing. -/
def execPartialSectorMerge (ctx : Nat) (sector : Nat) (s : State) : Host.Outcome State Fault Refusal := act .merge s fun s =>
  match ctxOf s ctx with
  | none => s
  | some x =>
    if !isIo x 1 ∨ x.stage ≠ .running ∨ x.staged then s
    else if x.err ≠ 0 then (if x.left = 0 ∧ bme s x.f then commitErr s ctx x x.err else s)
    else
      match tget x.merges sector with
      | some (some d) =>
        if dataHere s x then
          tryStage (setCtx s ctx { x with got := tput x.got sector (writeSector s x (hostBlocks s x) sector d) }) ctx
        else s
      | _ => s

/-- Flush (R235): what it covers was recorded at its registration. -/
def execFlush (ctx : Nat) (s : State) : Host.Outcome State Fault Refusal := act .flush s fun s =>
  cmdRun s ctx 0 fun s x => durKick (setCtx s ctx { x with started := true })

/-- Fence (R234): fetch from its queue stopped at its registration; with the durable option it also waits for durability
under a volatile write cache. -/
def execFence (ctx : Nat) (s : State) : Host.Outcome State Fault Refusal := act .flush s fun s =>
  cmdRun s ctx 0x80 fun s x =>
    updSq (setCtx s ctx { x with started := true, waitDur := bits x.sqe.cdw10 0 1 = 1 && flushWaits s }) x.f x.sq
      fun q => { q with fence := some ctx }

/-- The commit of a Fence: every earlier command of its queue has posted, and is durable where that is asked (R234). -/
def execFenceCommit (ctx : Nat) (s : State) : Host.Outcome State Fault Refusal := act .flush s fun s =>
  match ctxOf s ctx with
  | none => s
  | some x =>
    if isIo x 0x80 ∧ x.stage = .running ∧ x.started ∧ bme s x.f ∧ x.fences = [] then
      let s := durKick s
      if !x.waitDur || isDurable s x then (commitCtx (unfence s ctx) ctx 0 0 0).bump CMD_CNTn_COUNT 8 else s
    else s

/-- Abort (R231). -/
def execAbort (ctx : Nat) (s : State) : Host.Outcome State Fault Refusal := act .abort s fun s =>
  match ctxOf s ctx with
  | none => s
  | some x => if isAdmin x 8 ∧ x.stage = .running ∧ !x.started ∧ bme s x.f then abortRun s ctx x else s

end Sys2Proof.Machine
end

