-- ==== Sys2Proof/Machine/RegFind.lean ====
section
/-! DEFINITION. Finding the register that an address names (R7, R316), and reading a register whole. -/

namespace Sys2Proof.Machine

/-- The registers of a block window (Table 14.2). -/
def windowRegs (w : Nat) : List Reg :=
  match w with
  | 0 => regsSYS
  | 1 => regsHIF
  | 2 => regsCMD
  | 3 => regsMAP
  | 4 => regsFCH
  | 5 => regsCDC
  | 6 => regsTRK
  | 7 => regsHBM ++ regsBUR
  | 8 => regsBPM
  | 9 => regsUDM
  | 10 => regsCRY
  | 11 => regsCPR
  | 12 => regsMBX
  | 13 => regsPWR
  | 14 => regsOOB
  | 15 => regsFLT
  | _ => []

/-- The copy of a register that holds an address, and the byte within it: the index with the larger stride is taken
first. -/
def regCopy (r : Reg) (a : Nat) : Option (Nat × Nat × Nat) :=
  if a < r.addr then none
  else
    let o := a - r.addr
    let s1 := max 1 r.stride1
    let s2 := max 1 r.stride2
    let one := r.count1 ≤ 1
    let two := r.count2 ≤ 1
    let (i, j, b) :=
      if one ∧ two then (0, 0, o)
      else if two then (o / s1, 0, o % s1)
      else if one then (0, o / s2, o % s2)
      else if s2 ≤ s1 then (o / s1, o % s1 / s2, o % s1 % s2)
      else (o % s2 / s1, o / s2, o % s2 % s1)
    if i < max 1 r.count1 ∧ j < max 1 r.count2 ∧ b < r.bytes then some (i, j, b) else none

/-- The register of a list at an address: it, its indices, the byte within it. -/
def findReg (l : List Reg) (a : Nat) : Option (Reg × Nat × Nat × Nat) :=
  match l with
  | [] => none
  | r :: t => match regCopy r a with | some x => some (r, x) | none => findReg t a

/-- The register of a block window at an internal address. -/
def regAt (a : Nat) : Option (Reg × Nat × Nat × Nat) :=
  if a < winBase 0 ∨ winBase 16 ≤ a then none else findReg (windowRegs ((a - winBase 0) / 0x01000000)) a

/-- The value of a register's copy. -/
def regValue (s : State) (r : Reg) (i j : Nat) : Nat := r.cols.foldl (fun v c => v + s.get c.fld i j * 2 ^ c.lo) 0

/-- Whether a register is a link register of the half that a port without BIFURCATE lacks: it reads 0 and ignores writes (R212). -/
def linkAbsent (s : State) (r : Reg) (i : Nat) : Bool :=
  [HIF_LINKl_CFGReg.addr, HIF_LINKl_STATUSReg.addr, HIF_LINKl_CNTReg.addr].contains r.addr && i % 2 = 1
    && !s.on HIF_PORTp_CFG_BIFURCATE (i / 2)

end Sys2Proof.Machine
end

