-- ==== Sys2Proof/Machine/ImgOps.lean ====
section
/-! DEFINITION. Ploette images and Garnik packages: their layout, and the checks that make one valid (R341 to R345, R358,
R359). -/

namespace Sys2Proof.Machine

/-- `n` bytes from offset `a`. -/
def sliceAt (b : List Byte) (a n : Nat) : List Byte := (b.drop a).take n

/-- Whether `n` bytes from offset `a` are 0. -/
def zeroAt (b : List Byte) (a n : Nat) : Bool := (sliceAt b a n).all fun x => x = 0

/-! Signatures (R342). -/

/-- Key use bits of OTP key `k`: bit 0 PLOETTE, bit 1 GARNIK, bit 2 REVOKED. -/
def keyUse (s : State) (k : Nat) : Nat := s.sys.otp.keyUse.getD k 0

/-- OTP key hash `k`, 48 bytes. -/
def keyHash (s : State) (k : Nat) : List Byte := (List.range 6).flatMap fun j => natLe (s.get SYS_KEYHASHk_V k j) 8

/-- The key index of a signed byte string of `n` bytes. -/
def sigKey (b : List Byte) (n : Nat) : Nat := leAt b (n - 64) 1

/-- Whether the last 256 of `n` bytes are a signature block that passes R342 with a use bit (0 PLOETTE, 1 GARNIK). -/
def sigOk (s : State) (b : List Byte) (n useBit : Nat) : Bool :=
  let blk := sliceAt b (n - 256) 256
  let pub := sliceAt blk 0 96
  let k := leAt blk 192 1
  k < 4 && zeroAt blk 193 63 && Config.sha384 pub = keyHash s k && bits (keyUse s k) useBit 1 = 1 && bits (keyUse s k) 2 1 = 0
    && Config.ecdsaVerify pub (Config.sha384 (b.take (n - 256))) (sliceAt blk 96 96)

/-! The Ploette image (R341 to R344). -/

/-- The records of a record area, type and payload; none where they do not tile it or a header is not as R341 gives. -/
def recordsFrom (fuel : Nat) (b : List Byte) : Option (List (Nat × List Byte)) :=
  match fuel with
  | 0 => if b = [] then some [] else none
  | k + 1 =>
    if b = [] then some []
    else
      let n := leAt b 2 2
      let z := (n + 7) / 8 * 8
      if b.length < 8 + z ∨ !zeroAt b 4 4 then none
      else (recordsFrom k (b.drop (8 + z))).map fun r => (leAt b 0 2, sliceAt b 8 n) :: r

/-- An entry of REG_LOAD: address, size, value. -/
def regLoads (p : List Byte) : List (Nat × Nat × Nat) :=
  (List.range (p.length / 16)).map fun k => (leAt p (16 * k) 6, leAt p (16 * k + 6) 1, leAt p (16 * k + 8) 8)

/-- The two copies of a SETT record: dies, first block, block count, anchor block. -/
def settCopies (p : List Byte) : List (List Nat × Nat × Nat × Nat) :=
  (List.range 2).map fun k =>
    let c := sliceAt p (40 * k) 40
    (((List.range 16).map fun j => leAt c (2 * j) 2).filter (· ≠ 0xFFFF), leAt c 32 2, leAt c 34 2, leAt c 36 2)

/-- Whether no number occurs twice. -/
def distinct : List Nat → Bool
  | [] => true
  | a :: r => !r.contains a && distinct r

/-- The rules of a record's type (Table 15.4, R343). -/
def recordOk (r : Nat × List Byte) : Bool :=
  let p := r.2
  let n := p.length
  if r.1 = 1 then
    n % 16 = 0 && (regLoads p).all (fun e => (e.2.1 = 4 || e.2.1 = 8) && e.1 % e.2.1 = 0 && winBase 1 ≤ e.1 && (regAt e.1).isSome)
      && (List.range (n / 16)).all fun k => leAt p (16 * k + 7) 1 = 0
  else if r.1 = 2 then n = 8 && leAt p 0 1 ≤ 2 && zeroAt p 2 6
  else if r.1 = 3 then
    n = 80 && (settCopies p).all (fun c => c.1 ≠ [] && 1 ≤ c.2.2.1 && c.1.all fun d => d < 2048) && zeroAt p 38 2 && zeroAt p 78 2
      && distinct ((settCopies p).flatMap fun c => c.1.map chOf)
  else if r.1 = 4 then n = 72 && zeroAt p 7 1
  else if r.1 = 5 then n % 8 = 0 && n ≤ 2048
  else if r.1 = 6 then n = 256
  else if r.1 = 7 then n = 2 && leAt p 1 1 ≤ 7
  else if r.1 = 8 then n = 8
  else 0x8000 ≤ r.1

/-- Length and SEQ that an image header gives. -/
def imgLen (b : List Byte) : Nat := leAt b 8 4
def imgSeq (b : List Byte) : Nat := leAt b 24 8

/-- The records of an image. -/
def imgRecords (b : List Byte) : Option (List (Nat × List Byte)) :=
  recordsFrom 20000 (sliceAt b 64 (imgLen b - 64 - 256))

/-- The payload of the first record of a type. -/
def recordOf (l : List (Nat × List Byte)) (ty : Nat) : Option (List Byte) := (l.find? fun r => r.1 = ty).map Prod.snd

/-- Whether a copy of the Ploette image is valid (R344). -/
def imageOk (s : State) (b : List Byte) : Bool :=
  let n := imgLen b
  match imgRecords b with
  | none => false
  | some l =>
    sliceAt b 0 4 = ascii "PLTE" && leAt b 4 2 = 1 && leAt b 6 2 = 64 && 4096 ≤ n && n ≤ 131072 && n % 8 = 0 && n ≤ b.length
      && leAt b 12 4 = s.get SYS_HWTYPE_V && leAt b 16 4 ≤ 256 && s.get SYS_OTP_STATE_SECVER ≤ leAt b 16 4 && zeroAt b 32 32
      && leAt b 20 4 = l.length && l.all recordOk && (recordOf l 3).isSome && sigOk s (b.take n) n 0

/-! Garnik packages (R358, R359). -/

def pkgLen (b : List Byte) : Nat := leAt b 8 4
def pkgSecver (b : List Byte) : Nat := leAt b 16 4
def pkgUnits (b : List Byte) : Nat := leAt b 22 2
def pkgRev (b : List Byte) : Nat := leAt b 24 8
def pkgFmt (b : List Byte) : Nat := leAt b 32 2
def pkgFmtMin (b : List Byte) : Nat := leAt b 34 2

/-- A component: type, offset, length, core mask. -/
structure Comp where
  ty : Nat
  off : Nat
  len : Nat
  mask : Nat
  deriving DecidableEq, Repr

/-- The components of a package. -/
def pkgComps (b : List Byte) : List Comp :=
  let d := 128 + 16 * pkgUnits b
  (List.range (leAt b 20 2)).map fun k =>
    let e := sliceAt b (d + 32 * k) 32
    ⟨leAt e 0 2, leAt e 8 4, leAt e 12 4, leAt e 16 8⟩

/-- Whether reserved bytes of the directory are 0. -/
def pkgDirOk (b : List Byte) : Bool :=
  let d := 128 + 16 * pkgUnits b
  (List.range (leAt b 20 2)).all fun k => zeroAt b (d + 32 * k + 2) 6 && zeroAt b (d + 32 * k + 24) 8

/-- Whether no two of a list of pieces (offset, length) overlap. -/
def noOverlap : List (Nat × Nat) → Bool
  | [] => true
  | (a, n) :: r => r.all (fun x => decide (a + n ≤ x.1) || decide (x.1 + x.2 ≤ a)) && noOverlap r

/-- Core images of a package, and its Ploette image. -/
def pkgCores (b : List Byte) : List Comp := (pkgComps b).filter fun c => c.ty = 1
def pkgImage (b : List Byte) : Option (List Byte) := ((pkgComps b).find? fun c => c.ty = 2).map fun c => sliceAt b c.off c.len

/-- Whether the core masks cover each of the 64 cores exactly once. -/
def masksOk (l : List Comp) : Bool :=
  (List.range 64).all fun n => (l.filter fun c => bits c.mask n 1 = 1).length = 1

/-- Whether a package passes (R359). -/
def pkgOk (s : State) (b : List Byte) : Bool :=
  let n := pkgLen b
  let c := pkgComps b
  let dirEnd := 128 + 16 * pkgUnits b + 32 * c.length
  sliceAt b 0 4 = ascii "GRNK" && leAt b 4 2 = 1 && leAt b 6 2 = 128 && 8192 ≤ n && n ≤ 16777216 && n % 8 = 0 && n = b.length
    && pkgSecver b ≤ 256 && 1 ≤ c.length && c.length ≤ 80 && pkgUnits b ≤ 1024 && pkgFmtMin b ≤ pkgFmt b && leAt b 36 1 ≤ 1
    && zeroAt b 37 91 && pkgDirOk b
    && c.all (fun x => 1 ≤ x.ty && x.ty ≤ 3 && x.off % 4096 = 0 && x.off + x.len ≤ n - 256 && (x.ty ≠ 1 || x.len = 524288))
    && noOverlap ((0, dirEnd) :: c.map fun x => (x.off, x.len))
    && masksOk (pkgCores b) && ((c.filter fun x => x.ty = 2).length ≤ 1)
    && leAt b 12 4 = s.get SYS_HWTYPE_V
    && (pkgUnits b = 0 || (List.range (pkgUnits b)).any fun k => sliceAt b (128 + 16 * k) 16 = unitId s)
    && s.get SYS_OTP_STATE_SECVER ≤ pkgSecver b && sigOk s b n 1

/-- The slot entry of a package. -/
def slotOf (b : List Byte) : FwSlot :=
  ⟨true, false, pkgLen b, pkgSecver b, pkgRev b, pkgFmt b, pkgFmtMin b, leAt b 36 1 = 1, b⟩

end Sys2Proof.Machine
end

