-- ==== Sys2Proof/Machine/MbxCmd.lean ====
section
/-! DEFINITION. The commands of mailboxes and core control (R318 to R334), and the interrupt sources as a core reads
them (R320). -/

namespace Sys2Proof.Machine

/-! Interrupt sources. -/

/-- Whether a status bit of `st` is 1 with its enable bit in `en`, for the bits from 0 to below `n`. -/
def anyEnabled (en : Nat) (l : List Bool) : Bool :=
  (List.range l.length).any fun k => l.getD k false && bits en k 1 = 1

/-- MBX_STATUS bits in order. -/
def mbxStatusBits (s : State) : List Bool :=
  [s.on MBX_STATUS_BIND_VIOL, s.on MBX_STATUS_TIMEOUT, s.on MBX_STATUS_CORE_FAULT, s.on MBX_STATUS_CORE_RETIRED,
    s.on MBX_STATUS_ROUTE_NONE]

/-! Messages. -/

/-- Whether a master may write the message word of a channel: the binding is valid and names it as sender (R325). -/
def maySend (s : State) (master c : Nat) : Bool := s.on MBX_BINDc_VALID c && chSender s c = master

/-- Whether a master may take the message of a channel. -/
def mayTake (s : State) (master c : Nat) : Bool := s.on MBX_BINDc_VALID c && chReceiver s c = master

/-- A message stored in an empty channel (R326); withdrawn at once when its receiver can take none (R328). -/
def acceptMessage (s : State) (c word : Nat) : State :=
  let s := (s.set MBX_CHc_MSG_MSG word c).set MBX_CHc_STATE_FULL 1 c
  let s := (s.set MBX_CHc_STATE_ACK_VALID 0 c).bump MBX_CNTn_COUNT 0
  let s := { s with mbx := { s.mbx with timers := tput s.mbx.timers c (s.timeUs + 16 * s.get MBX_BINDc_TMO c) } }
  let s := setDoorbell s (chReceiver s c) (s.get MBX_BINDc_DB_BIT c)
  if receiverGone s (chReceiver s c) then withdraw s c else s

/-- A write of a channel's message word by a master (R325, R326). Channels are inactive while MBX_CTRL.ENABLE is 0. -/
def messageWrite (s : State) (master c word : Nat) : State :=
  if 256 ≤ c ∨ !s.on MBX_CTRL_ENABLE then s
  else if !maySend s master c then bindViol s master
  else if s.on MBX_CHc_STATE_FULL c then (s.set MBX_CHc_STATE_REJECT 1 c).bump MBX_CNTn_COUNT 1
  else acceptMessage s c word

/-- A write of a channel's ACK by a master (R325, R327). -/
def messageAck (s : State) (master c rcode : Nat) : State :=
  if 256 ≤ c ∨ !s.on MBX_CTRL_ENABLE then s
  else if !mayTake s master c then bindViol s master
  else if !s.on MBX_CHc_STATE_FULL c then s.set MBX_CHc_STATE_ACK_IGN 1 c
  else
    let s := (s.set MBX_CHc_ACK_RCODE rcode c).set MBX_CHc_STATE_RCODE rcode c
    let s := (s.set MBX_CHc_STATE_FULL 0 c).set MBX_CHc_STATE_ACK_VALID 1 c
    ackNotice (stopTimer s c) c

/-- MESSAGE_WRITE (R325, R326, R328, R331). -/
def execMessageWrite (master c word : Nat) (s : State) : Host.Outcome State Fault Refusal :=
  act .mailbox s fun s => messageWrite s master c word

/-- MESSAGE_ACK (R325, R327, R330). -/
def execMessageAck (master c rcode : Nat) (s : State) : Host.Outcome State Fault Refusal :=
  act .mailbox s fun s => messageAck s master c rcode

/-- Whether the timer of a channel has expired. -/
def timerDue (s : State) (c : Nat) : Bool := match tget s.mbx.timers c with | some t => decide (t ≤ s.timeUs) | none => false

/-- MAILBOX_TIMEOUT: the timer of a channel expires with FULL = 1 (R328). -/
def execMailboxTimeout (c : Nat) (s : State) : Host.Outcome State Fault Refusal :=
  act .mailbox s fun s => if s.on MBX_CHc_STATE_FULL c ∧ timerDue s c then withdraw s c else s

/-! Cores. -/

/-- The watchdog count of a core begun anew. -/
def kickCore (s : State) (n : Nat) : State := { s with mbx := { s.mbx with kicked := tput s.mbx.kicked n s.timeUs } }

/-- Whether a core runs with its watchdog enabled. -/
def wdogRuns (s : State) (n : Nat) : Bool := n < 64 && coreState s n = 2 && s.get MBX_COREn_WDOG_PERIOD n ≠ 0

/-- Microseconds of a core's watchdog count. -/
def wdogUs (s : State) (n : Nat) : Nat := s.timeUs - tgetD s.mbx.kicked n 0

/-- A core fault in full: hold, record, fault-monitor event, failover, and the restart of a core that is not retired
(R321, R322, R323). -/
def coreFault (s : State) (n cause addr : Nat) : State :=
  let s := coreFaultRecord s n cause addr
  let (s, lasting) := fltElem s (elemCore n) cause addr false
  let s := if lasting then retireCore s n else s
  let s := failover s n
  if coreState s n = 3 then s else loadCore s n

/-- WATCHDOG_WARN: half the period has passed (R321). -/
def execWatchdogWarn (core : Nat) (s : State) : Host.Outcome State Fault Refusal :=
  act .mailbox s fun s =>
    if wdogRuns s core ∧ s.get MBX_COREn_WDOG_PERIOD core ≤ 2 * wdogUs s core then s.set MBX_COREn_LOCAL_WDOG_WARN 1 core else s

/-- WATCHDOG_EXPIRY: PERIOD without a KICK, a core fault of cause 1 (R321). -/
def execWatchdogExpiry (core : Nat) (s : State) : Host.Outcome State Fault Refusal :=
  act .coreFault s fun s =>
    if wdogRuns s core ∧ s.get MBX_COREn_WDOG_PERIOD core ≤ wdogUs s core then coreFault s core 1 0 else s

/-- KICK: the watchdog count restarts and the bit clears at once (R334). -/
def execKick (core : Nat) (s : State) : Host.Outcome State Fault Refusal :=
  act .mailbox s fun s => if core < 64 then kickCore s core else s

/-- CORE_FAULT: a parity trap (2, 3) or a double fault (4) of a running core; cause 5 is a bus fault, which is recorded
and is no core fault (R304, R319, R321). -/
def execCoreFault (core cause addr : Nat) (s : State) : Host.Outcome State Fault Refusal :=
  act .coreFault s fun s =>
    if 64 ≤ core ∨ coreState s core ≠ 2 then s
    else if cause = 5 then busFaultRecord s core addr
    else if 2 ≤ cause ∧ cause ≤ 4 then coreFault s core cause addr
    else s

/-- Base of a core's ITCM in its cluster window; its DTCM follows 0x40000 above (R316). -/
def itcmBase (n : Nat) : Nat := 0x00F010000000 + n / 8 * 0x01000000 + n % 8 * 0x100000
def dtcmBase (n : Nat) : Nat := itcmBase n + 0x40000

/-- `n` bytes copied from HBM to a core's memory; a byte that cannot be read leaves its place with a parity error
(R304). -/
def copyTo (s : State) (src dst n : Nat) : State :=
  (List.range n).foldl (fun s k =>
    match readByte s (src + k) with
    | some b => writeByte s (dst + k) b
    | none => { s with udm := { s.udm with parity := (dst + k) :: s.udm.parity } }) (noteLines s src n)

/-- The restart image of a core loaded: 256 KiB into the ITCM, the next 256 KiB into the DTCM (R321). -/
def loadImage (s : State) (n : Nat) : State :=
  let a := s.get MBX_COREn_IMAGE_BASE n * 4096
  copyTo (copyTo s a (itcmBase n) 0x40000) (a + 0x40000) (dtcmBase n) 0x40000

/-- CORE_IMAGE_LOADED: the load ends and the core is released, or stays held while HOLD is 1 (R321, R334). -/
def execCoreImageLoaded (core : Nat) (s : State) : Host.Outcome State Fault Refusal :=
  act .mailbox s fun s =>
    if 64 ≤ core ∨ coreState s core ≠ 1 then s
    else
      let s := (loadImage s core).set MBX_COREn_CTL_RESTART 0 core
      kickCore (s.set MBX_COREn_CTL_STATE (if s.on MBX_COREn_CTL_HOLD core then 0 else 2) core) core

/-- CORE_RESTART: the sequence of a core fault without a fault and without an event; a retired core stays in reset
(R321, R323). -/
def execCoreRestart (core : Nat) (s : State) : Host.Outcome State Fault Refusal :=
  act .coreFault s fun s =>
    if 64 ≤ core ∨ coreState s core = 3 then s
    else
      let s := (s.set MBX_COREn_CTL_STATE 0 core).set MBX_COREn_CTL_RESTART 1 core
      loadCore (failover s core) core

/-- CORE_RETIRE: RETIRE written (R323). -/
def execCoreRetire (core : Nat) (s : State) : Host.Outcome State Fault Refusal :=
  act .mailbox s fun s => if core < 64 then retireCore (s.set MBX_COREn_CTL_RETIRE 1 core) core else s

/-- CORE_HOLD_CLEAR: HOLD written 0; a held core starts (R334). -/
def execCoreHoldClear (core : Nat) (s : State) : Host.Outcome State Fault Refusal :=
  act .mailbox s fun s =>
    if 64 ≤ core then s
    else
      let s := s.set MBX_COREn_CTL_HOLD 0 core
      if coreState s core = 0 then kickCore (s.set MBX_COREn_CTL_STATE 2 core) core else s

end Sys2Proof.Machine
end

