-- ==== Sys2Proof/Machine/OtpOps.lean ====
section
/-! DEFINITION. Programming of the OTP array (R350, Table 15.7). -/

namespace Sys2Proof.Machine

/-- An OTP command completed (R357). -/
def otpDone (s : State) (op result : Nat) : State :=
  let s := ((s.set SYS_OTP_CMD_OP op).set SYS_OTP_CMD_RESULT result).set SYS_OTP_CMD_DONE 1
  let s := (s.set SYS_OTP_CMD_GO 0).set SYS_STATUS_OTP_DONE 1
  if result = 2 then s.set SYS_STATUS_OTP_FAIL 1 else s

/-- SYS_OTP_STATE brought to what the array holds. -/
def otpState (s : State) : State :=
  (s.set SYS_OTP_STATE_SECVER s.sys.otp.secver).set SYS_OTP_STATE_KEYUSE
    ((List.range 4).foldl (fun v k => v + s.sys.otp.keyUse.getD k 0 % 8 * 2 ^ (4 * k)) 0)

/-- ADVANCE_SECVER to `v`. Where a bit fails, the count that the array then holds is free between the old count and below
`v` (log entry 6). -/
def otpAdvance (s : State) (v : Nat) (ok : Bool) : State :=
  let old := s.sys.otp.secver
  if v < old ∨ 256 < v then otpDone s 1 1
  else if ok ∨ v = old then otpDone (otpState { s with sys := { s.sys with otp := { s.sys.otp with secver := v } } }) 1 0
  else
    let (x, s) := s.fresh
    otpDone (otpState { s with sys := { s.sys with otp := { s.sys.otp with secver := old + x % (v - old) } } }) 1 2

/-- Key use bits: GARNIK, REVOKED. -/
def keyGarnik (u : Nat) : Bool := bits u 1 1 = 1
def keyRevoked (u : Nat) : Bool := bits u 2 1 = 1

/-- The keys that packages may still be signed with. -/
def garnikKeys (s : State) : List Nat :=
  (List.range 4).filter fun k => keyGarnik (s.sys.otp.keyUse.getD k 0) && !keyRevoked (s.sys.otp.keyUse.getD k 0)

/-- REVOKE_KEY. -/
def otpRevoke (s : State) (k : Nat) (ok : Bool) : State :=
  if 4 ≤ k then otpDone s 2 4
  else if k = s.sys.image.bootKey ∨ garnikKeys s = [k] then otpDone s 2 1
  else if !ok then otpDone s 2 2
  else
    let use := (List.range 4).map fun j =>
      let u := s.sys.otp.keyUse.getD j 0
      if j = k then setBits u 2 1 1 else u
    otpDone (otpState { s with sys := { s.sys with otp := { s.sys.otp with keyUse := use } } }) 2 0

/-- BURN_REMAP: the entry takes effect at the next start. Where a bit fails, which bits the entry holds is free (log entry
6). -/
def otpRemap (s : State) (arg : Nat) (ok : Bool) : State :=
  let g := bits arg 0 6
  let key := g * 8 + bits arg 6 3
  let w := bits arg 9 19
  let put (s : State) (w : Nat) : State :=
    { s with sys := { s.sys with otp := { s.sys.otp with remaps := tput s.sys.otp.remaps key w } } }
  if 39 ≤ g then otpDone s 3 4
  else if (tget s.sys.otp.remaps key).isSome then otpDone s 3 1
  else if ok then otpDone (put s w) 3 0
  else
    let (x, s) := s.fresh
    otpDone (if x % 2 = 1 then put s (w &&& x / 2) else s) 3 2

end Sys2Proof.Machine
end

