-- ==== Sys2Proof/Machine/FwOps.lean ====
section
/-! DEFINITION. The firmware slot table, download, commit, activation and confirmation (R358 to R369). -/

namespace Sys2Proof.Machine

/-! The slot table (R360). -/

def emptySlot : FwSlot := ⟨false, false, 0, 0, 0, 0, 0, false, []⟩

/-- Slot `n`, from 1 to 4, and the table with it replaced. -/
def fwSlot (t : FwTable) (n : Nat) : FwSlot := if n = 0 then emptySlot else t.slots.getD (n - 1) emptySlot
def putSlot (t : FwTable) (n : Nat) (x : FwSlot) : FwTable :=
  { t with slots := (List.range 4).map fun k => if k + 1 = n then x else t.slots.getD k emptySlot }

/-- A slot entry (Table 16.3), 112 B; the two media addresses of its package are firmware's choice. -/
def slotBytes (x : FwSlot) (a b : Nat) : List Byte :=
  fit (natLe (if x.valid then 1 else if x.failed then 2 else 0) 4 ++ natLe x.len 4 ++ natLe (a % 2 ^ 42) 8 ++ natLe (b % 2 ^ 42) 8
    ++ natLe x.secver 4 ++ natLe x.rev 8 ++ natLe x.fmt 2 ++ natLe x.fmtMin 2 ++ (if x.pkg = [] then [] else Config.sha384 x.pkg)) 112

/-- The header of the slot table (Table 16.3), 64 B. -/
def tableBytes (t : FwTable) : List Byte :=
  fit (natLe 0x5107 2 ++ natLe 1 2 ++ natLe t.seqNo 8 ++ natLe t.active 1 ++ natLe t.previous 1
    ++ natLe (b2n t.confirmPending + 2 * b2n t.fellBack) 1 ++ natLe 0 1 ++ fit (t.order.flatMap fun n => natLe n 1) 4
    ++ natLe t.confirmAt 4 ++ natLe t.s 2 ++ natLe t.k 2) 64

/-- The page of a slot table written to both Sett copies (R360). -/
def writeTable (s : State) (t : FwTable) : State :=
  let (l, s) := t.slots.foldl (fun y x =>
    let (a, s) := y.2.fresh
    let (b, s) := s.fresh
    (y.1 ++ slotBytes x a b, s)) (tableBytes t, s)
  let (p, s) := settPage4k s l
  s.emit (.settRecord false p)

/-- A new table made durable in both Sett copies: its sequence rises, a new anchor page is written, and the attempts counted
for the old table no longer count (R347, R360, R368). -/
def putTable (s : State) (t : FwTable) : State :=
  let t := { t with seqNo := s.fw.table.seqNo + 1 }
  writeAnchor (writeTable { s with fw := { s.fw with table := t, attempts := 0 } } t)

/-- ORDER with a slot first. -/
def orderFirst (l : List Nat) (n : Nat) : List Nat := n :: l.filter fun x => x ≠ n && x ≠ 0

/-! The download buffer (R361). -/

/-- The buffer's bytes as far as they are contiguous from offset 0. -/
def bufferBytes (t : Tbl (List Byte)) : List Byte := t.foldl (fun b x => if x.1 = b.length then b ++ x.2 else b) []

/-- A piece of the download: its status, 0 where it is kept, and the buffer after it. -/
def takePiece (t : Tbl (List Byte)) (off : Nat) (d : List Byte) : Nat × Tbl (List Byte) :=
  let n := d.length
  let t := if off = 0 then [] else t
  let all := tput t off d
  let len := pkgLen (tgetD all 0 [])
  if off % 4096 ≠ 0 ∨ 16777216 < off + n ∨ (n % 4096 ≠ 0 ∧ off + n ≠ len) then (stInvalidField, t)
  else if t.any fun x => decide (x.1 < off + n) && decide (off < x.1 + x.2.length) then (stOverlap, t)
  else (0, all)

/-! Commit (R362, R363). -/

/-- The slot that FS names: for 0 the lowest empty one, else the lowest that is neither ACTIVE nor PREVIOUS. -/
def slotFor (t : FwTable) (fs : Nat) : Nat :=
  if fs ≠ 0 then fs
  else
    match [1, 2, 3, 4].find? fun n => !(fwSlot t n).valid && !(fwSlot t n).failed with
    | some n => n
    | none => ([1, 2, 3, 4].find? fun n => n ≠ t.active && n ≠ t.previous).getD 1

/-- Whether a package reads a settings format in force (R363). -/
def formatOk (t : FwTable) (x : FwSlot) : Bool :=
  (x.fmtMin ≤ t.s && t.s ≤ x.fmt) || (t.k ≠ 0 && x.fmtMin ≤ t.k && t.k ≤ x.fmt)

/-- Whether a package's Ploette image, if it has one, may follow the booted one (R369). -/
def imageFollows (s : State) (b : List Byte) : Bool :=
  match pkgImage b with
  | none => true
  | some i => imageOk s i && s.get SYS_IMG_SEQ_V < imgSeq i

/-- The package that the buffer holds. -/
def bufferPkg (s : State) : List Byte :=
  let b := bufferBytes s.fw.pieces
  b.take (pkgLen b)

/-- Whether a slot is empty (Table 16.3): it holds no package, not even one that failed a check. -/
def slotEmpty (t : FwTable) (n : Nat) : Bool := !(fwSlot t n).valid && !(fwSlot t n).failed

/-- The checks of a commit in the order of R363: the first that fails, 0 for none. `ca` is the commit action, `n` the slot,
`load` says that the buffer's package is written. -/
def commitStatus (s : State) (ca fs n : Nat) (load : Bool) : Nat :=
  let t := s.fw.table
  let b := bufferBytes s.fw.pieces
  let x := if load then slotOf (bufferPkg s) else fwSlot t n
  if 4 ≤ ca then stInvalidField
  else if 4 < fs ∨ (2 ≤ ca ∧ !load ∧ slotEmpty t n) then stInvalidSlot
  else if load ∧ (b.length < pkgLen b ∨ !pkgOk s (bufferPkg s) ∨ !imageFollows s (bufferPkg s)) then stInvalidImage
  else if ca ≠ 2 ∧ load ∧ n = t.previous ∧ t.confirmPending then stFwProhibited
  else if ca ≠ 0 ∧ !formatOk t x then stFwProhibited
  else 0

/-- What a commit writes: the slot, and for an activation the slot first in ORDER. -/
def commitWrite (s : State) (ca n : Nat) (load : Bool) : State :=
  let t := s.fw.table
  let t := if load then putSlot t n (slotOf (bufferPkg s)) else t
  let t := if ca = 0 then t else { t with order := orderFirst t.order n }
  let s := putTable s t
  if load then { s with fw := { s.fw with pieces := [] } } else s

/-- The buffer discarded by a commit that read it, though the commit failed (R361): every failure after the first check has read it. -/
def dropBuffer (s : State) (st : Nat) (load : Bool) : State :=
  if load ∧ st ≠ stInvalidField ∧ st ≠ stInvalidSlot then { s with fw := { s.fw with pieces := [] } } else s

/-- The commit action and the slot of a Firmware Commit. -/
def cmdCa (x : Ctx) : Nat := bits x.sqe.cdw10 3 3
def cmdFs (x : Ctx) : Nat := bits x.sqe.cdw10 0 3

/-- Whether a commit reads the buffer: actions 000b and 001b always, 011b where the buffer holds data. -/
def commitLoads (s : State) (ca : Nat) : Bool := ca = 0 || ca = 1 || (ca = 3 && s.fw.pieces ≠ [])

/-- A Firmware Commit that does not activate at once. It waits while an earlier commit runs (R362). -/
def fwCommit (s : State) (c ca : Nat) : State :=
  fwRun s c false 0x10 fun s x =>
    if (cmdCa x ≠ ca ∧ cmdCa x < 4) ∨ s.fw.activating.isSome then s
    else
      let load := commitLoads s (cmdCa x)
      let n := slotFor s.fw.table (cmdFs x)
      let st := commitStatus s (cmdCa x) (cmdFs x) n load
      if st ≠ 0 then fwPost (dropBuffer s st load) c st 0 0 else fwPost (commitWrite s ca n load) c 0 0 0

/-! Activation (R238, R364 to R368). -/

/-- Where a new package is placed in HBM: device firmware chooses; the page is free (log entry 28). -/
def packagePage (s : State) (b : List Byte) : Nat × State :=
  let (x, s) := s.fresh
  (x % (hbmEnd / 4096 - (b.length + 4095) / 4096), s)

/-- The new package placed in HBM, the notice of a starting activation, and PAUSE (R364). -/
def beginActivation (s : State) (c : Option Nat) (n : Nat) : State :=
  let b := (fwSlot s.fw.table n).pkg
  let (page, s) := packagePage s b
  let s := noticeAll (writeBytes s (page * 4096) b) 1 3
  pauseFetch { s with fw := { s.fw with activating := some ⟨c, n, s.timeUs, page⟩ } }

/-- The table when a slot's package starts to run (R364, R366 to R368). -/
def startTable (s : State) (t : FwTable) (n : Nat) : FwTable :=
  let x := fwSlot t n
  if t.confirmPending ∧ n = t.previous then
    { t with s := if t.k = 0 then t.s else t.k, k := 0, confirmPending := false, fellBack := true, active := n
             order := orderFirst t.order n, previous := 0 }
  else
    { t with
      previous := if t.active = n then t.previous else t.active
      active := n
      order := orderFirst t.order n
      k := if t.s < x.fmt then t.s else 0
      s := if t.s < x.fmt then x.fmt else t.s
      confirmPending := true
      confirmAt := pohHours s + s.sys.image.confirmHours }

/-- The base of each core's image, for a package that stands in HBM from a page on (R337, R364). -/
def nameImages (s : State) (b : List Byte) (page : Nat) : State :=
  (pkgCores b).foldl (fun s c => (List.range 64).foldl (fun s n =>
    if bits c.mask n 1 = 1 then s.set MBX_COREn_IMAGE_BASE (page + c.off / 4096) n else s) s) s

/-- One core restarted into its new image (R321, R364): its routes move while it loads. A retired core stays in reset. -/
def restartInto (s : State) (n : Nat) : State :=
  if coreState s n = 3 then s
  else
    let s := (s.set MBX_COREn_CTL_STATE 0 n).set MBX_COREn_CTL_RESTART 1 n
    let s := (loadImage (loadCore (failover s n) n) n).set MBX_COREn_CTL_RESTART 0 n
    kickCore (s.set MBX_COREn_CTL_STATE (if s.on MBX_COREn_CTL_HOLD n then 0 else 2) n) n

/-- The copy region of the bank that is not the boot bank written with a package's Ploette image (R369). -/
def writeImage (s : State) (b : List Byte) : State :=
  match pkgImage b with
  | none => s
  | some i => s.emit (.norCopy (1 - s.get SYS_SPI_STAT_BOOT_BANK) i)

/-- The switch to a slot's package, which stands in HBM from a page on (R364). -/
def activateSlot (s : State) (n page : Nat) : State :=
  let b := (fwSlot s.fw.table n).pkg
  let s := (List.range 64).foldl restartInto (nameImages (writeImage s b) b page)
  let s := putTable s (startTable s s.fw.table n)
  { s with fw := { s.fw with pieces := [] } }

/-- RESUME (R238, R364): the switch where the drain completed; else, once DRAIN_MS has passed, the activation stays pending and the
commit completes with Firmware Activation Requires Maximum Time Violation. -/
def resumeActivation (s : State) : State :=
  match s.fw.activating with
  | none => resumeFetch s
  | some a =>
    let ok := s.on CMD_ACT_CTL_DRAINED
    if !ok ∧ s.timeUs < a.pausedUs + 1000 * s.get CMD_ACT_CTL_DRAIN_MS then s
    else
      let s := if ok then activateSlot s a.slot a.page else s
      let s := resumeFetch { s with fw := { s.fw with activating := none } }
      match a.ctx with
      | none => s
      | some c => fwPost s c (if ok then 0 else stFwMaxTime) 0 0

/-- The slot that waits for activation at a reset (R365). -/
def pendingSlot (s : State) : Option Nat :=
  match s.fw.table.order with
  | [] => none
  | n :: _ => if n ≠ 0 ∧ n ≠ s.fw.table.active then some n else none

/-- Activation of the slot that was pending at a controller reset in `s`, in the state `t` that the reset leaves (R365). -/
def resetActivation (s t : State) : State :=
  match pendingSlot s, s.fw.activating with
  | some n, none => beginActivation t none n
  | _, _ => t

/-! Confirmation (R367). -/

/-- Confirmation: the new table, then ADVANCE_SECVER where the package asks for it. -/
def confirmTable (s : State) : State :=
  let t := s.fw.table
  let s := putTable s { t with confirmPending := false, k := 0 }
  if (fwSlot t t.active).advance then otpAdvance (s.set SYS_OTP_ARG_V (fwSlot t t.active).secver) (fwSlot t t.active).secver true
  else s

/-- AUTO_CONFIRMATION: Power On Hours have reached CONFIRM_AT. -/
def execAutoConfirmation (s : State) : Host.Outcome State Fault Refusal := act .image s fun s =>
  if s.fw.table.confirmPending ∧ s.fw.table.confirmAt ≤ pohHours s then confirmTable s else s

/-- Confirm Firmware (R258). -/
def execConfirmFirmware (ctx : Nat) (s : State) : Host.Outcome State Fault Refusal := act .image s fun s =>
  fwRun s ctx false 0xC0 fun s _ =>
    if s.fw.table.confirmPending then fwPost (confirmTable s) ctx 0 0 0 else fwPost s ctx stNoConfirmation 0 0

/-- RESUME (R238). -/
def execResume (s : State) : Host.Outcome State Fault Refusal := act .resume s resumeActivation

/-- Firmware Image Download (R361). -/
def execFirmwareImageDownload (ctx : Nat) (data : List Byte) (s : State) : Host.Outcome State Fault Refusal := act .image s fun s =>
  fwRun s ctx false 0x11 fun s x =>
    let (st, t) := takePiece s.fw.pieces (x.sqe.cdw11 * 4) (fit (hostData x data) (numd x * 4))
    if st = 0 then fwPost { s with fw := { s.fw with pieces := t } } ctx 0 0 0 else fwPost s ctx st 0 0

/-- Firmware Commit, actions 000b, 001b and 010b (R362). -/
def execFirmwareCommitReplace (ctx : Nat) (s : State) : Host.Outcome State Fault Refusal := act .image s fun s => fwCommit s ctx 0
def execFirmwareCommitReplaceActivateReset (ctx : Nat) (s : State) : Host.Outcome State Fault Refusal :=
  act .image s fun s => fwCommit s ctx 1
def execFirmwareCommitActivateReset (ctx : Nat) (s : State) : Host.Outcome State Fault Refusal :=
  act .image s fun s => fwCommit s ctx 2

/-- Firmware Commit, action 011b (R362, R364): the activation begins; its end is RESUME. -/
def execFirmwareCommitActivateNow (ctx : Nat) (s : State) : Host.Outcome State Fault Refusal := act .image s fun s =>
  fwRun s ctx false 0x10 fun s x =>
    if cmdCa x ≠ 3 ∨ s.fw.activating.isSome then s
    else
      let load := commitLoads s 3
      let n := slotFor s.fw.table (cmdFs x)
      let st := commitStatus s 3 (cmdFs x) n load
      if st ≠ 0 then fwPost (dropBuffer s st load) ctx st 0 0 else beginActivation (commitWrite s 3 n load) (some ctx) n

end Sys2Proof.Machine
end

