-- ==== Sys2Proof/Machine/LogOps.lean ====
section
/-! DEFINITION. Log pages (R160, R250 to R253, R256, R377, R419). Field places that the spec does not give are those of the
base specification (PRESUMED, log entry 29). -/

namespace Sys2Proof.Machine

/-- A page of `n` bytes from fields at rising offsets; the rest is 0. -/
def layPage (n : Nat) (l : List (Nat × List Byte)) : List Byte := fit (l.foldl (fun a x => fit a x.1 ++ x.2) []) n

/-- A sum of a list. -/
def sumOf (l : List Nat) : Nat := l.foldl (· + ·) 0

/-- The log pages of Table 10.7. -/
def logIds : List Nat :=
  [0x00, 0x01, 0x02, 0x03, 0x04, 0x05, 0x07, 0x08, 0x09, 0x20, 0x21, 0x22, 0x23, 0x81, 0xC0, 0xC1, 0xC2]

/-- Supported Log Pages: a dword for each identifier. -/
def supportedLog : List Byte := (List.range 256).flatMap fun n => natLe (b2n (logIds.contains n)) 4

/-- An entry of the Error Information log (R419), 64 B. -/
def errBytes (e : ErrEntry) : List Byte :=
  layPage 64 [(0, natLe e.count 8), (8, natLe e.sqid 2), (10, natLe e.cid 2), (12, natLe (e.status * 2) 2), (24, natLe e.nsid 4),
    (32, natLe e.logSeq 4), (36, natLe (e.f + 1) 2)]

def errorLog (s : State) : List Byte := fit (s.nvm.errLog.flatMap errBytes) 16384

/-- Firmware Slot Information (R360). -/
def slotLog (s : State) : List Byte :=
  let t := s.fw.table
  let next := match pendingSlot s with | some n => n | none => 0
  layPage 512 [(0, natLe (t.active + next * 16) 1),
    (8, t.slots.flatMap fun x => if x.valid then natLe x.rev 8 else List.replicate 8 0)]

/-- The Changed Namespace List of a function (R244): 1,024 identifiers; one entry of all ones when there are more. -/
def changedLog (s : State) (f : Nat) : List Byte :=
  let l := (s.nvm.changed.filter fun x => x.1 = f).map Prod.snd
  fit (if 1024 < l.length then natLe (2 ^ 32 - 1) 4 else l.flatMap fun n => natLe n 4) 4096

/-- Effects of a command (R253): CSUPP, with LBCC for Secure Deallocate and NCC for Requalify Die; other vendor commands
have no effect bits, and a standard command has those that the base specification gives it. -/
def effectBits (io : Bool) (op : Nat) : Nat :=
  if io ∧ op = 0x85 then 3
  else if !io ∧ op = 0xC4 then 5
  else if (io ∧ 0x80 ≤ op) ∨ (!io ∧ 0xC0 ≤ op) then 1
  else 1 + 2 * (Config.commandEffects (b2n io) op % 2 ^ 31)

/-- Commands Supported and Effects of a function. -/
def effectsLog (s : State) (f : Nat) : List Byte :=
  let adm := adminOpcodes.filter fun op => isPf s f || (op ≠ 0xC2 && op ≠ 0xC4)
  let tab (l : List Nat) (io : Bool) : List Byte :=
    (List.range 256).flatMap fun op => natLe (if l.contains op then effectBits io op else 0) 4
  fit (tab adm false ++ tab ioOpcodes true) 4096

/-- Bytes of the capacity of every namespace. -/
def nsCapacity (s : State) : Nat := sumOf (s.nvm.ns.map fun x => x.2.nsze * lbaSize s x.1)
def unallocated (s : State) : Nat := s.sys.image.tnvmcap - nsCapacity s


/-- Bytes that the media was given to program (Table 6.6). -/
def mediaWritten (s : State) : Nat :=
  let h := s.media.health
  h.progHost + h.progColl + h.progFold + h.progRebuild

/-- Endurance Group Information of group 1. -/
def enduranceLog (s : State) : List Byte :=
  let h := healthNow s
  layPage 512 [(0, natLe (criticalWarning s &&& 0x0D) 1), (3, natLe (availableSpare s) 1), (4, natLe s.sys.image.spareThresh 1),
    (5, natLe (percentUsed s) 1), (48, natLe (dataUnits512 h.bytesRead) 16), (64, natLe (dataUnits512 h.bytesWritten) 16),
    (80, natLe (dataUnits512 (mediaWritten s)) 16), (96, natLe h.readCmds 16), (112, natLe h.writeCmds 16),
    (128, natLe h.integrityErrs 16), (144, natLe s.nvm.errCount 16), (160, natLe s.sys.image.tnvmcap 16),
    (176, natLe (unallocated s) 16)]

/-! Flexible Data Placement (R142, R252). -/

/-- Reclaim Unit Nominal Size in bytes. -/
def runsBytes (s : State) : Nat := minPages s * 2097152

/-- FDP Configurations: one configuration, with each handle's type. -/
def fdpConfigLog (s : State) : List Byte :=
  let n := s.sys.image.fdpHandles
  let sz := 64 + 4 * n
  layPage (16 + sz) [(4, natLe (16 + sz) 4), (16, natLe sz 2), (18, natLe 128 1), (20, natLe 1 4), (24, natLe n 2), (26, natLe 127 2),
    (28, natLe 4096 4), (32, natLe (runsBytes s) 8),
    (80, (List.range n).flatMap fun h => natLe (if s.sys.image.persistent.contains h then 2 else 1) 4)]

/-- Whether some namespace lists a placement handle. -/
def handleUsed (s : State) (h : Nat) : Bool := s.nvm.ns.any fun x => x.2.handles.contains h

/-- Reclaim Unit Handle Usage. -/
def handleUsageLog (s : State) : List Byte :=
  let n := s.sys.image.fdpHandles
  fit (natLe n 8 ++ (List.range n).flatMap fun h => natLe (b2n (handleUsed s h)) 8) (8 + 8 * n)

/-- FDP Statistics. The bytes erased are not kept: a free value. -/
def fdpStatsLog (s : State) (erased : Nat) : List Byte :=
  layPage 64 [(0, natLe s.media.health.bytesWritten 16), (16, natLe (mediaWritten s) 16), (32, natLe erased 16)]

/-- An entry of the FDP Events log: kind 0 is a host event, kind 1 a controller event. -/
def fdpEventBytes (e : FdpEvent) : List Byte :=
  layPage 64 [(0, natLe (if e.kind = 0 then 0x00 else 0x80) 1), (1, natLe 7 1), (2, natLe e.handle 2), (4, natLe e.ms 8), (12, natLe e.nsid 4),
    (34, natLe e.handle 2)]

def fdpEventsLog (s : State) (host : Bool) : List Byte :=
  let l := (s.nvm.fdpEvents.filter fun e => (e.kind = 0) = host).take 63
  layPage (64 + 64 * 63) [(0, natLe l.length 4), (64, l.flatMap fdpEventBytes)]

/-! Sanitize status (R374, R377). -/

/-- B of R374: the largest count of usable block numbers on any active die outside the Sett. -/
def sanBlocks (s : State) : Nat :=
  maxOf ((List.range 2048).map fun d => if dieState s d = 1 && !isSettDie s d then usableCount s d else 0)

/-- Usable block numbers of a die below a number. -/
def usableBelow (s : State) (die b : Nat) : Nat := b - ((lostBlocks s die).filter fun k => decide (k < b)).length

/-- Block numbers that every die has completed when all below `b` have been erased (R374). -/
def sanDone (s : State) (b : Nat) : Nat :=
  ((List.range 2048).filter fun d => dieState s d = 1 && !isSettDie s d && decide (usableBelow s d b < usableCount s d)).foldl
    (fun m d => min m (usableBelow s d b)) (sanBlocks s)

/-- SPROG. -/
def sanProgress (s : State) : Nat :=
  match s.fw.san with
  | none => 65535
  | some r =>
    if r.phase ≤ 1 then 0
    else if r.phase = 2 then 8192 * r.b / 4096
    else if r.phase = 3 then 8192
    else if r.phase = 4 then 8192 + 57344 * sanDone s (if r.left = [] then r.b else r.b - 1) / max 1 (sanBlocks s)
    else 65535

/-- The estimate for a Block Erase in seconds: ceil(1.25 × B × T_BERS) + 10. -/
def sanEraseTime (s : State) : Nat :=
  ceilDiv (5 * sanBlocks s * maxOf ((modelsUsed s).map fun m => s.get FCH_MODELm_TIME1_T_BERS m)) 4000000 + 10

/-- SSTAT: 010b while a sanitize runs. -/
def sanStat (s : State) : Nat := (if s.fw.san.isSome then 2 else s.fw.sstat) + 256 * b2n s.fw.gde

def sanitizeLog (s : State) : List Byte :=
  let all := 2 ^ 32 - 1
  layPage 512 [(0, natLe (sanProgress s) 2), (2, natLe (sanStat s) 2), (4, natLe s.fw.scdw10 4), (8, natLe all 4),
    (12, natLe (sanEraseTime s) 4), (16, natLe 10 4), (20, natLe all 4), (24, natLe (sanEraseTime s) 4), (28, natLe 10 4)]

/-! Secure deallocation status (R256). -/

def secBytes (r : SecReq) : List Byte :=
  layPage 32 [(0, natLe r.id 4), (4, natLe (r.ns + 1) 4), (8, natLe r.state 1), (12, natLe r.total 4), (16, natLe r.done 4),
    (20, natLe r.failed 4), (24, natLe r.hours 8)]

def secLog (s : State) : List Byte := fit ((s.nvm.secReqs.take 256).flatMap secBytes) 8192

/-! Get Log Page (R250). -/

/-- Whether an endurance group log names group 1 in LSI. -/
def groupOne (x : Ctx) : Bool := bits x.sqe.cdw11 16 16 = 1

/-- A log page whose bytes the spec fixes; none for an identifier or an argument that is not admitted. -/
def logPage (s : State) (x : Ctx) (lid free : Nat) : Option (List Byte) :=
  let fdp (d : List Byte) : Option (List Byte) := if s.sys.image.fdp ∧ groupOne x = true then some d else none
  if lid = 0x00 then some supportedLog
  else if lid = 0x01 then some (errorLog s)
  else if lid = 0x02 then some (smartLog s)
  else if lid = 0x03 then some (slotLog s)
  else if lid = 0x04 then some (changedLog s x.f)
  else if lid = 0x05 then (if bits x.sqe.cdw14 24 8 = 0 then some (effectsLog s x.f) else none)
  else if lid = 0x09 then (if groupOne x then some (enduranceLog s) else none)
  else if lid = 0x20 then fdp (fdpConfigLog s)
  else if lid = 0x21 then fdp (handleUsageLog s)
  else if lid = 0x22 then fdp (fdpStatsLog s free)
  else if lid = 0x23 then fdp (fdpEventsLog s (bits x.sqe.cdw10 8 1 = 1))
  else if lid = 0x81 then some (sanitizeLog s)
  else if lid = 0xC0 then some (mediaLog s)
  else if lid = 0xC1 then some (secLog s)
  else if lid = 0xC2 then some (burrowLog s)
  else none

/-- The telemetry logs: a header, Data Area 1 of 8 KiB and Data Areas 2 and 3 of at most 16 MiB and 64 MiB. All but the
identifier, the organization and the end of Data Area 1 are free bytes (log entry 6). -/
def telemetryHead (s : State) (lid : Nat) : List Byte := layPage 10 [(0, natLe lid 1), (5, natLe s.sys.image.oui 3), (8, natLe 16 2)]
def telemetryMax : Nat := 512 + 8192 + 16777216 + 67108864

/-- Whether a log is subsystem-wide, so that NSID must be 0 or all ones (R250). -/
def logWide (lid : Nat) : Bool := [0x02, 0x07, 0x08, 0xC0].contains lid

/-- `n` bytes of a page from an offset; what lies past its end is free. -/
def logCut (s : State) (d : List Byte) (off n : Nat) : List Byte × State :=
  let a := (d.drop off).take n
  let (b, s) := s.freshBytes (n - a.length)
  (a ++ b, s)

/-- What reading a log does beside: with RAE = 0 its events may be posted again, and the Changed Namespace List is
emptied. -/
def logRead (s : State) (x : Ctx) (lid : Nat) : State :=
  if bits x.sqe.cdw10 15 1 = 1 then s
  else
    let s := clearEvent s x.f lid
    if lid = 0x04 then { s with nvm := { s.nvm with changed := s.nvm.changed.filter fun y => y.1 ≠ x.f } } else s

def getLogPage (s : State) (c : Nat) (x : Ctx) : State :=
  let lid := bits x.sqe.cdw10 0 8
  let off := x.sqe.cdw12 + x.sqe.cdw13 * 2 ^ 32
  let n := dataLen s x
  let fin (s : State) (d : List Byte) : State := fwPost (logRead (fwData s x c 0 d) x lid) c 0 0 0
  if off % 4 ≠ 0 ∨ (logWide lid ∧ x.sqe.nsid ≠ 0 ∧ x.sqe.nsid ≠ 0xFFFFFFFF) then fwPost s c stInvalidField 0 0
  else if lid = 0x07 ∨ lid = 0x08 then
    if telemetryMax < off then fwPost s c stInvalidField 0 0
    else
      let (d, s) := logCut s (telemetryHead s lid) off n
      fin s d
  else
    let (v, t) := if lid = 0x22 then s.fresh else (0, s)
    match logPage s x lid v with
    | none => fwPost s c stInvalidField 0 0
    | some d =>
      if d.length < off then fwPost s c stInvalidField 0 0
      else
        let (d, t) := logCut t d off n
        fin t d

end Sys2Proof.Machine
end

