-- ==== Sys2Proof/Machine/IdOps.lean ====
section
/-! DEFINITION. Identify (R242, R243, R380). Field places that the spec does not give are those of the base specification
(PRESUMED, log entry 29). -/

namespace Sys2Proof.Machine

/-- The unit ID as a number, and a number as `n` upper-case hexadecimal digits. -/
def unitNum (s : State) : Nat := leNat (unitId s)
def hexDigits (v n : Nat) : List Byte :=
  (List.range n).map fun k =>
    let d := v / 16 ^ (n - 1 - k) % 16
    BitVec.ofNat 8 (if d < 10 then 48 + d else 55 + d)

/-- ASCII bytes padded with spaces to `n`. -/
def padded (l : List Byte) (n : Nat) : List Byte := l.take n ++ List.replicate (n - l.length) 0x20

/-- A power state descriptor (Table 17.1), 32 B: MP and ACTP in units of 10 mW, IDLP likewise. -/
def psDesc (mp nops enlat exlat rel idlp actp : Nat) : List Byte :=
  layPage 32 [(0, natLe mp 2), (3, natLe (2 * nops) 1), (4, natLe enlat 4), (8, natLe exlat 4), (12, natLe rel 1), (13, natLe rel 1),
    (14, natLe rel 1), (15, natLe rel 1), (16, natLe idlp 2), (18, natLe 128 1), (20, natLe actp 2), (22, natLe (if actp = 0 then 0 else 128) 1)]

/-- The five power states. -/
def psDescs (s : State) : List Byte :=
  psDesc (100 * min 285 (s.get PWR_CFG_CAP_W)) 0 0 0 0 4800 19500 ++ psDesc 22000 0 1000 1000 1 4800 19500
    ++ psDesc 16000 0 1000 1000 2 4800 15000 ++ psDesc 10000 0 1000 1000 3 4800 9500 ++ psDesc 3500 1 30000 5000 4 3500 0

/-- Identify Controller (Table 10.1), 4,096 B. -/
def idController (s : State) (f : Nat) : List Byte :=
  layPage 4096 [(0, natLe 0x1EE9 2), (2, natLe s.sys.image.ssvid 2),
    (4, ascii "NY" ++ hexDigits (unitNum s % 2 ^ 72) 18),
    (24, padded (ascii "NYMYBOR NSC-8840") 40),
    (64, natLe (fwSlot s.fw.table s.fw.table.active).rev 8),
    (72, natLe 3 1), (73, natLe s.sys.image.oui 3), (76, natLe 7 1), (77, natLe 9 1), (78, natLe (f + 1) 2), (80, natLe 0x00020100 4),
    (84, natLe 1200000 4), (88, natLe 1000000 4), (92, natLe 0x700 4), (96, natLe 0x00088011 4), (111, natLe 1 1),
    (256, natLe 0x006F 2), (258, natLe 15 1), (259, natLe 7 1), (260, natLe 0x18 1), (261, natLe 0x2E 1), (262, natLe 255 1),
    (263, natLe 4 1), (264, natLe 1 1), (266, natLe 368 2), (268, natLe 378 2), (270, natLe 9 2),
    (280, natLe s.sys.image.tnvmcap 16), (296, natLe (unallocated s) 16), (319, natLe 1 1), (322, natLe 1 2), (324, natLe 273 2),
    (326, natLe 368 2), (328, natLe 3 4), (512, natLe 0x66 1), (513, natLe 0x44 1), (516, natLe 4096 4), (520, natLe 0x01CF 2),
    (524, natLe 4 1), (525, natLe (6 + b2n (s.on HBM_CEIL_VWC)) 1), (526, natLe 511 2), (530, natLe 1 1), (536, natLe 1 4),
    (540, natLe 4096 4),
    (768, ascii "nqn.2023-05.com.nymybor:nsc-8840:" ++ (hexDigits (unitNum s) 32).map fun b => if b.toNat < 65 then b else b + 0x20),
    (2048, psDescs s)]

/-- Whether a lookup finds a sector mapped, staged or held as a media exception. -/
def xlatUsed : Xlat → Bool
  | .staging _ => true
  | .burrow _ => true
  | .media _ _ _ => true
  | .badMedia _ => true
  | .zeros => false
  | .unrecovered => false
  | .corrupt => false

/-- Sectors of a namespace that are mapped, staged or held as a media exception, in logical blocks (NUSE). -/
def nsUsed (s : State) (n : Nat) : Nat :=
  let sectors := sumOf ((List.range (nsRuns s n)).map fun r =>
    ((List.range 512).filter fun q => xlatUsed (translate s (nsBase s n + r) q true)).length)
  sectors * (if nsLba4k s n then 1 else 8)

/-- FPI: bit 7, and the percentage of a Format that remains (R371). The phases of a Format are counted in fifths. -/
def nsFpi (s : State) (n : Nat) : Nat :=
  128 + (match s.fw.formats.find? fun r => r.ns = n with | some r => 100 - 20 * min 5 r.phase | none => 0)

/-- The LBA formats of Table 10.3 as LBAF entries. -/
def lbaFormats : List Byte :=
  (List.range 6).flatMap fun k => natLe (mdBytes k) 2 ++ natLe (if k < 3 then 9 else 12) 1 ++ natLe (if k < 3 then 2 else 0) 1

/-- FLBAS of a format with its metadata setting. -/
def flbasOf (i : NsInfo) : Nat := i.fmt + 16 * b2n i.ext

/-- NGUID of a namespace: unit ID bits [95:0] and its number (R243), most significant byte first. -/
def ngUid (s : State) (i : NsInfo) : List Byte := natBe (unitNum s % 2 ^ 96) 12 ++ natBe i.number 4

/-- Identify Namespace (Table 10.2), 4,096 B; without a namespace, what all have in common. -/
def idNamespace (s : State) (n : Nat) (i : Option NsInfo) : List Byte :=
  let k4 : Bool := match i with | some x => decide (3 ≤ x.fmt) | none => true
  let run := if k4 then 511 else 4095
  let size := match i with | some x => x.nsze | none => 0
  layPage 4096 [(0, natLe size 8), (8, natLe size 8), (16, natLe (if i.isSome then nsUsed s n else 0) 8), (24, natLe 0x12 1),
    (25, natLe 5 1), (26, natLe (match i with | some x => flbasOf x | none => 0) 1), (27, natLe 3 1), (28, natLe 0x17 1),
    (29, natLe (match i with | some x => x.dps | none => 0) 1), (30, natLe (match i with | some x => x.nmic | none => 0) 1),
    (32, natLe (if i.isSome then nsFpi s n else 128) 1), (33, natLe 0x19 1), (34, natLe run 2),
    (64, natLe run 2 ++ natLe run 2 ++ natLe run 2 ++ natLe run 2), (72, natLe (if k4 then 2047 else 16383) 2),
    (74, natLe 65535 2), (76, natLe 1048575 4), (80, natLe 127 1),
    (104, match i with | some x => ngUid s x | none => []), (128, lbaFormats)]

/-- CNS 05h: the extended LBA formats. -/
def idExtFormats : List Byte :=
  layPage 4096 [(12, (List.range 6).flatMap fun k => natLe (if mdBytes k = 16 then 0x100 else 0) 4)]

/-- CNS 08h: the command set independent data of a namespace. -/
def idIndependent (s : State) (n : Nat) (i : NsInfo) : List Byte :=
  layPage 4096 [(1, natLe i.nmic 1), (3, natLe (nsFpi s n) 1), (14, natLe 1 1)]

/-- CNS 03h: the namespace's NGUID and command set. -/
def idDescriptors (s : State) (i : NsInfo) : List Byte :=
  layPage 4096 [(0, natLe 2 1 ++ natLe 16 1 ++ [0, 0] ++ ngUid s i ++ natLe 4 1 ++ natLe 1 1 ++ [0, 0] ++ [0])]

/-- Namespace identifiers above `a`, of all namespaces or of those active at a function, 1,024 at most. -/
def nsidList (s : State) (f : Option Nat) (a : Nat) : List Byte :=
  let l := (s.nvm.ns.filter fun x => decide (a < x.1 + 1) && (match f with | some g => x.2.attached.contains g | none => true)).map
    fun x => x.1 + 1
  fit (l.flatMap fun n => natLe n 4) 4096

/-- A controller list from identifier `a` on. -/
def ctrlList (l : List Nat) (a : Nat) : List Byte :=
  let m := (l.filter fun c => decide (a ≤ c)).take 2047
  fit (natLe m.length 2 ++ m.flatMap fun c => natLe c 2) 4096

/-- Controller identifiers of the subsystem, and of a namespace. -/
def allCtrls (s : State) : List Nat := ((List.range 256).filter (fnPresent s)).map (· + 1)
def nsCtrls (s : State) (i : NsInfo) : List Nat := (allCtrls s).filter fun c => i.attached.contains (c - 1)

/-- CNS 14h: the primary controller of a function's link. -/
def idPrimary (s : State) (f : Nat) : List Byte := layPage 4096 [(0, natLe (pfOf (linkOf s f) + 1) 2), (2, natLe (linkOf s f) 2)]

/-- CNS 15h: its secondary controllers from identifier `a` on. -/
def idSecondary (s : State) (f a : Nat) : List Byte :=
  let p := pfOf (linkOf s f)
  let l := ((linkFns s (linkOf s f)).drop 1).filter fun g => decide (a ≤ g + 1)
  let m := l.take 127
  fit (natLe m.length 1 ++ List.replicate 31 0 ++ m.flatMap fun g =>
    layPage 32 [(0, natLe (g + 1) 2), (2, natLe (p + 1) 2), (4, natLe (b2n (fnPresent s g)) 1), (8, natLe (vfNum s g) 2)]) 4096

/-- What an Identify answers: a status, and its data. -/
def identifyData (s : State) (x : Ctx) : Nat × List Byte :=
  let cns := bits x.sqe.cdw10 0 8
  let cntid := bits x.sqe.cdw10 16 16
  let csi := bits x.sqe.cdw11 24 8
  let n := x.sqe.nsid - 1
  let ns := if x.sqe.nsid = 0 ∨ 4096 < x.sqe.nsid then none else nsInfo s n
  let act := if nsActive s x.f x.sqe.nsid then ns else none
  let badId := x.sqe.nsid = 0 ∨ (4096 < x.sqe.nsid ∧ x.sqe.nsid ≠ 0xFFFFFFFF)
  let zero : List Byte := List.replicate 4096 0
  if csi ≠ 0 then (stInvalidField, [])
  else if cns = 0x00 ∨ cns = 0x05 ∨ cns = 0x11 then
    if badId ∨ (cns = 0x11 ∧ x.sqe.nsid = 0xFFFFFFFF) then (stInvalidNs, [])
    else
      let who := if cns = 0x11 then ns else act
      if who.isNone ∧ x.sqe.nsid ≠ 0xFFFFFFFF then (0, zero)
      else (0, if cns = 0x05 then idExtFormats else idNamespace s n who)
  else if cns = 0x03 ∨ cns = 0x08 then
    match act with
    | some i => (0, if cns = 0x03 then idDescriptors s i else idIndependent s n i)
    | none => if badId ∨ x.sqe.nsid = 0xFFFFFFFF ∨ cns = 0x03 then (stInvalidNs, []) else (0, zero)
  else if cns = 0x01 then (0, idController s x.f)
  else if cns = 0x06 then (0, layPage 4096 [(0, natLe 9 1)])
  else if cns = 0x02 ∨ cns = 0x07 ∨ cns = 0x10 ∨ cns = 0x1A then
    if 0xFFFFFFFE ≤ x.sqe.nsid then (stInvalidNs, [])
    else (0, nsidList s (if cns = 0x02 ∨ cns = 0x07 then some x.f else none) x.sqe.nsid)
  else if cns = 0x12 then
    match ns with
    | some i => (0, ctrlList (nsCtrls s i) cntid)
    | none => (stInvalidNs, [])
  else if cns = 0x13 then (0, ctrlList (allCtrls s) cntid)
  else if cns = 0x14 then (0, idPrimary s x.f)
  else if cns = 0x15 then (0, idSecondary s x.f cntid)
  else if cns = 0x1C then (0, fit (natLe 1 8) 4096)
  else (stInvalidField, [])

def identify (s : State) (c : Nat) (x : Ctx) : State :=
  let (st, d) := identifyData s x
  if st ≠ 0 then fwPost s c st 0 0 else fwPost (fwData s x c 0 d) c 0 0 0

end Sys2Proof.Machine
end

