-- ==== Sys2Proof/Machine/FdpOps.lean ====
section
/-! DEFINITION. Flexible Data Placement: reclaim units and events (R142, R143, R252). -/

namespace Sys2Proof.Machine

/-- An FDP event logged where feature 1Eh enables it for the handle: kind 0 Reclaim Unit Not Written To Capacity, 1 Media
Reallocated. -/
def fdpEvent (s : State) (kind handle nsid : Nat) : State :=
  if feat s subsys 0x1E (handle * 256 + (if kind = 0 then 0x00 else 0x80)) = 1 then
    { s with nvm := { s.nvm with fdpEvents := ⟨kind, handle, nsid, (stampMs s).1⟩ :: s.nvm.fdpEvents } }
  else s

/-- Sectors of a reclaim unit, a dense stripe: PAGES × 512 for the smallest PAGES in use (R142). -/
def ruSectors (s : State) : Nat := minPages s * 512

/-- The open reclaim unit of a handle: a stripe that is open. -/
def unitOf (s : State) (h : Nat) : Option RuHandle :=
  match tget s.nvm.handles h with
  | some u => if stripeState (stripeHdr s u.stripe) = 1 then some u else none
  | none => none

/-- Sectors that the open reclaim unit of a handle still takes; where none is open, the next free stripe's. -/
def ruLeft (s : State) (h : Nat) : Nat := match unitOf s h with | some x => x.left | none => ruSectors s

/-- A stripe of host data that takes no more rows: it is closed once its rows have ended. -/
def closeLater (s : State) (stripe : Nat) : State :=
  if s.media.toClose.contains stripe then s else { s with media := { s.media with toClose := s.media.toClose ++ [stripe] } }

/-- A free stripe opened for a handle: its reclaim unit (R142). -/
def ruOpen (s : State) (h stripe : Nat) : State :=
  { s with nvm := { s.nvm with handles := tput s.nvm.handles h ⟨stripe, ruSectors s⟩, ruStripe := tput s.nvm.ruStripe stripe (h * 2 ^ 32) } }

/-- A handle's open unit closed; a free stripe opens for the handle with its next row (R142). -/
def ruClose (s : State) (h : Nat) : State :=
  match tget s.nvm.handles h with
  | some u => closeLater { s with nvm := { s.nvm with handles := tdel s.nvm.handles h } } u.stripe
  | none => s

/-- A row of staged data of a namespace laid into a handle's reclaim unit; a full unit is closed (R142). -/
def ruRow (s : State) (h stripe ns : Nat) : State :=
  let n := ruLeft s h - 512
  let s := { s with nvm := { s.nvm with
    ruStripe := tput s.nvm.ruStripe stripe (h * 2 ^ 32 + ns + 1)
    handles := tput s.nvm.handles h ⟨stripe, n⟩ } }
  if n = 0 then ruClose s h else s

/-- A handle's unit closed at the host's wish; one that was not full makes an event (R142). -/
def ruUpdate (s : State) (h nsid : Nat) : State :=
  ruClose (if ruLeft s h ≠ 0 then fdpEvent s 0 h nsid else s) h

/-- I/O Management Send, mode 01h: the placement identifiers are indices into the namespace's handle list. -/
def ioMgmtSend (s : State) (c : Nat) (x : Ctx) (l : List Nat) : State :=
  match nsInfo s (cmdNs x) with
  | none => fwPost s c stInvalidNs 0 0
  | some i =>
    let l := l.take (bits x.sqe.cdw10 16 16 + 1)
    if l.any (fun p => i.handles.length ≤ p) then fwPost s c stPlacementHandle 0 0
    else fwPost (l.foldl (fun s p => ruUpdate s (i.handles.getD p 0) x.sqe.nsid) s) c 0 0 0

/-- I/O Management Receive, mode 01h: a descriptor for each handle of the namespace with the space left in LBAs. -/
def ioMgmtReceive (s : State) (c : Nat) (x : Ctx) : State :=
  match nsInfo s (cmdNs x) with
  | none => fwPost s c stInvalidNs 0 0
  | some i =>
    let per := if nsLba4k s (cmdNs x) then 1 else 8
    let d := List.replicate 14 0 ++ natLe i.handles.length 2 ++
      ((i.handles.zip (List.range i.handles.length)).flatMap fun y =>
        natLe y.2 2 ++ natLe y.1 2 ++ natLe 0 4 ++ natLe (ruLeft s y.1 * per) 8 ++ List.replicate 16 0)
    fwPost (fwData s x c 0 (fit d (dataLen s x))) c 0 0 0

end Sys2Proof.Machine
end

