-- ==== Sys2Proof/Machine/RangeOps.lean ====
section
/-! DEFINITION. Commands that device firmware runs piece by piece over ranges of a namespace: the lock of each piece, whole
sectors deallocated or marked lost, partly covered sectors merged, sectors copied (R155, R168, R226 to R228, R246 to
R248). -/

namespace Sys2Proof.Machine

/-! Pieces (R228). -/

/-- How the work of a piece stands: it waits for something, it is done, or it ends the command with a status. -/
inductive PieceStep where
  | wait
  | done
  | err (st : Nat)
  deriving DecidableEq, Repr

/-- When a piece counts as done: at once, as a write of its function would (Table 7.2), or only durable. -/
inductive DurMode where
  | now
  | asWrite
  | always
  deriving DecidableEq, Repr

/-- Records of a piece: over sectors, and over a whole namespace. -/
def rangeRec (ns first count : Nat) (excl : Bool) : LockRec := ⟨ns, first, count, excl, false, 0, false⟩
def wholeRec (ns : Nat) : LockRec := ⟨ns, 0, 0, true, true, 0, false⟩

/-- Whether a piece must wait for the media before it is done, and what it waits for. -/
def pieceDurable (s : State) (c : Nat) (m : DurMode) : State × Bool :=
  match ctxOf s c with
  | none => (s, false)
  | some x =>
    let need := match m with | .now => false | .asWrite => writeWaits s x | .always => true
    if !need then (s, true)
    else
      let s := durKick (if x.waitDur then s else setCtx s c { x with waitDur := true, durSeq := max x.durSeq (jnlLast s) })
      match ctxOf s c with
      | none => (s, false)
      | some y => (s, isDurable s y)

/-- A piece over: its records are released and its scratch is cleared; `dw1` counts the pieces done. -/
def nextPiece (s : State) (c : Nat) : State :=
  updCtx s c fun x => { x with
    recA := none, recB := none, started := false, got := [], merges := [], stg := [], staged := false
    waitDur := false, durLeft := [], durSeq := 0, dw1 := x.dw1 + 1 }

/-- The pieces of a command in order, each under its records. A piece whose records are not granted, or that waits, leaves
the command where it is; the same command goes on when its row is sent again. `fin` completes it. -/
def pieceLoop {α : Type} (apply : State → α → State × PieceStep) (m : DurMode) (fin : State → State) (s : State) (c : Nat)
    (l : List (Option LockRec × Option LockRec × α)) : State :=
  match l with
  | [] => fin s
  | (a, b, p) :: r =>
    let free := match ctxOf s c with | some x => (ctxRecs x).isEmpty | none => false
    let s := if free then registerRecs s c a b else s
    match ctxOf s c with
    | none => s
    | some x =>
      if !allGranted x then s
      else
        let (s, k) := if x.started then (s, .done) else apply s p
        match k with
        | .wait => s
        | .err st => fwPost s c st x.dw0 0
        | .done =>
          let (s, ok) := pieceDurable (updCtx s c fun y => { y with started := true }) c m
          if ok then pieceLoop apply m fin (nextPiece s c) c r else s

/-! Deallocation (R247). -/

/-- Staging sectors that cover `n` sectors of a run from `q`. -/
def stagedIn (s : State) (run q n : Nat) : List Nat := (List.range n).filterMap fun k => stagedAt s run (q + k)

/-- What supersedes staged sectors: nothing of them is left to make durable, and they are released when nothing uses
them. -/
def superseded (s : State) (l : List Nat) : State := l.foldl (fun s i => releaseStg (durDrop s i) i) s

/-- The staged sectors of a range superseded (R37; DEDUCED, log entry 30); none while an entry cannot be split. -/
def unstageRange (s : State) (run q n : Nat) (wipe : Bool) : Option State :=
  let old := stagedIn s run q n
  if old = [] then some s
  else
    match replaceSpan s (stgPool s) run q (q + n - 1) none with
    | .error _ => none
    | .ok s =>
      let s := if wipe then old.foldl (fun s i => zeroBytes (zeroBytes s (stgAddr s i) 4096) (stgMeta s i) 64) s else s
      some (superseded s old)

/-- The Burrow frames of a range overwritten with zeros (R155). Of a frame that a read still uses, the sectors of the range alone:
the lock on the range keeps reads off them, and the read gets the others as they are (R12). -/
def wipeFrames (s : State) (run q n : Nat) : State :=
  ((List.range 32).filter fun g => decide (g * 16 < q + n) && decide (q < g * 16 + 16)).foldl (fun s g =>
    match burFrame s run g with
    | some f =>
      let busy := s.bur.readers.any fun r => r.1 = f
      ((List.range 16).filter fun k => !busy || (decide (q ≤ g * 16 + k) && decide (g * 16 + k < q + n))).foldl
        (fun s k => putFrameSector s f k (List.replicate 4096 0)) s
    | none => s) s

/-- What is done to the whole sectors of a range. -/
inductive SpanKind where
  | dealloc
  | secure
  | lost
  deriving DecidableEq, Repr

/-- `n` sectors of a run from `q` deallocated or marked lost (R60, R178, R247): RUN_CLEAR for a whole run. False while the
map has no room. -/
def markSpan (s : State) (run q n : Nat) (k : SpanKind) : State × Bool :=
  if !mayUpdate s 2 then (s, false)
  else
    match unstageRange s run q n (k = .secure) with
    | none => (s, false)
    | some s =>
      let s := invalRange (if k = .secure then wipeFrames s run q n else s) run q n
      if q = 0 ∧ n = 512 ∧ k ≠ .lost then (clearRun s run, true)
      else
        let e := mkSpanEntry (if k = .lost then 3 else 2) q n
        match setException s run e with
        | .ok s => (journal s [recExcSet run e], true)
        | .error (_, s) => (s, false)

/-- The sectors of a namespace from `a` to below `b`, as spans of runs: run, first sector, count. -/
def nsSpans (s : State) (ns a b : Nat) : List (Nat × Nat × Nat) :=
  (List.range ((b + 511) / 512 - a / 512)).map fun j =>
    let r := a / 512 + j
    let lo := max a (r * 512)
    (nsBase s ns + r, lo - r * 512, min b (r * 512 + 512) - lo)

/-- Every span of a range marked, until the map has no room. -/
def markSpans (s : State) (k : SpanKind) (l : List (Nat × Nat × Nat)) : State × Bool :=
  l.foldl (fun x y => if x.2 then markSpan x.1 y.1 y.2.1 y.2.2 k else x) (s, true)

/-! Partly covered sectors (R168). -/

/-- Sectors of a range of logical blocks that it covers only in part, and the whole ones, first and end. -/
def partsOf (s : State) (ns slba n : Nat) : List Nat :=
  if nsLba4k s ns then []
  else
    let a := slba / 8
    let b := (slba + n - 1) / 8
    let head := slba % 8 ≠ 0 || slba + n < a * 8 + 8
    let tail := (slba + n) % 8 ≠ 0
    (if head then [a] else []) ++ (if tail && (b ≠ a || !head) then [b] else [])
def wholeOf (s : State) (ns slba n : Nat) : Nat × Nat :=
  if nsLba4k s ns then (slba, slba + n) else ((slba + 7) / 8, (slba + n) / 8)

/-- Numbers of a command's sectors as its merges and reads name them. -/
def secNum (s : State) (x : Ctx) (sec : Nat) : Nat := sec - secBase s x

/-- Sectors put into staging for a command that firmware runs: reserved, written, staged (R169, R31). False while there is
no room, or a write that was fetched before is held: then this one is held too (R170). -/
def putSectors (s : State) (c ns handle : Nat) (l : List (Nat × List Byte)) : State × Bool :=
  match ctxOf s c with
  | none => (s, false)
  | some x =>
    if x.staged then (s, true)
    else if x.stg ≠ [] then (s, false)
    else if heldBefore s x.seq ∨ !mayAdmit s ns l.length then (holdWrite s c l.length, false)
    else
      let s := reserveSectors (unholdWrite s c) c ns handle (l.map fun y => (secRun s ns y.1, secQ y.1))
      let idx := match ctxOf s c with | some y => y.stg | none => []
      let s := (idx.zip l).foldl (fun s y =>
        writeBytes (writeBytes s (stgAddr s y.1) (y.2.2.take 4096)) (stgMeta s y.1) (y.2.2.drop 4096)) s
      let s := stageWrite s c
      (s, match ctxOf s c with | some y => y.staged | none => false)

/-- The merge reads of some sectors begun where they have not been. -/
def askMerges (s : State) (c : Nat) (x : Ctx) (l : List Nat) : State :=
  l.foldl (fun s k => if (tget x.merges (secNum s x k)).isSome then s else mergeRead s c (secNum s x k)) s

/-- Whether merge reads have ended, and how: data of each sector, an error, or still under way. -/
def mergesOf (s : State) (x : Ctx) (l : List Nat) : Except PieceStep (List (Nat × List Byte)) :=
  if x.err ≠ 0 then .error (if x.left = 0 then .err x.err else .wait)
  else
    let d := l.filterMap fun k => match tget x.merges (secNum s x k) with | some (some b) => some (k, b) | _ => none
    if d.length = l.length then .ok d else .error .wait

/-- A sector with the zeros of R243 over the blocks of a range. -/
def zeroOver (s : State) (ns slba n sec : Nat) (base : List Byte) : List Byte :=
  let fmt := nsFmt s ns
  sectorOf fmt ((List.range (lbaPer fmt)).map fun j =>
    let i := sec * lbaPer fmt + j
    blockOf fmt (if slba ≤ i ∧ i < slba + n then zeroSector fmt else base) j)

/-- A range of logical blocks of a namespace. -/
structure BlockRange where
  slba : Nat
  n : Nat
  deriving DecidableEq, Repr

/-- A range deallocated, or marked lost: its whole sectors in the map, its partly covered ones merged with zeros (R168,
R247). -/
def zeroPiece (c ns : Nat) (k : SpanKind) (s : State) (p : BlockRange) : State × PieceStep :=
  match ctxOf s c with
  | none => (s, .wait)
  | some x =>
    if p.n = 0 then (s, .done)
    else
      let parts := partsOf s ns p.slba p.n
      let (a, b) := wholeOf s ns p.slba p.n
      let fin (s : State) : State × PieceStep :=
        if b ≤ a then (s, .done)
        else
          let (s, ok) := markSpans s k (nsSpans s ns a b)
          (s, if ok then .done else .wait)
      if parts = [] ∨ x.staged then fin s
      else
        let s := askMerges s c x parts
        match ctxOf s c with
        | none => (s, .wait)
        | some y =>
          match mergesOf s y parts with
          | .error e => (s, e)
          | .ok d =>
            let (s, ok) := putSectors s c ns 0 (d.map fun z => (z.1, zeroOver s ns p.slba p.n z.1 z.2))
            if ok then fin s else (s, .wait)

/-- First sector of a range, and how many sectors it touches. -/
def rangeSecs (s : State) (ns slba n : Nat) : Nat × Nat :=
  let a := lbaSector s ns slba
  (a, if n = 0 then 0 else lbaSector s ns (slba + n - 1) - a + 1)

/-- An exclusive record over a range. -/
def exclRec (s : State) (ns : Nat) (p : BlockRange) : LockRec :=
  let (a, n) := rangeSecs s ns p.slba p.n
  rangeRec ns a n true

/-- Ranges as pieces with exclusive records. -/
def exclPieces (s : State) (ns : Nat) (l : List BlockRange) : List (Option LockRec × Option LockRec × BlockRange) :=
  l.map fun p => (some (exclRec s ns p), none, p)

/-- A range cut into ranges of at most 512 sectors' worth of blocks, which touch at most 513 sectors (R228). -/
def cutFuel : Nat := 4096
def cutRange (m fuel slba n : Nat) : List BlockRange :=
  match fuel with
  | 0 => []
  | k + 1 => if n ≤ m then (if n = 0 then [] else [⟨slba, n⟩]) else ⟨slba, m⟩ :: cutRange m k (slba + m) (n - m)
def pieceBlocks (s : State) (ns : Nat) : Nat := if nsLba4k s ns then 512 else 4096

/-- A command of one range that firmware runs over its blocks: Write Zeroes and Write Uncorrectable. -/
def rangeCommand (s : State) (c : Nat) (x : Ctx) (k : SpanKind) : State :=
  let ns := cmdNs x
  let l := cutRange (pieceBlocks s ns) cutFuel (cmdSlba x) (cmdNlb x)
  let l := if (ctxRecs x).isEmpty || x.dw1 ≠ 0 || 1 < l.length then l else [⟨cmdSlba x, cmdNlb x⟩]
  let fin (s : State) : State := fwPost s c 0 0 0
  pieceLoop (zeroPiece c ns k) .asWrite fin s c ((exclPieces s ns l).drop x.dw1)

/-! Copy (R228, R246). -/

/-- A piece of Copy: source and destination, number of blocks, place of its first block in the copied blocks, and its source
range with the tags that its blocks are checked against. -/
structure CopyPiece where
  src : Nat
  dst : Nat
  n : Nat
  at_ : Nat
  range : Nat
  srcAt : Nat
  desc : CopyDesc
  deriving DecidableEq, Repr

/-- The pieces of a Copy: each source range cut, laid one after another at the destination. -/
def copyPieces (m : Nat) (l : List CopyDesc) (dst at_ range : Nat) : List CopyPiece :=
  match l with
  | [] => []
  | d :: r =>
    (cutRange m cutFuel d.slba (d.nlb + 1)).map (fun p =>
      ⟨p.slba, dst + (p.slba - d.slba), p.n, at_ + (p.slba - d.slba), range, p.slba - d.slba, d⟩)
      ++ copyPieces m r (dst + d.nlb + 1) (at_ + d.nlb + 1) (range + 1)

/-- The records of a piece of Copy: A shared over the source, B exclusive over the destination. -/
def copyRecs (s : State) (ns : Nat) (p : CopyPiece) : Option LockRec × Option LockRec × CopyPiece :=
  let (a, n) := rangeSecs s ns p.src p.n
  (some (rangeRec ns a n false), some (exclRec s ns ⟨p.dst, p.n⟩), p)

/-- The blocks of a piece from the sectors that have been read. -/
def copyBlocks (s : State) (ns : Nat) (x : Ctx) (p : CopyPiece) : List (List Byte × List Byte) :=
  let fmt := nsFmt s ns
  (List.range p.n).map fun i =>
    let b := p.src + i
    blockOf fmt (tgetD x.got (b / lbaPer fmt) []) (b % lbaPer fmt)

/-- Check of the source blocks (PRINFOR, CDW12 [15:12]) against the tags of their range: 0 passes. -/
def copyReadCheck (s : State) (ns : Nat) (x : Ctx) (p : CopyPiece) (l : List (List Byte × List Byte)) : Nat :=
  let md := mdBytes (nsFmt s ns)
  let e := { x.sqe with cdw3 := 0, cdw14 := p.desc.ref, cdw15 := p.desc.app + p.desc.mask * 65536 }
  if md = 0 then 0
  else (l.zip (List.range l.length)).foldl (fun st y =>
    if st ≠ 0 then st else piCheck md (nsPiType s ns) (bits x.sqe.cdw12 12 3) { x with sqe := e } (p.srcAt + y.2) y.1.1 y.1.2) 0

/-- Blocks as they are written: protection information made where PRINFOW asks for it, else checked (CDW12 [29:26]). -/
def copyWriteBlocks (s : State) (ns : Nat) (x : Ctx) (p : CopyPiece) (l : List (List Byte × List Byte)) :
    Nat × List (List Byte × List Byte) :=
  let md := mdBytes (nsFmt s ns)
  let ty := nsPiType s ns
  let z := l.zip (List.range l.length)
  if md = 0 ∨ ty = 0 then (0, l)
  else if prAct x then (0, z.map fun y => (y.1.1, piMake md ty x (p.at_ + y.2) y.1.1))
  else (z.foldl (fun st y => if st ≠ 0 then st else piCheck md ty (prChk x) x (p.at_ + y.2) y.1.1 y.1.2) 0, l)

/-- The sectors of a piece's destination from its blocks, over the merged data of partly covered ones. -/
def copySectors (s : State) (ns : Nat) (p : CopyPiece) (l : List (List Byte × List Byte)) (base : List (Nat × List Byte)) :
    List (Nat × List Byte) :=
  let fmt := nsFmt s ns
  let (a, n) := rangeSecs s ns p.dst p.n
  (List.range n).map fun k =>
    let sec := a + k
    let b := match base.find? fun y => y.1 = sec with | some y => y.2 | none => []
    (sec, sectorOf fmt ((List.range (lbaPer fmt)).map fun j =>
      let i := sec * lbaPer fmt + j
      if p.dst ≤ i ∧ i < p.dst + p.n then l.getD (i - p.dst) ([], []) else blockOf fmt b j))

/-- The first sectors of a piece's source asked for, once: an entry in `raw` says that they have been. -/
def askSource (s : State) (c ns : Nat) (x : Ctx) (p : CopyPiece) : State :=
  if (tget x.raw p.at_).isSome then s
  else
    let (a, n) := rangeSecs s ns p.src p.n
    let s := setCtx s c { x with raw := tput x.raw p.at_ [], left := x.left + n }
    (List.range n).foldl (fun s k => serveSector s c (a + k) false) s

/-- A piece of Copy: its source is read, the partly covered sectors of its destination are merged, the blocks are checked
and staged. The first range that fails is kept in DW0. -/
def copyPiece (c ns : Nat) (s : State) (p : CopyPiece) : State × PieceStep :=
  match ctxOf s c with
  | none => (s, .wait)
  | some x =>
    let parts := partsOf s ns p.dst p.n
    let s := if x.staged then s else askMerges (askSource s c ns x p) c x parts
    match ctxOf s c with
    | none => (s, .wait)
    | some y =>
      let s := updCtx s c fun z => { z with dw0 := p.range }
      if y.staged then (s, .done)
      else if y.left ≠ 0 then (s, .wait)
      else
        match mergesOf s y parts with
        | .error e => (s, e)
        | .ok base =>
          let l := copyBlocks s ns y p
          let st := copyReadCheck s ns y p l
          let (sw, l) := copyWriteBlocks s ns y p l
          if st ≠ 0 then (s, .err st)
          else if sw ≠ 0 then (s, .err sw)
          else
            let (s, ok) := putSectors s c ns ((writeHandle s y).getD 0) (copySectors s ns p l base)
            (s, if ok then .done else .wait)

end Sys2Proof.Machine
end

