-- ==== Sys2Proof/Machine/NsOps.lean ====
section
/-! DEFINITION. Namespace Management and Attachment (R133, R179, R244, R278). -/

namespace Sys2Proof.Machine

/-! Create. -/

/-- Whether a format and protection settings go together (R370, Table 10.2): Types 1 to 3 in the last bytes of metadata,
none for a format without protection information. -/
def dpsOk (fmt dps : Nat) : Bool := decide (dps ≤ 3) && (dps = 0 || mdBytes fmt ≠ 0)

/-- Bytes of a logical block of a format, and the runs that a number of them takes. -/
def fmtLba (fmt : Nat) : Nat := if fmt < 3 then 512 else 4096
def runsOf (nsze fmt : Nat) : Nat := ceilDiv (nsze * fmtLba fmt) 2097152

/-- Whether a range of runs is free, and the lowest free one of `n` runs: at 0 or behind a namespace. -/
def runsFree (s : State) (a n : Nat) : Bool :=
  a + n ≤ s.get MAP_RUN_LIMIT_RUN_COUNT && !nsOverlaps s 4096 a n
    && s.nvm.ns.all fun x => decide (a + n ≤ nsBase s x.1) || decide (nsBase s x.1 + nsRuns s x.1 ≤ a)
def freeBase (s : State) (n : Nat) : Option Nat :=
  (0 :: s.nvm.ns.map fun x => nsBase s x.1 + nsRuns s x.1).foldl (fun r a =>
    if runsFree s a n then some (match r with | some b => min a b | none => a) else r) none


/-- The status of a Create that is not admitted, 0 when it is; `base` is where its runs would lie. -/
def createNsStatus (s : State) (d : NsCreate) (n base : Option Nat) : Nat :=
  let fmt := d.flbas % 16
  if d.ncap ≠ d.nsze ∨ 5 < fmt ∨ 32 ≤ d.flbas ∨ !dpsOk fmt d.dps ∨ 2 ≤ d.nmic
      ∨ (s.sys.image.fdp ∧ (128 < d.handles.length ∨ d.handles.any (fun h => s.sys.image.fdpHandles ≤ h) = true)) then stInvalidField
  else if n.isNone then stNsUnavailable
  else if s.sys.image.tnvmcap < nsCapacity s + d.nsze * fmtLba fmt ∨ base.isNone then stNsCapacity
  else 0

/-- A namespace's entry written with its NS_SET record in the same operation (R44, R61). -/
def putNs (s : State) (n base count slot fmt : Nat) (valid : Bool) : State :=
  let k4 := b2n (3 ≤ fmt)
  let s := nsWrite s n (base + count * 2 ^ 32 + slot * 2 ^ 64 + k4 * 2 ^ 76 + b2n valid * 2 ^ 77)
  appendFw s ⟨0x0E, 0, n + slot * 2 ^ 12 + k4 * 2 ^ 24 + fmt * 2 ^ 25, base + count * 2 ^ 29 + b2n valid * 2 ^ 63⟩

/-- A namespace made: its runs, its key slot with a new key, its entry in the table (R244). None without entropy. -/
def makeNs (s : State) (n base : Nat) (d : NsCreate) : Option State :=
  let fmt := d.flbas % 16
  match genKey s n with
  | none => none
  | some s =>
    let s := saveKey s n
    let s := putNs s n base (runsOf d.nsze fmt) n fmt true
    let i : NsInfo := ⟨d.nsze, fmt, bits d.flbas 4 1 = 1, d.dps, d.nmic, [], if s.sys.image.fdp then d.handles else [], s.nvm.everNs + 1⟩
    some (recountSpare { s with nvm := { s.nvm with ns := tput s.nvm.ns n i, everNs := s.nvm.everNs + 1 } })

/-- Namespace Management, Create: DW0 is the new NSID. It waits while the journal takes no record (R45). -/
def createNs (s : State) (c : Nat) (d : NsCreate) : State :=
  let n := tfree s.nvm.ns 0 4096
  let base := freeBase s (runsOf d.nsze (d.flbas % 16))
  let st := createNsStatus s d n base
  if st ≠ 0 then fwPost s c st 0 0
  else if !(s.on MAP_CTRL_ENABLE && ringFits s 1) then s
  else
    match makeNs s (n.getD 0) (base.getD 0) d with
    | none => fwPost s c stInternal 0 0
    | some s => fwPost s c 0 (n.getD 0 + 1) 0

/-! Clearing a namespace. -/

/-- A run cleared with RUN_CLEAR, its staged sectors superseded. -/
def wipeRun (s : State) (run : Nat) : State :=
  let old := stagedIn s run 0 512
  let s := if old = [] then s else superseded (removeEntries s (stgPool s) run fun _ => true) old
  clearRun s run

/-- Runs cleared in order while the journal ring has room; `dw0` of the command counts them. -/
def wipeRuns (s : State) (c : Nat) (l : List Nat) : State × Bool :=
  match l with
  | [] => (s, true)
  | r :: rest =>
    if mayUpdate s 2 then wipeRuns (updCtx (wipeRun s r) c fun x => { x with dw0 := x.dw0 + 1 }) c rest
    else (s, false)

/-- The runs of a namespace. -/
def nsRunList (s : State) (n : Nat) : List Nat := (List.range (nsRuns s n)).map fun k => nsBase s n + k

/-- Every run of a namespace cleared (from where the command stands), with its Burrow segments invalidated (R179). -/
def clearNs (s : State) (c n : Nat) : State × Bool :=
  match ctxOf s c with
  | none => (s, false)
  | some x =>
    let s := if x.dw0 = 0 then invalRuns s (nsBase s n) (nsRuns s n) else s
    let (s, ok) := wipeRuns s c ((nsRunList s n).drop x.dw0)
    (if ok then updCtx s c fun y => { y with dw0 := 0 } else s, ok)

/-! Changes of attachment. -/

/-- A namespace's change put on a controller's Changed Namespace List, with the notice (R244). -/
def noteNs (s : State) (n f : Nat) : State :=
  let e := (f, n + 1)
  let s := if s.nvm.changed.contains e then s
    else { s with nvm := { s.nvm with changed :=
      (s.nvm.changed.takeWhile fun y => y.1 ≠ f || y.2 < n + 1) ++ e :: s.nvm.changed.dropWhile fun y => y.1 ≠ f || y.2 < n + 1 } }
  noticeEvent s f 0 4

/-- A namespace gone: entry, key and record (R244); the controllers that it was attached to learn it. -/
def removeNs (s : State) (n : Nat) : State :=
  match nsInfo s n with
  | none => s
  | some i =>
    let s := dropKey (eraseSlot s (nsSlot s n)) (nsSlot s n)
    let s := putNs s n 0 0 0 0 false
    let s := recountSpare { s with nvm := { s.nvm with ns := tdel s.nvm.ns n } }
    i.attached.foldl (fun s f => noteNs s n f) s

/-- Namespace Management, Delete, of one namespace under its whole-namespace lock. -/
def deletePiece (c : Nat) (s : State) (n : Nat) : State × PieceStep :=
  let (s, ok) := clearNs s c n
  if ok && ringFits s 1 then (removeNs s n, .done) else (s, .wait)

/-- Namespace Management, Delete (R226, R244). -/
def deleteNs (s : State) (c : Nat) (x : Ctx) : State :=
  let l := if x.sqe.nsid = 0xFFFFFFFF then s.nvm.ns.map Prod.fst
    else if x.sqe.nsid ≠ 0 ∧ (nsInfo s (x.sqe.nsid - 1)).isSome then [x.sqe.nsid - 1] else []
  if l = [] ∧ x.sqe.nsid ≠ 0xFFFFFFFF ∧ x.dw1 = 0 then fwPost s c stInvalidNs 0 0
  else
    let fin (s : State) : State := fwPost s c 0 0 0
    pieceLoop (deletePiece c) .now fin s c (l.map fun n => (some (wholeRec n), none, n))

/-! Attachment. -/

def setNsInfo (s : State) (n : Nat) (i : NsInfo) : State := { s with nvm := { s.nvm with ns := tput s.nvm.ns n i } }

/-- The functions of a controller list; none when the list is not admitted. -/
def ctrlFns (s : State) (l : List Nat) : Option (List Nat) :=
  if l = [] ∨ l.any (fun k => !(allCtrls s).contains k) = true then none else some (uniq (l.map fun k => k - 1))

/-- Namespace Attachment: `add` attaches, else detaches (R244). -/
def attachNs (s : State) (c : Nat) (x : Ctx) (l : List Nat) (add : Bool) : State :=
  let n := x.sqe.nsid - 1
  match if x.sqe.nsid = 0 then none else nsInfo s n, ctrlFns s l with
  | none, _ => fwPost s c stInvalidNs 0 0
  | some _, none => fwPost s c stCtrlList 0 0
  | some i, some fs =>
    if add then
      if fs.any i.attached.contains then fwPost s c stNsAttached 0 0
      else if i.nmic = 0 ∧ 1 < (i.attached ++ fs).length then fwPost s c stNsPrivate 0 0
      else fwPost (fs.foldl (fun s f => noteNs s n f) (setNsInfo s n { i with attached := i.attached ++ fs })) c 0 0 0
    else if fs.any fun f => !i.attached.contains f then fwPost s c stNsNotAttached 0 0
    else fwPost (fs.foldl (fun s f => noteNs s n f) (setNsInfo s n { i with attached := i.attached.filter fun f => !fs.contains f })) c 0 0 0

end Sys2Proof.Machine
end

