-- ==== Sys2Proof/Machine/AdmCmd.lean ====
section
/-! DEFINITION. The admin commands on queues, identification, logs, features, events and namespaces (R215, R216, R242 to
R250, R381, R385, R386). -/

namespace Sys2Proof.Machine

def execCreateIoCompletionQueue (ctx : Nat) (s : State) : Host.Outcome State Fault Refusal := act .admin s fun s =>
  fwRun s ctx false 0x05 fun s x => createCq s ctx x
def execCreateIoSubmissionQueue (ctx : Nat) (s : State) : Host.Outcome State Fault Refusal := act .admin s fun s =>
  fwRun s ctx false 0x01 fun s x => createSq s ctx x
def execDeleteIoCompletionQueue (ctx : Nat) (s : State) : Host.Outcome State Fault Refusal := act .admin s fun s =>
  fwRun s ctx false 0x04 fun s x => deleteCq s ctx x
def execDeleteIoSubmissionQueue (ctx : Nat) (s : State) : Host.Outcome State Fault Refusal := act .abort s fun s =>
  fwRun s ctx false 0x00 fun s x => deleteSq s ctx x

def execIdentify (ctx : Nat) (s : State) : Host.Outcome State Fault Refusal := act .admin s fun s =>
  fwRun s ctx false 0x06 fun s x => identify s ctx x
def execGetLogPage (ctx : Nat) (s : State) : Host.Outcome State Fault Refusal := act .admin s fun s =>
  fwRun s ctx false 0x02 fun s x => getLogPage s ctx x

def execSetFeatures (ctx : Nat) (data : List Byte) (s : State) : Host.Outcome State Fault Refusal := act .admin s fun s =>
  setRun s ctx (fun fid => !ownRow fid) fun s x => setFeature s ctx x data
def execSetFeaturesNumberOfQueues (ctx : Nat) (s : State) : Host.Outcome State Fault Refusal := act .admin s fun s =>
  setRun s ctx (· = 0x07) fun s x => setQueues s ctx x
def execSetFeaturesPowerManagement (ctx : Nat) (s : State) : Host.Outcome State Fault Refusal := act .powerFeature s fun s =>
  setRun s ctx (· = 0x02) fun s x => setPower s ctx x
def execSetFeaturesVolatileWriteCache (ctx : Nat) (s : State) : Host.Outcome State Fault Refusal := act .admin s fun s =>
  setRun s ctx (· = 0x06) fun s x => setWce s ctx x
def execSetFeaturesTemperatureThreshold (ctx : Nat) (s : State) : Host.Outcome State Fault Refusal := actHealth .tempFeature s fun s =>
  setRun s ctx (· = 0x04) fun s x => setThreshold s ctx x
def execSetFeaturesHctm (ctx : Nat) (s : State) : Host.Outcome State Fault Refusal := act .powerFeature s fun s =>
  setRun s ctx (· = 0x10) fun s x => setHctm s ctx x
def execGetFeatures (ctx : Nat) (s : State) : Host.Outcome State Fault Refusal := act .admin s fun s =>
  fwRun s ctx false 0x0A fun s x => getFeatures s ctx x

def execAsynchronousEventRequest (ctx : Nat) (s : State) : Host.Outcome State Fault Refusal := act .admin s fun s =>
  fwRun s ctx false 0x0C fun s x => eventRequest s ctx x
def execAsyncEventPost (f : Nat) (s : State) : Host.Outcome State Fault Refusal := act .admin s fun s => postEvent s f

/-- Namespace Management: SEL 0 creates, 1 deletes; another value is refused by the first. -/
def execNamespaceCreate (ctx : Nat) (d : NsCreate) (s : State) : Host.Outcome State Fault Refusal := act .namespaces s fun s =>
  fwRun s ctx false 0x0D fun s x =>
    let sel := bits x.sqe.cdw10 0 4
    if sel = 1 then s
    else if sel ≠ 0 ∨ bits x.sqe.cdw11 24 8 ≠ 0 then fwPost s ctx stInvalidField 0 0
    else createNs s ctx d
def execNamespaceDelete (ctx : Nat) (s : State) : Host.Outcome State Fault Refusal := act .namespaces s fun s =>
  fwRun s ctx false 0x0D fun s x => if bits x.sqe.cdw10 0 4 ≠ 1 then s else deleteNs s ctx x

/-- Namespace Attachment: SEL 0 attaches, 1 detaches; another value is refused by the first. -/
def execNamespaceAttach (ctx : Nat) (ctrls : List Nat) (s : State) : Host.Outcome State Fault Refusal := act .admin s fun s =>
  fwRun s ctx false 0x15 fun s x =>
    let sel := bits x.sqe.cdw10 0 4
    if sel = 1 then s else if sel ≠ 0 then fwPost s ctx stInvalidField 0 0 else attachNs s ctx x ctrls true
def execNamespaceDetach (ctx : Nat) (ctrls : List Nat) (s : State) : Host.Outcome State Fault Refusal := act .admin s fun s =>
  fwRun s ctx false 0x15 fun s x => if bits x.sqe.cdw10 0 4 ≠ 1 then s else attachNs s ctx x ctrls false

end Sys2Proof.Machine
end

