-- ==== Sys2Proof/Machine/MediaOps.lean ====
section
/-! DEFINITION. What device firmware does with the media when an operation has ended: the counts of a block, the grown
bad-block table, failed rows, lost sectors (R89, R145 to R148, R150, R152). -/

namespace Sys2Proof.Machine

/-- A stripe header written by device firmware, with its record. -/
def fwStripe (s : State) (stripe h : Nat) : State := journal (putStripeHdr s stripe h) [recStripeHdr stripe h]

/-! Counts (R148). -/

/-- Whether a block was last programmed in pSLC mode: the mode of the stripe whose member it is or was. -/
def lastSlc (s : State) (die block : Nat) : Bool :=
  let e := readLeD s (ownerAddr s die block) 4
  bits e 20 1 = 1 && slcHdr (stripeHdr s (bits e 0 20))

/-- A block's program/erase count advanced in its last mode. -/
def wearAdd (s : State) (key n : Nat) : State :=
  let (d, p) := peOf s (key / 16384) (key % 16384)
  { s with media := { s.media with pe := tput s.media.pe key (if lastSlc s (key / 16384) (key % 16384) then (d, p + n) else (d + n, p)) } }

/-! The grown bad-block table (R152). -/

/-- A block recorded as grown bad with its record 0x80; a block that the table holds is not added again. While the ring has no
room it waits (R45). -/
def growBad (s : State) (die plane block reason : Nat) : State :=
  if 262144 ≤ s.media.grown.length ∨ (s.media.grown.any fun g => g.die = die && g.plane = plane && g.block = block) = true then s
  else if !mayJournal s 1 then
    if s.media.growWait.contains (die, plane, block, reason) then s
    else { s with media := { s.media with growWait := s.media.growWait ++ [(die, plane, block, reason)] } }
  else
    let (d, p) := peOf s die block
    let s := journal s [⟨0x80, 0, die, mkMedia die plane block 0 0 + reason * 2 ^ 48⟩]
    { s with media := { s.media with grown := s.media.grown ++ [⟨die, plane, block, reason, d, p, pohHours s, jnlLast s⟩] } }

/-- A block whose program or erase failed recorded with each plane whose status reads FAIL: device firmware reads it with a read status
descriptor for each plane (Table 3.7, R152). -/
def growFailed (s : State) (die block reason : Nat) : State :=
  (tgetD s.media.failPlanes (die * 16384 + block) [0]).foldl (fun s p => growBad s die p block reason) s

/-- The blocks that wait for their records tried again. -/
def growRetry (s : State) : State :=
  s.media.growWait.foldl (fun s x => growBad s x.1 x.2.1 x.2.2.1 x.2.2.2) { s with media := { s.media with growWait := [] } }

/-! Erases. -/

/-- An erase of a block submitted: ERASE_START, then the operation (R89, R144). -/
def eraseBlock (s : State) (key : Nat) : State :=
  let die := key / 16384
  let m := mkMedia die 0 (key % 16384) 0 0
  let s := appendFw s ⟨0x07, 0, die, m⟩
  qPush s die ⟨.firmware key, .erase, 5, 5, lastSlc s die (key % 16384), m, 1, false, 0, 0, 0, false, [], none, 0, none⟩

/-- An erase that is waited for no longer. -/
def eraseLeft (s : State) (key : Nat) : State :=
  let colls := s.media.colls.map fun x => (x.1, { x.2 with left := x.2.left.filter (· ≠ key) })
  let san := s.fw.san.map fun r => { r with left := r.left.filter (· ≠ key) }
  let rq := s.media.requal.map fun r => { r with left := r.left.filter (· ≠ key) }
  { s with media := { s.media with colls := colls, requal := rq }, fw := { s.fw with san := san } }

/-- An erase of a requalification that did not pass. -/
def requalMiss (s : State) (key : Nat) : State :=
  let rq := s.media.requal.map fun r => if r.left.contains key then { r with failed := true } else r
  { s with media := { s.media with requal := rq } }

/-- Whether an erase is waited for. -/
def eraseWanted (s : State) (key : Nat) : Bool :=
  (s.media.colls.any fun x => x.2.left.contains key) || (match s.fw.san with | some r => r.left.contains key | none => false)
    || (match s.media.requal with | some r => r.left.contains key | none => false)

/-- An erase that ended: ERASE_END and its count on a pass; grown bad on FAIL; an abandoned one advances the count by two
and is erased again where its die serves (R55, R89, R147, R148). False while the journal has no room. -/
def eraseEnded (s : State) (e : Nat × Nat) : State × Bool :=
  let die := e.1 / 16384
  let block := e.1 % 16384
  if !mayJournal s 1 then (s, false)
  else if e.2 = 0 then (eraseLeft (wearAdd (appendFw s ⟨0x08, 0, die, mkMedia die 0 block 0 0⟩) e.1 1) e.1, true)
  else if e.2 = 1 then (eraseLeft (requalMiss (growFailed s die block 2) e.1) e.1, true)
  else if e.2 = 2 then
    let s := wearAdd s e.1 2
    (if (dieState s die = 1 ∨ dieState s die = 4) ∧ eraseWanted s e.1 = true ∧ !s.fch.flushing then eraseBlock s e.1
      else eraseLeft (requalMiss s e.1) e.1, true)
  else (eraseLeft (requalMiss s e.1) e.1, true)

/-! Lost sectors (R150). -/

/-- A row put on the list of rows to refresh (R149, R150). -/
def addRefresh (s : State) (x : Nat × Nat) : State :=
  if s.media.refresh.contains x then s else { s with media := { s.media with refresh := s.media.refresh ++ [x] } }

/-- A sector marked lost while the map still names its media location; its record. -/
def markLost (s : State) (run q loc : Nat) : State :=
  match translate s run q true with
  | .media a _ _ =>
    if a ≠ loc then s
    else
      let e := mkSpanEntry 3 q 1
      (match setException s run e with
        | .ok t => journal t [recExcSet run e]
        | .error (_, t) => t)
  | _ => s

/-- An uncorrectable sector of a host read handled: lost, its row refreshed, its block grown bad when a second row of it
has failed. -/
def lostSector (s : State) (x : LostSec) : State × Bool :=
  if !mayUpdate s 2 then (s, false)
  else
    let die := mediaDie x.loc
    let block := mediaBlock x.loc
    let s := markLost s x.run x.q x.loc
    let s := match x.home with | some h => addRefresh s h | none => s
    (if s.media.badRows.any (fun y => decide (y.1 = peKey die block) && decide (y.2 ≠ mediaPage x.loc)) then
      growBad s die (mediaPlane x.loc) block 3 else s, true)

/-! Failed rows (R145, R146). -/

/-- A member whose program failed put on the list of those that are rebuilt onto a new block (R145). -/
def addFix (s : State) (stripe pos : Nat) : State :=
  if s.media.fixes.any fun x => x.stripe = stripe && x.pos = pos then s
  else { s with media := { s.media with fixes := s.media.fixes ++ [⟨stripe, pos, none⟩] } }

/-- Staged sectors of rows that are dropped, free to be placed again. -/
def unplaceItems (s : State) (l : List StagedItem) : State :=
  let stg := l.foldl (fun t x =>
    match tget t x.idx with
    | some y => tput t x.idx { y with inRow := false }
    | none => t) s.hbm.stg
  { s with hbm := { s.hbm with stg := stg } }

/-- A failed row handled once its stripe programs no row and holds none below it: the member grown bad after a FAIL, rows
above placed again, the stripe closed at its ROWS. -/
def rowFailure (s : State) (r : RowFail) : State × Bool :=
  if (s.cdc.accs.any fun a => a.stripe = r.stripe) ∨ (s.map.heldRows.any fun h => h.stripe = r.stripe && h.row < r.row)
      ∨ !mayUpdate s 2 then (s, false)
  else
    let w := memberWord s r.stripe r.pos
    let s := if r.prog then addFix (growFailed s (memberDie w) (memberBlock w) 1) r.stripe r.pos else s
    let s := (s.map.heldRows.filter fun h => h.stripe = r.stripe).foldl (fun s h => unplaceItems s h.items) s
    let s := { s with map := { s.map with heldRows := s.map.heldRows.filter fun h => h.stripe ≠ r.stripe } }
    let h := stripeHdr s r.stripe
    (if stripeState h = 1 then fwStripe s r.stripe (setBits h 0 2 2) else s, true)

/-! All of it, in order. -/

/-- The items of a list handled in order; those that have to wait stay. -/
def drainList {α : Type} (f : State → α → State × Bool) (s : State) (l : List α) : State × List α :=
  l.foldl (fun x a =>
    let (t, ok) := f x.1 a
    (t, if ok then x.2 else x.2 ++ [a])) (s, [])

/-- The DIE_EPOCH records that wait for room tried again (R45, R76). -/
def epochRetry (s : State) : State :=
  s.media.epochWait.foldl dieEpochRec { s with media := { s.media with epochWait := [] } }

/-- Device firmware handles what has ended on the media. -/
def drainMedia (s : State) : State :=
  let s := growRetry (epochRetry s)
  let (s, l) := drainList eraseEnded { s with media := { s.media with ends := [] } } s.media.ends
  let s := { s with media := { s.media with ends := l ++ s.media.ends } }
  let (s, l) := drainList rowFailure { s with media := { s.media with rowFails := [] } } s.media.rowFails
  let s := { s with media := { s.media with rowFails := l ++ s.media.rowFails } }
  let (s, l) := drainList lostSector { s with media := { s.media with lost := [] } } s.media.lost
  { s with media := { s.media with lost := l ++ s.media.lost } }

/-- A command after which device firmware handles the media. -/
def actMedia (r : Reach) (s : State) (f : State → State) : Host.Outcome State Fault Refusal := act r s fun s => drainMedia (f s)

end Sys2Proof.Machine
end

