-- ==== Sys2Proof/Machine/StripeOps.lean ====
section
/-! DEFINITION. Stripes as device firmware handles them: their blocks, how a stripe is formed and opened, which one takes a copied
row, and where a row of staged data goes (R132 to R134, R140, R142, R143, R147, R148, R151). -/

namespace Sys2Proof.Machine

/-! What a stripe takes. -/

/-- Rows of a stripe of a model: its PAGES, a third or a quarter of them in pSLC mode (R132, R140). -/
def rowsOf (s : State) (m : Nat) (slc : Bool) : Nat :=
  let p := s.get FCH_MODELm_GEOM_PAGES m
  if slc then p / (if s.get FCH_MODELm_GEOM_CELL m = 2 then 4 else 3) else p
def rowCap (s : State) (stripe : Nat) : Nat :=
  rowsOf s (dieModel s (memberDie (memberWord s stripe 0))) (slcHdr (stripeHdr s stripe))

/-- Whether a stripe has a row in an accumulator, a row that waits to be retired, a row of a copy slot, or a failed row for which it
has not been closed. -/
def stripeBusy (s : State) (stripe : Nat) : Bool :=
  (s.cdc.accs.any fun a => a.stripe = stripe) || (s.map.heldRows.any fun h => h.stripe = stripe)
    || (s.cdc.copies.any fun x => x.2.kind ≠ 2 && x.2.stripe = stripe)
    || ((tget s.map.failedRow stripe).isSome && decide (stripeState (stripeHdr s stripe) = 1))

/-- Whether the dies of a stripe's members may be programmed: their marks have been read (R151). -/
def stripeScanned (s : State) (stripe : Nat) : Bool := (List.range 34).all fun p => dieScanned s (memberDie (memberWord s stripe p))

/-- The first stripe that a test picks. -/
def findStripe (s : State) (p : Nat → Bool) : Option Nat := (List.range (s.get MAP_STRIPE_COUNT_COUNT)).find? p

/-- Open stripes; at most 128 may be open (R57). -/
def openStripes (s : State) : Nat := stripesIn s fun h => stripeState h = 1

/-! Forming a stripe (R24, R132, R148). -/

/-- The wear of a block number of a model, in units of 1 / (ENDUR_DENSE × ENDUR_PSLC) (R148). -/
def blockWear (s : State) (m die block : Nat) : Nat :=
  let (ed, ep) := ratings s m
  let (d, p) := peOf s die block
  d * ep + p * ed

/-- The first element of a list with the least value. -/
def leastBy {α : Type} (f : α → Nat) (l : List α) : Option α :=
  match l with
  | [] => none
  | a :: r => some (r.foldl (fun m b => if f b < f m then b else m) a)

/-- The free block numbers of a model on a channel: those that serve, and that no open or closed stripe uses. -/
def freeBlocks (s : State) (taken : List (Nat × Nat)) (m ch : Nat) : List (Nat × Nat) :=
  ((List.range 8).map fun d => ch * 8 + d).flatMap fun die =>
    if dieModel s die = m ∧ dieState s die = 1 ∧ !isSettDie s die then
      ((List.range (s.get FCH_MODELm_GEOM_BLOCKS m)).map fun b => (die, b)).filter fun x => blockWorks s x.1 x.2 && !taken.contains x
    else []

/-- The free block number of least wear of each of some channels, channel by channel, at most `n` (R148). -/
def pickMembers (s : State) (taken : List (Nat × Nat)) (m n : Nat) (chs : List Nat) : List (Nat × Nat) :=
  (chs.filterMap fun ch => leastBy (fun x => blockWear s m x.1 x.2) (freeBlocks s taken m ch)).take n

/-- The members of a new stripe: 34 channels of one model; none where there are not so many (R24, R132). The first model and the lowest
channels that serve are taken (DESIGN CHOICE, log entry 105). -/
def newMembers (s : State) : Option (Nat × List (Nat × Nat)) :=
  let taken := takenBlocks s
  (modelsUsed s).findSome? fun m =>
    let l := pickMembers s taken m 34 (List.range 256)
    if l.length = 34 then some (m, l) else none

/-- A member word (Table 2.2). -/
def memberOf (x : Nat × Nat) : Nat := x.1 + x.2 * 2 ^ 11

/-- A stripe's members written with their records (R24). -/
def putMembers (s : State) (stripe : Nat) (l : List (Nat × Nat)) : State :=
  (l.zip (List.range l.length)).foldl (fun s x =>
    journal (putMember s stripe x.2 (memberOf x.1)) [recStripeMember stripe x.2 (memberOf x.1)]) s

/-- A free stripe formed from the free blocks of least wear and opened, in pSLC mode or dense (R134, R148). -/
def openAs (s : State) (stripe : Nat) (slc : Bool) : Option State :=
  if 128 ≤ openStripes s ∨ !mayUpdate s 40 ∨ stripeState (stripeHdr s stripe) ≠ 0 then none
  else
    (newMembers s).map fun x =>
      fwStripe (putMembers s stripe x.2) stripe (1 + (if slc then 0 else s.get FCH_MODELm_GEOM_CELL x.1) * 4)

/-! Destinations of copies (R143, R144). -/

/-- The persistently isolated handle whose data a stripe holds (R142, R143). -/
def persistentOf (s : State) (stripe : Nat) : Option Nat :=
  match tget s.nvm.ruStripe stripe with
  | some v => if s.sys.image.persistent.contains (v / 2 ^ 32) then some (v / 2 ^ 32) else none
  | none => none

/-- Whether a stripe is the open reclaim unit of some handle. -/
def isUnit (s : State) (stripe : Nat) : Bool := s.nvm.handles.any fun x => x.2.stripe = stripe

/-- Whether an open stripe may take a copied row: one of the same mode and of the same persistent handle, and no reclaim unit that
takes host data. -/
def dstOk (s : State) (slc : Bool) (h : Option Nat) (stripe : Nat) : Bool :=
  stripeState (stripeHdr s stripe) = 1 && (slcHdr (stripeHdr s stripe) == slc) && decide (stripeRows (stripeHdr s stripe) < rowCap s stripe)
    && !stripeBusy s stripe && (persistentOf s stripe == h) && !isUnit s stripe && stripeScanned s stripe

/-- A free stripe opened for copies. -/
def openStripe (s : State) (slc : Bool) (h : Option Nat) : Option (Nat × State) :=
  match findStripe s fun st => stripeState (stripeHdr s st) = 0 with
  | none => none
  | some st =>
    (openAs s st slc).map fun s =>
      (st, match h with | some k => { s with nvm := { s.nvm with ruStripe := tput s.nvm.ruStripe st (k * 2 ^ 32) } } | none => s)

/-- The destination of a copy: `first` where it serves, else the lowest open stripe that does, else a free stripe. -/
def pickDst (s : State) (slc : Bool) (h : Option Nat) (first : Nat) : Option (Nat × State) :=
  if first < s.get MAP_STRIPE_COUNT_COUNT ∧ dstOk s slc h first = true then some (first, s)
  else
    match findStripe s (dstOk s slc h) with
    | some st => some (st, s)
    | none => openStripe s slc h

/-! Placement of staged data (R134, R140, R142, R143). -/

/-- Where a row of staged data goes: a handle's reclaim unit, a dense stripe, or the pSLC region. -/
inductive RowPlace where
  | handle (h : Nat)
  | dense
  | pslc
  deriving DecidableEq, Repr

/-- Whether a staged sector's write had a placement identifier (R142, R252). -/
def placed (s : State) (x : StgSec) : Bool :=
  s.sys.image.fdp && (match nsInfo s x.ns with | some i => i.handles ≠ [] | none => false)

/-- The row that a staged sector goes with: its run where the run is staged whole, else up to 512 sectors of the same placement, oldest
first; and where it goes. The power-fail flush programs into pSLC alone (R391). -/
def rowGroup (s : State) (l : List (Nat × StgSec)) (o : StgSec) : RowPlace × List (Nat × StgSec) :=
  let same (x : Nat × StgSec) : Bool :=
    placed s x.2 == placed s o && (if placed s o then decide (x.2.handle = o.handle) else x.2.stream == o.stream)
  let run := l.filter fun x => decide (x.2.run = o.run) && same x
  let whole := (List.range 512).filterMap fun q => run.find? fun x => x.2.q = q
  let isRun := decide (whole.length = 512)
  (if s.fch.flushing then .pslc else if placed s o then .handle o.handle else if isRun && o.stream then .dense else .pslc,
    if isRun then whole else (l.filter same).take 512)

/-- Whether the staging area is drained: in the power-fail flush, in read-only mode, in PS4 and at a shutdown (R52, R134, R383). -/
def drains (s : State) : Bool :=
  s.fch.flushing || s.media.readOnly || s.get PWR_STATE_PS = 4 || (List.range 256).any fun f => s.get NVME_CSTS_SHST f = 1

/-- Whether sectors are awaited: some command, a Flush or an FUA write, waits for them to be durable, or the area is drained (R143). -/
def awaited (s : State) (l : List (Nat × StgSec)) : Bool :=
  drains s || l.any fun x => s.cmd.ctxs.any fun y => y.2.waitDur && y.2.durLeft.contains x.1

/-- Whether a row of staged data is programmed now: for a handle, once 2 MiB of it is staged, or earlier where it is awaited (R143). -/
def rowDue (s : State) (p : RowPlace) (l : List (Nat × StgSec)) : Bool :=
  match p with
  | .handle _ => decide (512 ≤ l.length) || awaited s l
  | _ => true

/-- Whether the pSLC region has no free stripe for a row (R140); the power-fail flush takes stripes beyond it (R391). -/
def regionFull (s : State) : Bool := !s.fch.flushing && decide (regionStripes s ≤ stripesIn s fun h => usedHdr h && slcHdr h)

/-- Whether an open stripe is one for a row: never one that was taken from the reserve, but for a drain (R134). -/
def placeFits (s : State) (p : RowPlace) (stripe : Nat) : Bool :=
  let slc := slcHdr (stripeHdr s stripe)
  (drains s || !s.media.fromReserve.contains stripe) && stripeScanned s stripe
    && (match p with
      | .handle h => (match unitOf s h with | some u => u.stripe = stripe | none => false)
      | .dense => !slc && !isUnit s stripe && persistentOf s stripe == none
      | .pslc => if slc then true else regionFull s && !isUnit s stripe && persistentOf s stripe == none)

/-- The next row of staged data that is programmed now and that a test of its place takes, oldest first. -/
def nextRow (s : State) (p : RowPlace → Bool) : Option (RowPlace × List (Nat × StgSec)) :=
  let l := unprogrammed s
  l.findSome? fun x =>
    let g := rowGroup s l x.2
    if rowDue s g.1 g.2 && p g.1 then some g else none

/-- Whether some open stripe takes a row for a place. -/
def placeOpen (s : State) (p : RowPlace) : Bool :=
  (findStripe s fun st =>
    stripeState (stripeHdr s st) = 1 && placeFits s p st && !s.media.toClose.contains st
      && decide (stripeRows (stripeHdr s st) < rowCap s st)).isSome

/-- A free stripe opened for the next row that no open stripe takes: from outside the reserve, but for a drain (R134, R140, R142). -/
def openHost (s : State) (stripe : Nat) : State :=
  if s.get MAP_STRIPE_COUNT_COUNT ≤ stripe ∨ stripeState (stripeHdr s stripe) ≠ 0 ∨ (reserveStops s && !drains s) then s
  else
    match nextRow s fun p => !placeOpen s p with
    | none => s
    | some (p, _) =>
      let slc := decide (p = .pslc) && !regionFull s
      match openAs s stripe slc with
      | none => s
      | some t => (match p with | .handle h => ruOpen t h stripe | _ => t)

/-- The row that a stripe takes next. -/
def rowFor (s : State) (stripe row : Nat) : Option (RowPlace × List (Nat × StgSec)) :=
  if row < rowCap s stripe ∧ !s.media.toClose.contains stripe then nextRow s fun p => placeFits s p stripe else none

/-- A row of host data that entered an accumulator counted: it clears Global Data Erased (R377) and is laid into its reclaim unit
(R142); the last row of a stripe lets it close. -/
def countHost (s : State) (stripe row : Nat) (p : RowPlace) (l : List (Nat × StgSec)) : State :=
  let s := updHealth { s with fw := { s.fw with gde := false } } fun h => { h with progHost := h.progHost + rowBytes }
  let s := match p, l with | .handle h, y :: _ => ruRow s h stripe y.2.ns | _, _ => s
  if rowCap s stripe ≤ row + 1 then closeLater s stripe else s

/-- A row of staged sectors encoded and counted. -/
def encodeRow (s : State) (stripe row : Nat) (p : RowPlace) (l : List (Nat × StgSec)) : State :=
  let t := encodeSectors s stripe row l
  if s.cdc.accs.length < t.cdc.accs.length then countHost t stripe row p l else t

/-- A row of staged data encoded into a row of a stripe, which opens where it is free. -/
def encodeStaged (s : State) (stripe row : Nat) : State :=
  let s := openHost s stripe
  match rowFor s stripe row with
  | none => s
  | some (p, l) => encodeRow s stripe row p l

/-- The open reclaim unit of a handle, opened from outside the reserve where there is none (R134, R142). -/
def handleUnit (s : State) (h : Nat) : State :=
  if (unitOf s h).isSome ∨ reserveStops s then s
  else
    match findStripe s fun st => stripeState (stripeHdr s st) = 0 with
    | none => s
    | some st => (match openAs s st false with | some t => ruOpen t h st | none => s)

/-- FDP_PAD_MS after a handle's oldest staged sector, what is staged of the handle is programmed (R143). -/
def padHandle (s : State) (h : Nat) : State :=
  match (unprogrammed s).find? fun x => placed s x.2 && decide (x.2.handle = h) with
  | none => s
  | some x =>
    if s.timeUs < x.2.atUs + s.sys.image.padMs * 1000 then s
    else
      let s := handleUnit s h
      match unitOf s h with
      | none => s
      | some u =>
        (match (List.range (rowCap s u.stripe)).find? (rowOpen s u.stripe) with
          | none => s
          | some row => encodeRow s u.stripe row (.handle h) (rowGroup s (unprogrammed s) x.2).2)

/-- The stripes of host data that take no more rows closed, once their rows have ended (R142). -/
def closeFull (s : State) : State :=
  s.media.toClose.foldl (fun s st =>
    let h := stripeHdr s st
    if stripeState h ≠ 1 then { s with media := { s.media with toClose := s.media.toClose.filter (· ≠ st) } }
    else if stripeBusy s st ∨ !mayUpdate s 1 then s
    else fwStripe { s with media := { s.media with toClose := s.media.toClose.filter (· ≠ st) } } st (setBits h 0 2 2)) s

end Sys2Proof.Machine
end

