-- ==== Sys2Proof/Machine/BgOps.lean ====
section
/-! DEFINITION. The background work of device firmware: copy jobs, the collection of a stripe, migration of a key slot,
refresh (R136, R141, R144, R145, R149, R153 to R156). A turn of a task does what can be done now; the task goes on when its
row comes again. -/

namespace Sys2Proof.Machine

/-! Copy jobs. -/

/-- The copy jobs under way. -/
def fwJobs (s : State) : List CopyJob :=
  s.media.colls.filterMap (fun x => x.2.job) ++ s.media.migr.filterMap (fun x => x.2.job) ++ s.media.refreshJob.toList

/-- A copy slot for a job: the lowest that neither runs nor belongs to a job (log entry 12). -/
def jobSlot (s : State) : Option Nat :=
  (List.range 32).find? fun n => !s.on CDC_CPn_CTL_GO n && !((fwJobs s).any fun j => j.slot = n)

/-- Where the source list of a slot lies: the last 256 KiB of HBM, 8 KiB a slot (log entry 32). -/
def jobList (n : Nat) : Nat := hbmEnd - 262144 + n * 8192

/-- A source entry (Table 6.1). -/
def jobEntry (walker : Bool) (x : CollItem) : List Byte :=
  natLe (if walker then x.run else x.loc) 6 ++ natLe (x.q + x.kg * 2 ^ 9 + b2n walker * 2 ^ 10) 2 ++ natLe x.run 4 ++ natLe x.ns 2 ++ [0, 0]

/-- A copy started in a slot; `run` names the run and the watch of a re-run, whose sources are the walker's. -/
def startJob (s : State) (n dst kg : Nat) (recrypt : Bool) (run : Option (Nat × Nat)) (items : List CollItem) : CopyJob × State :=
  let row := stripeRows (stripeHdr s dst)
  let s := writeBytes s (jobList n) (items.flatMap (jobEntry run.isSome))
  let s := (s.set CDC_CPn_CTL_RECRYPT (b2n recrypt) n).set CDC_CPn_CTL_DST_KEYGEN kg n
  let s := (s.set CDC_CPn_LIST_ADDR (jobList n / 64) n).set CDC_CPn_COUNT_COUNT items.length n
  let s := (s.set CDC_CPn_DST_STRIPE dst n).set CDC_CPn_DST_ROW row n
  let s := s.set CDC_CP_DONE_DONE (setBits (s.get CDC_CP_DONE_DONE) n 1 0)
  (⟨n, dst, row, kg, run, items⟩, copyGo s n (if run.isSome then 1 else 0) [])

/-- STATUS of an entry of a job that has ended. -/
def jobStatus (s : State) (j : CopyJob) (k : Nat) : Nat := readLeD s (jobList j.slot + 16 * k + 14) 1

/-- Media address of position `k` of a job's row (R25). -/
def jobMedia (s : State) (j : CopyJob) (k : Nat) : Nat := memberMedia s j.dst j.row (posOf j.row (k / 16)) (k / 4 % 4) (k % 4)

/-- EXC_CAS by device firmware (R36). -/
def fwExcCas (s : State) (x : CollItem) (new : Nat) : State :=
  match findEntry s (excPool s) x.run x.q with
  | some (_, _, e) =>
    if eKind e ≠ 0 ∨ eLoc e ≠ x.loc then s
    else
      (match setException s x.run new with
        | .ok t => journal t [recExcSet x.run new]
        | .error (_, t) => t)
  | none => s

/-- One entry of a packed copy put into the map; a source that was lost or differed is marked lost (R145, R150). -/
def commitItem (recrypt : Bool) (j : CopyJob) (s : State) (y : CollItem × Nat) : State :=
  let (x, k) := y
  if jobStatus s j k ≤ 2 then fwExcCas s x (mkMediaEntry x.q (jobMedia s j k) (if recrypt then j.kg else x.kg))
  else markLost s x.run x.q x.loc

/-- A re-run committed: false while it has to wait; lost positions are marked so. -/
def commitRun (s : State) (j : CopyJob) (run w : Nat) : State × Bool :=
  match rerunCommit s w (1 + j.dst * 4 + j.row * 2 ^ 22 + j.kg * 2 ^ 35) with
  | none => (s, false)
  | some (s, r) =>
    if r ≠ mapOk then (s, true)
    else
      ((j.items.zip (List.range j.items.length)).foldl (fun s y =>
        if jobStatus s j y.2 = 3 then markLost s run y.1.q (jobMedia s j y.2) else s) s, true)

/-- A job's stripe closed at its ROWS after a failure (R145). -/
def closeDst (s : State) (st : Nat) : State :=
  let h := stripeHdr s st
  if stripeState h = 1 then fwStripe s st (setBits h 0 2 2) else s

/-- What a job's end does: nothing yet while the map cannot be updated or the row still programs; else the map names the
verified row (R26, R144), or the failed member is grown bad and the stripe is closed (R145). -/
def finishJob (s : State) (j : CopyJob) : Option State :=
  let n := j.slot
  if s.on CDC_CPn_CTL_GO n ∨ (accOf s j.dst j.row).isSome ∨ !mayUpdate s (4 + 2 * j.items.length) then none
  else
    let r := s.get CDC_CPn_CTL_RESULT n
    let close (s : State) : State := match j.run with | some (_, w) => closeWatch s w | none => s
    if r = cpOk then
      let h := setBits (stripeHdr s j.dst) 4 14 (j.row + 1)
      let s := fwStripe s j.dst (if rowCap s j.dst ≤ j.row + 1 then setBits h 0 2 2 else h)
      match j.run with
      | some (run, w) => some (commitRun s j run w).1
      | none => some ((j.items.zip (List.range j.items.length)).foldl (commitItem (s.on CDC_CPn_CTL_RECRYPT n) j) s)
    else if r = cpProgFail then
      let pos := s.get CDC_CPn_CTL_FAIL_POS n
      let w := memberWord s j.dst pos
      some (close (closeDst (addFix (growFailed s (memberDie w) (memberBlock w) 1) j.dst pos) j.dst))
    else if r = cpFencedDst ∨ r = cpDropped then some (close (closeDst s j.dst))
    else some (close s)

/-! What a stripe holds. -/

/-- Namespace index of a run. -/
def runNs (s : State) (run : Nat) : Nat := (nsOfRun s run).getD 0

/-- The media exceptions whose data lies in a stripe, or in one row of it. -/
def excItems (s : State) (stripe : Nat) (row : Option Nat) : List CollItem :=
  (List.range (s.get MAP_RUN_LIMIT_RUN_COUNT)).flatMap fun run =>
    (runEntries s (excPool s) run).filterMap fun x =>
      let e := x.2.2
      if eKind e = 0 ∧ ((ownerOf s (eLoc e)).map Prod.fst) = some stripe ∧ (row = none ∨ row = some (mediaPage (eLoc e))) then
        some ⟨run, eSector e, eLoc e, eKeygen e, runNs s run, true⟩
      else none

/-- Whether a sector of a run is still read from its base row. -/
def baseRead (s : State) (run : Nat) : Bool :=
  let ex := runEntries s (excPool s) run
  (List.range 512).any fun q => !(ex.any fun x => eCovers x.2.2 q)

/-- The runs whose base row lies in a stripe, or is one row of it. -/
def baseRuns (s : State) (stripe : Nat) (row : Option Nat) : List Nat :=
  (List.range (s.get MAP_RUN_LIMIT_RUN_COUNT)).filter fun run =>
    let e := runEntry s run
    bits e 0 2 = 1 && bits e 2 20 = stripe && (row = none || row = some (bits e 22 13)) && baseRead s run

/-- Valid sectors of a stripe. -/
def validIn (s : State) (stripe : Nat) : Nat :=
  (excItems s stripe none).length + ((baseRuns s stripe none).map fun run =>
    let ex := runEntries s (excPool s) run
    ((List.range 512).filter fun q => !(ex.any fun x => eCovers x.2.2 q)).length).foldl (· + ·) 0

/-- Whether a key slot migrates, and the generation that a copy of a namespace's data writes. -/
def migrating (s : State) (slot : Nat) : Bool := (tget s.media.migr slot).isSome
def nsGen (s : State) (ns : Nat) : Nat := curPos s (nsSlot s ns)

/-- Walker sources of a run's 512 sectors (R136). -/
def runItems (s : State) (run : Nat) : List CollItem := (List.range 512).map fun q => ⟨run, q, 0, 0, runNs s run, false⟩

/-- A re-run of a run begun: its watch, its slot (R40). -/
def startRerun (s : State) (run n dst : Nat) : Option (CopyJob × State) :=
  (openWatch s run).map fun w => startJob w.2 n dst (nsGen w.2 (runNs w.2 run)) false (some (run, w.1)) (runItems w.2 run)

/-- The next copy of a stripe's data, or of one row's: packed copies of exceptions first, re-encrypted while their slot
migrates, then re-runs. None when nothing is left; the state alone when a slot, a stripe or a watch is wanting. -/
def nextCopy (s : State) (stripe : Nat) (row : Option Nat) (slc : Bool) (first : Nat) : Option (Option CopyJob × State) :=
  let ex := excItems s stripe row
  let runs := baseRuns s stripe row
  if ex = [] ∧ runs = [] then none
  else
    match jobSlot s, pickDst s slc (persistentOf s stripe) first with
    | some n, some (dst, t) =>
      (match ex with
        | x :: _ =>
          let m := s.media.migr.any fun y => y.1 = nsSlot s x.ns
          let kg := if m then nsGen s x.ns else 0
          let l := (ex.filter fun y => (migrating s (nsSlot s y.ns) == m) && (!m || decide (nsGen s y.ns = kg))).take 512
          let (j, t) := startJob t n dst kg m none l
          some (some j, t)
        | [] =>
          match startRerun t (runs.headD 0) n dst with
          | some (j, t) => some (some j, t)
          | none => some (none, t))
    | _, _ => some (none, s)

/-! Turns. -/

/-- Whether MAP runs and has recovered. -/
def mapRuns (s : State) : Bool := s.on MAP_CTRL_ENABLE && !s.on MAP_CTRL_REPLAY

/-- Whether background work is stopped: PS4, the flush, a map that is off or recovers (R90, R383). -/
def bgStops (s : State) : Bool := s.get PWR_STATE_PS = 4 || s.fch.flushing || !mapRuns s

/-- Whether a migration goes before every other task but a rebuild: its slot waits to change again (R154), and the migration is not
itself without a stripe for its copies. -/
def migrFirst (s : State) : Bool :=
  ((List.range 4096).any fun k => s.on CRY_SLOTs_STATE_HELD k && s.on CRY_SLOTs_STATE_OLD_VALID k)
    && (pickDst s false none (s.get MAP_STRIPE_COUNT_COUNT)).isSome

def setColl (s : State) (st : Nat) (c : Coll) : State := { s with media := { s.media with colls := tput s.media.colls st c } }

/-- Media Reallocated for the reclaim unit that a stripe is (R143). -/
def reallocated (s : State) (stripe : Nat) : State :=
  match tget s.nvm.ruStripe stripe with
  | some v => if s.sys.image.fdp then fdpEvent s 1 (v / 2 ^ 32) (v % 2 ^ 32) else s
  | none => s

/-- The records of what firmware did made durable: the open page is closed, and all pages are waited for (R47). -/
def kickDurable (s : State) : State := match s.map.page with | some p => if p.recs = [] then s else updStall (closePage s false) | none => s
def allDurable (s : State) : Bool := s.map.closed = [] && (match s.map.page with | some p => p.recs = [] | none => true)

/-- Whether something still reads a stripe by a translation that names it: an operation of its members' blocks, a reconstruction, a
rebuild (R13). -/
def stripeRead (s : State) (stripe : Nat) : Bool :=
  let l := (List.range 34).map fun p => (memberDie (memberWord s stripe p), memberBlock (memberWord s stripe p))
  let ops (d : DieSt) : List MOp := d.queue ++ (d.run.toList ++ d.reads).flatMap fun r => r.op :: r.merged
  (s.fch.dies.any fun d => (ops d.2).any fun o => l.contains (d.1, mediaBlock o.media))
    || (s.cdc.recons.any fun r => r.2.stripe = stripe)
    || ((List.range 16).any fun n => (rebuildOf s n).running && decide (s.get CDC_RBn_SRC_STRIPE n = stripe))

/-- Blocks of a stripe that can be erased (R156). -/
def eraseKeys (s : State) (stripe : Nat) : List Nat :=
  ((List.range 34).map (memberWord s stripe)).filterMap fun w =>
    if blockWorks s (memberDie w) (memberBlock w) then some (peKey (memberDie w) (memberBlock w)) else none

/-- A stripe that no longer holds anything erased: the erases begin once nothing reads it and the records are durable (R13, R47, R144). -/
def beginErase (s : State) (st : Nat) (c : Coll) : State :=
  if stripeBusy s st ∨ stripeRead s st ∨ !mayUpdate s 40 then s
  else
    let s := kickDurable s
    if !allDurable s then s
    else
      let keys := eraseKeys s st
      let s := if c.kind = .fold then appendFw s ⟨0x0A, 0, st, c.target⟩ else s
      setColl (keys.foldl eraseBlock s) st { c with erasing := true, left := keys }

/-- A collected stripe taken off the requests and Formats that wait for it; blocks that could not be erased count (R156). -/
def stripeGone (s : State) (st failed : Nat) : State :=
  let reqs := s.nvm.secReqs.map fun r =>
    if r.todo.contains st then { r with todo := r.todo.filter (· ≠ st), done := r.done + 1, failed := r.failed + failed } else r
  let fmts := s.fw.formats.map fun f => { f with todo := f.todo.filter (· ≠ st) }
  let keys := (List.range 34).map fun p => peKey (memberDie (memberWord s st p)) (memberBlock (memberWord s st p))
  let bad := s.media.badRows.filter fun x => !keys.contains x.1
  let prog := s.media.progUs.filter fun x => x.1 / 8192 ≠ st
  { s with
    nvm := { s.nvm with secReqs := reqs, ruStripe := tdel s.nvm.ruStripe st }
    fw := { s.fw with formats := fmts }
    media := { s.media with
      colls := tdel s.media.colls st, badRows := bad, progUs := prog, refresh := s.media.refresh.filter fun x => x.1 ≠ st
      fixes := s.media.fixes.filter fun x => x.stripe ≠ st } }

/-- The erases of a stripe ended: it is free (R144). -/
def endErase (s : State) (st : Nat) (c : Coll) : State :=
  if c.left ≠ [] ∨ !mayUpdate s 1 then s
  else
    let failed := 34 - (eraseKeys s st).length
    stripeGone (fwStripe s st (setBits (setBits (stripeHdr s st) 0 2 0) 4 14 0)) st failed

/-- One turn of a collection. -/
def collTurn (s : State) (st : Nat) : State :=
  match tget s.media.colls st with
  | none => s
  | some c =>
    if c.erasing then endErase s st c
    else
      match c.job with
      | some j => (match finishJob s j with | some t => setColl t st { c with job := none } | none => s)
      | none =>
        if bgStops s ∨ migrFirst s then s
        else
          match nextCopy s st none (slcHdr (stripeHdr s st) && decide (c.kind ≠ .fold)) c.target with
          | none => beginErase s st c
          | some (j, t) => if j.isSome then setColl t st { c with job := j } else t

/-- A collection of a closed stripe begun. -/
def startColl (s : State) (st : Nat) (k : CollKind) (target : Nat) : State :=
  if s.get MAP_STRIPE_COUNT_COUNT ≤ st ∨ (tget s.media.colls st).isSome ∨ stripeState (stripeHdr s st) ≠ 2 ∨ bgStops s ∨ stripeBusy s st then s
  else
    let s := if validIn s st = 0 then s else reallocated s st
    setColl s st ⟨k, none, target, false, []⟩

end Sys2Proof.Machine
end

