-- ==== Sys2Proof/Machine/CdcCmd.lean ====
section
/-! DEFINITION. The commands of the codec: reconstructions, the read-around budget, rows, rebuild slots and copy slots
(R97 to R113, R135 to R139). -/

namespace Sys2Proof.Machine

/-- CDC_CTRL.ENABLE set: what waited for the codec proceeds (R113). -/
def execCdcEnable (s : State) : Host.Outcome State Fault Refusal := act .codec s fun s =>
  if s.on CDC_CTRL_ENABLE then s
  else
    let s := s.set CDC_CTRL_ENABLE 1
    let s := (List.range 32).foldl copyBegin s
    let s := (List.range 16).foldl rebuildBegin s
    (List.range 16).foldl ringServe s

/-- Whether the member reads of a reconstruction have been queued. -/
def reconQueued (s : State) (id : Nat) (r : Recon) : Bool :=
  let mine (o : MOp) : Bool := match o.src with | .member i _ => i = id | _ => false
  r.got ≠ [] || s.fch.dies.any fun x =>
    x.2.queue.any mine || (x.2.run.toList ++ x.2.reads).any fun y => mine y.op || y.merged.any mine

/-- The members that a reconstruction reads: the 32 active ones with the least predicted wait, or those that the read-around decision
chose, one of which that is active no longer gives way to the unused member (R102, R105, R112). -/
def reconMembers (s : State) (r : Recon) : Recon :=
  if r.members = [] then { r with members := (activeMembers s r.stripe r.pos r.target.slc).take 32 }
  else
    let ps := r.members.filter fun p => dieState s (memberDie (memberWord s r.stripe p)) = 1
    if ps.length = r.members.length then r
    else
      let more := ((activeMembers s r.stripe r.pos r.target.slc).filter fun p => !r.members.contains p).take (32 - ps.length)
      { r with members := ps ++ more, substituted := true }

/-- A reconstruction issued: its 32 members chosen and their reads queued, each of which draws 1 unless the cost was drawn before (R104,
R105, R107). With fewer than 32 it ends; during the power-fail flush it ends without its command's completion (R106). -/
def execReconstruction (id : Nat) (s : State) : Host.Outcome State Fault Refusal := act .codec s fun s =>
  match tget s.cdc.recons id with
  | none => s
  | some r =>
    if r.kind = .spent ∨ reconQueued s id r then s
    else if s.fch.flushing then delRecon s id
    else
      let r2 := reconMembers s r
      if r2.members.length < 32 then reconFail s id r2
      else
        let s := setRecon s id { r2 with paid := true }
        queueMembers (if r.paid then s else drawBudget s 32) id r2 r2.members

/-- The read-around decision taken again for every class 1 read that is queued (R102). -/
def execReadAroundRecheck (s : State) : Host.Outcome State Fault Refusal := act .readAround s fun s =>
  if s.get CDC_RA_CFG_RECHECK = 0 then s
  else
    s.fch.dies.foldl (fun s x =>
      (x.2.queue.filter fun o => o.kind = .read && o.cls = 1).foldl (fun s o => decideAgain s x.1 o) s) s

/-- Transfers per second of a rate code, in MT/s (FCH_DEN_CFG.RATE_LIMIT). -/
def rateMts (r : Nat) : Nat :=
  match r with
  | 0 => 800
  | 1 => 1600
  | 2 => 2400
  | 3 => 3600
  | 4 => 4800
  | _ => 6400

/-- The raw rate of all active, unfenced channels in bytes per µs (R104). -/
def rawRate (s : State) : Nat :=
  (List.range 256).foldl (fun n ch =>
    if s.on FCH_CH_STATUS_TRAINED ch ∧ !s.on FCH_CH_STATUS_FENCED ch ∧ s.on FCH_DEN_STATUS_ACTIVE (ch / 16) then
      n + rateMts (s.get FCH_DEN_STATUS_RATE (ch / 16)) else n) 0

/-- RATE in 1/1,024 codeword per µs (R104). -/
def raRate (s : State) : Nat := rawRate s * s.get CDC_RA_BUDGET_PERMILLE * 1024 / (1000 * 4608)

/-- A microsecond tick of the timer clock: LEVEL gains RATE and stops at DEPTH (R104). -/
def execRaBudgetTick (s : State) : Host.Outcome State Fault Refusal := act .readAround s fun s =>
  let r := raRate s
  setLevel (s.set CDC_RA_RATE_RATE r) (s.cdc.level + r)

/-- Whether a copy slot folds pSLC rows into a dense stripe (R141). -/
def slotFolds (s : State) (n : Nat) : Bool := s.media.colls.any fun x =>
  x.2.kind = .fold && (match x.2.job with | some j => j.slot = n | none => false)

/-- A copied row that entered an accumulator counted by its use (Table 6.6). -/
def countCopy (s t : State) (n : Nat) : State :=
  if t.cdc.accs.length ≤ s.cdc.accs.length then t
  else updHealth t fun h => if slotFolds s n then { h with progFold := h.progFold + rowBytes } else { h with progColl := h.progColl + rowBytes }

/-- A row of an open stripe encoded into an accumulator, from its copy slot or from staged data (R101). -/
def execRowEncode (stripe : Nat) (row : Nat) (s : State) : Host.Outcome State Fault Refusal := act .codec s fun s =>
  if !s.on CDC_CTRL_ENABLE then s
  else
    match copyOfRow s stripe row with
    | some (n, y) => countCopy s (encodeCopy s n y) n
    | none => if stripe < s.get MAP_STRIPE_COUNT_COUNT then encodeStaged s stripe row else s

/-- GO of a rebuild slot (R109). -/
def rebuildGo (s : State) (slot : Nat) : State :=
  if 16 ≤ slot ∨ s.on CDC_RBn_CTL_GO slot then s
  else
    let s := (s.set CDC_RBn_CTL_GO 1 slot).set CDC_RBn_LOST_LOST 0 slot
    rebuildBegin (s.set CDC_RBn_CTL_ROW (s.get CDC_RBn_ROWS_FIRST slot) slot) slot

def execRebuildGo (slot : Nat) (s : State) : Host.Outcome State Fault Refusal := act .rebuild s fun s => rebuildGo s slot

/-- One row of a rebuild slot begun (R109). -/
def execRebuildRow (slot : Nat) (s : State) : Host.Outcome State Fault Refusal := act .rebuild s fun s =>
  if 16 ≤ slot then s else rebuildNext s slot

/-- ABORT of a rebuild slot: it stops at the next row boundary (R110). -/
def rebuildAbort (s : State) (slot : Nat) : State :=
  if 16 ≤ slot ∨ !s.on CDC_RBn_CTL_GO slot then s
  else
    let r := rebuildOf s slot
    if r.inRow then setRebuild (s.set CDC_RBn_CTL_ABORT 1 slot) slot { r with abort := true }
    else rebuildEnd s slot rbAborted

def execRebuildAbort (slot : Nat) (s : State) : Host.Outcome State Fault Refusal := act .rebuild s fun s => rebuildAbort s slot

/-- GO of a copy slot with KIND packed row (R136). -/
def execPackedRowCopy (slot : Nat) (s : State) : Host.Outcome State Fault Refusal := act .codec s fun s => copyGo s slot 0 []

/-- GO of a copy slot with KIND run row (R136). -/
def execRunRowCopy (slot : Nat) (s : State) : Host.Outcome State Fault Refusal := act .codec s fun s => copyGo s slot 1 []

/-- GO of a copy slot with KIND mark scan (R138): `marks` are what the raw reads of the die's blocks answer. -/
def execMarkScan (slot : Nat) (marks : List MarkRead) (s : State) : Host.Outcome State Fault Refusal := act .codec s fun s =>
  copyGo s slot 2 marks

/-- ABORT of a copy slot, ignored once its first program has issued (R137). -/
def execCopySlotAbort (slot : Nat) (s : State) : Host.Outcome State Fault Refusal := act .codec s fun s =>
  match tget s.cdc.copies slot with
  | none => s
  | some y => if y.encoded then s else copyEnd s slot cpAborted 63

end Sys2Proof.Machine
end

