-- ==== Sys2Proof/Machine/FixOps.lean ====
section
/-! DEFINITION. The rebuild of a member whose program failed onto a new block (R109 to R111, R145). -/

namespace Sys2Proof.Machine

/-- The blocks that rebuilds of device firmware are writing. -/
def fixBlocks (s : State) : List (Nat × Nat) := s.media.fixes.filterMap fun x => x.run.map Prod.snd

/-- The new block of a member: of the stripe's model, on a channel that no other member uses, of least wear (R109, R132, R148). -/
def fixBlock (s : State) (x : MemberFix) : Option (Nat × Nat) :=
  let used := ((List.range 34).filter (· ≠ x.pos)).map fun p => memberDie (memberWord s x.stripe p) / 8
  let m := dieModel s (memberDie (memberWord s x.stripe ((x.pos + 1) % 34)))
  (pickMembers s (takenBlocks s ++ fixBlocks s) m 1 ((List.range 256).filter fun ch => !used.contains ch)).head?

def setFix (s : State) (x : MemberFix) : State :=
  { s with media := { s.media with fixes := s.media.fixes.map fun y => if y.stripe = x.stripe ∧ y.pos = x.pos then x else y } }
def dropFix (s : State) (x : MemberFix) : State :=
  { s with media := { s.media with fixes := s.media.fixes.filter fun y => y.stripe ≠ x.stripe || y.pos ≠ x.pos } }

/-- A rebuild slot begun for a member over rows 0 to ROWS − 1, once its stripe is closed (R145). A stripe without rows needs none. -/
def fixStart (s : State) (x : MemberFix) : State :=
  let h := stripeHdr s x.stripe
  if stripeState h = 1 then s
  else if stripeState h ≠ 2 ∨ stripeRows h = 0 then dropFix s x
  else
    match (List.range 16).find? fun n => !s.on CDC_RBn_CTL_GO n && !(s.media.fixes.any fun y => (y.run.map Prod.fst) = some n), fixBlock s x with
    | some n, some (die, block) =>
      let s := (s.set CDC_RBn_SRC_STRIPE x.stripe n).set CDC_RBn_SRC_POSITION x.pos n
      let s := (s.set CDC_RBn_DST_DIE die n).set CDC_RBn_DST_BLOCK block n
      let s := (s.set CDC_RBn_ROWS_FIRST 0 n).set CDC_RBn_ROWS_COUNT (stripeRows h) n
      rebuildGo (setFix s { x with run := some (n, die, block) }) n
    | _, _ => s

/-- The sectors of a member's lost row marked lost, before the member is switched (R110). -/
def markLostRow (s : State) (x : MemberFix) (row : Nat) : State :=
  match dataOf row x.pos with
  | none => s
  | some m =>
    let s := (baseRuns s x.stripe (some row)).foldl (fun s run =>
      (List.range 16).foldl (fun s k => markLost s run (16 * m + k) (place s x.stripe row (16 * m + k))) s) s
    let w := memberWord s x.stripe x.pos
    ((excItems s x.stripe (some row)).filter fun y => mediaDie y.loc = memberDie w && mediaBlock y.loc = memberBlock w).foldl
      (fun s y => markLost s y.run y.q y.loc) s

/-- The end of a member's rebuild: its lost rows are marked and the member is switched; a failed one is tried again on another block
(R110, R111, R145). -/
def fixEnd (s : State) (x : MemberFix) (n die block : Nat) : State :=
  if s.on CDC_RBn_CTL_GO n ∨ !mayUpdate s 1024 then s
  else
    let r := s.get CDC_RBn_CTL_RESULT n
    if r = rbOk ∨ r = rbLostRows then
      let s := (rebuildOf s n).lost.foldl (fun s row => markLostRow s x row) s
      let w := memberOf (die, block)
      dropFix (journal (putMember s x.stripe x.pos w) [recStripeMember x.stripe x.pos w]) x
    else
      setFix (if r = rbProgFail then growFailed s die block 1 else s) { x with run := none }

/-- A turn of the rebuilds of device firmware, which go before every other task (R145, R154). PS4 does not stop them (R383). -/
def fixTurn (s : State) : State :=
  if s.fch.flushing ∨ !mapRuns s ∨ !s.on CDC_CTRL_ENABLE then s
  else
    s.media.fixes.foldl (fun s x =>
      match x.run with
      | none => fixStart s x
      | some (n, die, block) => fixEnd s x n die block) s

end Sys2Proof.Machine
end

