-- ==== Sys2Proof/Machine/BgCmd.lean ====
section
/-! DEFINITION. The rows of device firmware's background work and of the health that it reports (R133, R134, R141 to R144,
R149, R153 to R158, R161, R251). -/

namespace Sys2Proof.Machine

/-- Device firmware handles what has ended, and takes a turn. -/
def actTurn (r : Reach) (s : State) (f : State → State) : Host.Outcome State Fault Refusal :=
  actHealth r s fun s => f (fixTurn (closeFull (drainMedia s)))

/-! The choice of a stripe (R141, R144, R148). -/

/-- The closed stripes that can be collected. -/
def victims (s : State) : List Nat :=
  (List.range (s.get MAP_STRIPE_COUNT_COUNT)).filter fun st =>
    decide (stripeState (stripeHdr s st) = 2) && (tget s.media.colls st).isNone && !stripeBusy s st

/-- The time for which a stripe has been closed, in µs. -/
def closedFor (s : State) (st : Nat) : Nat := s.timeUs - tgetD s.media.closedUs st 0

/-- Whether a stripe has stayed closed as long as every other of a list. -/
def oldestOf (s : State) (l : List Nat) (st : Nat) : Bool := l.contains st && l.all fun c => decide (closedFor s c ≤ closedFor s st)

/-- (1 − u) × age / (1 + u) of a stripe as a fraction; u is the valid part of its programmed rows (R144). -/
def victimScore (s : State) (st : Nat) : Nat × Nat :=
  let cap := stripeRows (stripeHdr s st) * 512
  let v := validIn s st
  if cap = 0 then (closedFor s st, 1) else ((cap - v) * closedFor s st, cap + v)

/-- Whether no other victim has a greater score. -/
def bestVictim (s : State) (st : Nat) : Bool :=
  let l := victims s
  let a := victimScore s st
  l.contains st && l.all fun c => let b := victimScore s c; decide (b.1 * a.2 ≤ a.1 * b.2)

/-- Whether collection runs: the free stripes outside the reserve are fewer than 2 × RESERVE (R144). -/
def gcDue (s : State) : Bool := decide (freeStripes s - s.sys.image.reserve < 2 * s.sys.image.reserve)

/-- Whether static levelling runs: the spread of the dense counts of usable blocks exceeds WL_DELTA (R148). -/
def levelDue (s : State) : Bool :=
  let (lo, _, hi, _) := wearStats s
  decide (s.sys.image.wlDelta < hi - lo)

/-- Whether a stripe is collected now: the best victim while collection runs, or the one closed longest for static levelling. -/
def collDue (s : State) (st : Nat) : Bool := (gcDue s && bestVictim s st) || (levelDue s && oldestOf s (victims s) st)

/-- A turn of the collection of a closed stripe (R144). -/
def execGarbageCollection (stripe : Nat) (s : State) : Host.Outcome State Fault Refusal := actTurn .background s fun s =>
  if (tget s.media.colls stripe).isSome then collTurn s stripe
  else if bgStops s ∨ s.get MAP_STRIPE_COUNT_COUNT ≤ stripe ∨ !collDue s stripe then s
  else collTurn (startColl s stripe .gc (s.get MAP_STRIPE_COUNT_COUNT)) stripe

/-- Whether a pSLC stripe is folded now: fewer than half of the region's stripes are free, and it is the oldest (R141). -/
def foldDue (s : State) (st : Nat) : Bool :=
  let used := stripesIn s fun h => usedHdr h && slcHdr h
  decide (2 * (regionStripes s - used) < regionStripes s) && oldestOf s ((victims s).filter fun c => slcHdr (stripeHdr s c)) st

/-- A fold begun: FOLD_START names the target; a stripe whose valid fraction is below 25 % is collected within the pSLC region
(R141). -/
def startFold (s : State) (st : Nat) : State :=
  let h := stripeHdr s st
  if (tget s.media.colls st).isSome ∨ stripeState h ≠ 2 ∨ !slcHdr h ∨ bgStops s ∨ !mayUpdate s 3 ∨ !foldDue s st then s
  else if validIn s st * 4 < stripeRows h * 512 then startColl s st .gc (s.get MAP_STRIPE_COUNT_COUNT)
  else
    match pickDst s false none (s.get MAP_STRIPE_COUNT_COUNT) with
    | none => s
    | some (t, s) => startColl (appendFw s ⟨0x09, 0, st, t⟩) st .fold t

/-- A turn of the folding of a pSLC stripe (R141). -/
def execFold (stripe : Nat) (s : State) : Host.Outcome State Fault Refusal := actTurn .background s fun s =>
  if s.get MAP_STRIPE_COUNT_COUNT ≤ stripe then s else collTurn (startFold s stripe) stripe

/-! Scrub and refresh (R149). -/

/-- REFRESH_DAYS in µs. -/
def refreshUs (s : State) : Nat := s.sys.image.refreshDays * 86400000000

/-- The rows of a stripe that hold valid data. -/
def validRows (s : State) (st : Nat) : List Nat :=
  uniq ((excItems s st none).map (fun x => mediaPage x.loc) ++ (baseRuns s st none).map fun run => bits (runEntry s run) 22 13)

/-- The rows of every open or closed stripe that hold valid data. -/
def scrubRows (s : State) : List (Nat × Nat) :=
  (List.range (s.get MAP_STRIPE_COUNT_COUNT)).flatMap fun st =>
    if usedHdr (stripeHdr s st) then (validRows s st).map fun r => (st, r) else []

/-- The class 4 reads of every codeword of a row: one page of each active member. -/
def scrubReads (s : State) (st row : Nat) : State × Nat :=
  (List.range 34).foldl (fun x p =>
    let die := memberDie (memberWord x.1 st p)
    if dieState x.1 die ≠ 1 then x
    else
      let o := readOp (.firmware (st * 8192 + row)) 4 (slcHdr (stripeHdr x.1 st)) (memberMedia x.1 st row p 0 0) false
      (qPush x.1 die { o with count := 16, data := List.replicate 16 [] }, x.2 + 1)) (s, 0)

/-- The next row of a scrub read. -/
def scrubNext (s : State) (l : List (Nat × Nat)) : State :=
  match l with
  | [] => { s with media := { s.media with scrub := none } }
  | (st, row) :: _ =>
    let (s, n) := scrubReads s st row
    { s with media := { s.media with scrub := some ⟨l, n, 0, 0, false⟩ } }

/-- A row judged: due where a codeword needed L2 or its stripe, where the mean corrected bit count is above REFRESH_C, where it
is older than REFRESH_DAYS. -/
def scrubJudge (s : State) (r : ScrubRun) : State :=
  match r.rows with
  | [] => s
  | (st, row) :: _ =>
    let old := match tget s.media.progUs (st * 8192 + row) with | some t => decide (refreshUs s < s.timeUs - t) | none => false
    if r.due || decide (s.sys.image.refreshC * r.words < r.errs) || old then addRefresh s (st, row) else s

/-- A turn of the scrub: its reads are waited for, then the next row is read. -/
def scrubTurn (s : State) : State :=
  match s.media.scrub with
  | none => scrubNext s (scrubRows s)
  | some r => if r.left ≠ 0 then s else scrubNext (scrubJudge s r) (r.rows.drop 1)

/-- The copy of the first row that is due: the row leaves the list once it holds no valid data. -/
def refreshTurn (s : State) : State :=
  match s.media.refreshJob with
  | some j =>
    (match finishJob s j with
      | none => s
      | some t => { t with media := { t.media with refreshJob := none } })
  | none =>
    match s.media.refresh with
    | [] => s
    | (st, row) :: rest =>
      if s.fch.flushing ∨ !s.on MAP_CTRL_ENABLE ∨ s.on MAP_CTRL_REPLAY ∨ (tget s.media.colls st).isSome ∨ migrFirst s then s
      else
        match nextCopy s st (some row) (slcHdr (stripeHdr s st)) (s.get MAP_STRIPE_COUNT_COUNT) with
        | none => reallocated { s with media := { s.media with refresh := rest } } st
        | some (j, t) => { t with media := { t.media with refreshJob := j } }

/-- A turn of the scrub and of the refresh that it asks for. -/
def execScrubPass (s : State) : Host.Outcome State Fault Refusal := actTurn .background s fun s =>
  let s := refreshTurn s
  if bgStops s ∨ migrFirst s ∨ !s.on CDC_CTRL_ENABLE then s else scrubTurn s

/-! Migration of a key slot (R153, R154). -/

/-- Namespaces that use a key slot. -/
def slotNs (s : State) (key : Nat) : List Nat := (List.range 4096).filter fun n => nsValid s n && nsSlot s n = key

/-- Whether a run has data under another generation than the one given. -/
def runOldGen (s : State) (run gen : Nat) : Bool :=
  let e := runEntry s run
  (bits e 0 2 = 1 && decide (bits e 35 1 ≠ gen)) || (runEntries s (excPool s) run).any fun x => eKind x.2.2 = 0 && decide (eKeygen x.2.2 ≠ gen)

def setMigr (s : State) (key : Nat) (m : Migr) : State := { s with media := { s.media with migr := tput s.media.migr key m } }

/-- Whether data under the old position of a slot may still reach the map: rows that have bound it, staged rows that wait to
be retired. -/
def oldInFlight (s : State) (key : Nat) : Bool :=
  let old := 1 - curPos s key
  (s.cry.binds.any fun b => b.2.2.1 = key && b.2.2.2 = old)
    || s.map.heldRows.any fun h => h.items.any fun x => decide (x.keygen = old) && decide (nsSlot s (runNs s x.run) = key)

/-- The end of a migration: once its records are durable and nothing names the old position, RETIRE_OLD (R153). -/
def migrEnd (s : State) (key : Nat) : State :=
  let l := slotNs s key
  if oldInFlight s key then s
  else if l.any fun n => (nsRunList s n).any fun run => runOldGen s run (curPos s key) then setMigr s key ⟨l, 0, none⟩
  else
    let s := kickDurable s
    if !allDurable s then s
    else
      let s := (retireOld s key).getD s
      let at' := s.media.migrAt.filter fun x => !l.contains x.1
      saveKey (setPending { s with media := { s.media with migr := tdel s.media.migr key, migrAt := at' } } key 0) key

/-- The next run of a migration: KEYGEN_PROGRESS after every 4,096 runs and at the end of each namespace, else a re-run of the
first run that needs one. -/
def migrNext (s : State) (key : Nat) (m : Migr) : State :=
  match m.todo with
  | [] => migrEnd s key
  | n :: rest =>
    let stop := min (nsRuns s n) ((m.next / 4096 + 1) * 4096)
    let gen := curPos s key
    match ((List.range stop).drop m.next).find? fun k => runOldGen s (nsBase s n + k) gen with
    | some k =>
      (match jobSlot s, pickDst s false none (s.get MAP_STRIPE_COUNT_COUNT) with
        | some i, some (dst, t) =>
          (match startRerun t (nsBase s n + k) i dst with
            | some (j, t) => setMigr t key ⟨m.todo, k, some j⟩
            | none => t)
        | _, _ => s)
    | none =>
      if !mayJournal s 1 then s
      else
        let s := appendFw s ⟨0x0B, 0, n, stop⟩
        if nsRuns s n ≤ stop then setMigr s key ⟨rest, 0, none⟩ else setMigr s key ⟨m.todo, stop, none⟩

/-- Where a migration begins: at the run that the slot's last KEYGEN_PROGRESS names, else at its first run (R55, R153). -/
def migrStart (s : State) (key : Nat) : Migr :=
  let l := slotNs s key
  match (l.filter fun n => (tget s.media.migrAt n).isSome).getLast? with
  | some n => ⟨l.dropWhile (· ≠ n), tgetD s.media.migrAt n 0, none⟩
  | none => ⟨l, 0, none⟩

/-- A turn of the migration of a key slot whose generation has changed. -/
def execKeygenMigration (key : Nat) (s : State) : Host.Outcome State Fault Refusal := actTurn .background s fun s =>
  match tget s.media.migr key with
  | none => if s.on CRY_SLOTs_STATE_OLD_VALID key ∧ !bgStops s then setMigr s key (migrStart s key) else s
  | some m =>
    match m.job with
    | some j => (match finishJob s j with | some t => setMigr t key { m with job := none } | none => s)
    | none => if bgStops s then s else migrNext s key m

/-! Secure deallocation (R155, R156, R256). -/

def setReq (s : State) (r : SecReq) : State :=
  { s with nvm := { s.nvm with secReqs := s.nvm.secReqs.map fun x => if x.id = r.id then r else x } }

/-- A stripe closed so that it can be collected: no row of it is under way. -/
def closeForErase (s : State) (st : Nat) : State :=
  let h := stripeHdr s st
  if stripeState h = 1 ∧ !stripeBusy s st ∧ mayUpdate s 1 = true then fwStripe s st (setBits h 0 2 2) else s

/-- A turn of the collection of the first stripe of a list, for a request or a Format. -/
def eraseTurn (s : State) (todo : List Nat) (k : CollKind) : State :=
  match todo with
  | [] => s
  | st :: _ =>
    if stripeState (stripeHdr s st) = 0 then stripeGone s st 0
    else collTurn (startColl (closeForErase s st) st k (s.get MAP_STRIPE_COUNT_COUNT)) st

/-- A turn of phase 2 of a request. -/
def execSecureDeallocationPhase2 (id : Nat) (s : State) : Host.Outcome State Fault Refusal := actTurn .background s fun s =>
  match s.nvm.secReqs.find? fun r => r.id = id with
  | none => s
  | some r =>
    if 2 ≤ r.state then s
    else if r.todo = [] then setReq s { r with state := if r.failed = 0 then 2 else 3 }
    else eraseTurn (setReq s { r with state := 1 }) r.todo .secure

/-! Flexible Data Placement (R143). -/

/-- FDP_PAD_MS since the oldest staged sector of a handle: what is staged of it is programmed, its row completed with pad
codewords. -/
def execFdpPadTimer (handle : Nat) (s : State) : Host.Outcome State Fault Refusal := actTurn .background s fun s =>
  if !s.sys.image.fdp ∨ !s.on CDC_CTRL_ENABLE ∨ !mayUpdate s 1 then s else padHandle s handle

/-! Health (R157, R158, R161, R251). -/

/-- The spare stripes have reached 0: read-only mode, with its bit and its event; it is never left (R158). -/
def execReadOnlyEntry (s : State) : Host.Outcome State Fault Refusal := actHealth .health s fun s =>
  if s.media.readOnly ∨ 0 < spareStripes s then s
  else smartEvent { s with media := { s.media with readOnly := true } } 3 0

/-- Available Spare has fallen below its threshold (Table 6.4, stage 4). -/
def execSpareBelowThreshold (s : State) : Host.Outcome State Fault Refusal := actHealth .health s fun s =>
  if spareBelow s ∨ s.sys.image.spareThresh ≤ availableSpare s then s
  else smartEvent { s with media := { s.media with spareLow := true } } 0 2

/-- The bytes of the telemetry window that all functions share, from offset 0x8100 (Table 10.10). -/
def telemetryBytes (s : State) : List Byte :=
  smartLog s ++ mediaLog s ++ burrowLog s ++ (List.range 32).flatMap fun k => natLe (elemTemp s k) 4

/-- Device firmware refreshes the telemetry window: SEQ stays even after the update (R251). -/
def execTelemetryRefresh (s : State) : Host.Outcome State Fault Refusal := act .health s fun s =>
  let fns := ((List.range 256).filter (fnPresent s)).map fun f => (f, (regValue s HIF_FNf_STATEReg f 0, regValue s CMD_FNf_STATEReg f 0))
  { s with nvm := { s.nvm with telSeq := s.nvm.telSeq + 2, telUs := s.timeUs - s.flt.resetUs, telBytes := telemetryBytes s, telFns := fns } }

/-- The health counters written to the Sett (R161). -/
def execHealthCounterSave (s : State) : Host.Outcome State Fault Refusal := act .health s saveHealth

end Sys2Proof.Machine
end

