-- ==== Sys2Proof/Machine/BurCmd.lean ====
section
/-! DEFINITION. The commands of HBM's windows and pseudo-channels, of the staging area's release, and of the Burrow
(R163 to R186). -/

namespace Sys2Proof.Machine

/-! HBM. -/

/-- Whether two ranges, each a start and an end, overlap. -/
def overlap (a b : Nat × Nat) : Bool := decide (a.1 < b.2) && decide (b.1 < a.2)

/-- Data and parity range of a window, enabled or not (R164). -/
def winRanges (s : State) (w : Nat) : List (Nat × Nat) :=
  let b := s.get HBM_WINw_BASE_BASE w * 4096
  let pages := s.get HBM_WINw_SIZE_PAGES w
  let p := s.get HBM_WINw_PAR_PAR w * 4096
  [(b, b + pages * 4096), (p, p + ((pages * 64 + 14) / 15 + 63) / 64 * 4096)]

/-- EN of a parity window set: refused on an overlap with an enabled window (R165). -/
def execHbmWindowEnable (w : Nat) (s : State) : Host.Outcome State Fault Refusal := act .staging s fun s =>
  if 16 ≤ w ∨ s.on HBM_CTRL_LOCK then s
  else
    let clash := ((List.range 16).filter fun v => v ≠ w && s.on HBM_WINw_BASE_EN v).any fun v =>
      (winRanges s w).any fun a => (winRanges s v).any (overlap a)
    if clash then (s.set HBM_WINw_BASE_EN 0 w).set HBM_STATUS_WIN_OVERLAP 1 else s.set HBM_WINw_BASE_EN 1 w

/-- A pseudo-channel answers no read within 2 µs: it fails (R183). -/
def execPseudoChannelTimeout (p : Nat) (s : State) : Host.Outcome State Fault Refusal := act .pcTimeout s fun s =>
  if 64 ≤ p then s else failPc (pcEvent s p 2 0 true) p

/-- The most units that a flush within FLUSH_LIMIT and the holdover of 30 ms can write, and that the staging area holds
(R169). -/
def ceilCap (s : State) : Nat :=
  min (s.get HBM_STG_SIZE_SECTORS / 16384 - 4) ((min (s.get PWR_CFG_FLUSH_LIMIT) 30 - 4) * 128 / 125)

/-- HBM_CTRL.ENABLE set: every staging sector free, the ceiling computed (R167, R169). A further enable before HBM is reset keeps VWC and
what is staged, and never raises UNITS (R171, R172, log entry 106). -/
def execHbmEnable (s : State) : Host.Outcome State Fault Refusal := act .staging s fun s =>
  if s.on HBM_CTRL_ENABLE then s
  else
    let u := energyUnits (s.get HBM_HOLDUP_ENERGY_MJ)
    let cap := ceilCap s
    let s := s.set HBM_CTRL_ENABLE 1
    if s.hbm.fixed then
      s.set HBM_CEIL_UNITS (min (s.get HBM_CEIL_UNITS) (min (if s.on HBM_CEIL_VWC then s.get HBM_CEIL_VWC_UNITS else u) cap))
    else
      let s :=
        if 4 ≤ u ∧ 4 ≤ cap then (s.set HBM_CEIL_UNITS (min u cap)).set HBM_CEIL_VWC 0
        else (s.set HBM_CEIL_UNITS (min (s.get HBM_CEIL_VWC_UNITS) cap)).set HBM_CEIL_VWC 1
      stgCounts { s with hbm := { s.hbm with stgFree := ⟨[], 0, s.get HBM_STG_SIZE_SECTORS⟩, stg := [], stgUsers := [], fixed := true } }

/-- A staging sector released once no entry covers it and nothing uses it (R167). -/
def execStagingRelease (sector : Nat) (s : State) : Host.Outcome State Fault Refusal := act .staging s fun s => releaseStg s sector

/-! The Burrow. -/

/-- BUR_CTRL.ENABLE set: 16 pool 3 buffers for the sketch, or NO_BUFFER; index and frame table empty, frames on failed
pseudo-channels failed (R174, R175, R183). Fills that an earlier enable left are cancelled. -/
def execBurEnable (s : State) : Host.Outcome State Fault Refusal := act .burrow s fun s =>
  if s.on BUR_CTRL_ENABLE then s
  else
    match claim s 3 16 with
    | none => s.set BUR_STATUS_NO_BUFFER 1
    | some (l, s) =>
      let n := s.get BUR_FRAMES_COUNT
      let s := s.bur.fills.foldl (fun s x => cancelFill s x.1) s
      let a := s.get BUR_IDX_BASE_BASE * 4096
      let s := clearRange s a (a + 2 ^ s.get BUR_IDX_CFG_IDX_LOG2 * 64 + n * 8)
      let s := { s with bur := { s.bur with hand := 0, sketch := [], fills := [], readers := [], bufs := l, agedUs := s.timeUs } }
      let bad := (List.range 64).filter fun p => bits (s.get HBM_PC_FAILED_FAILED) p 1 = 1
      let s := bad.foldl (fun s p => (List.range (n / 64)).foldl (fun s k => setFrame s (64 * k + p) (mkFrame 0 0 0 false frFailed 0)) s) s
      let s := ((s.set BUR_PINNED_COUNT 0).set BUR_RESIDENT_COUNT 0).set BUR_AVAIL_COUNT (n - n / 64 * bad.length)
      s.set BUR_CTRL_ENABLE 1

/-- Every counter of the sketch halved, PERIOD_S seconds after the last time (R175). -/
def execSketchAging (s : State) : Host.Outcome State Fault Refusal := act .burrow s fun s =>
  if !s.on BUR_CTRL_ENABLE ∨ s.timeUs < s.bur.agedUs + 1000000 * s.get BUR_AGE_PERIOD_S then s
  else
    let half := (s.bur.sketch.map fun x => (x.1, x.2 / 2)).filter fun x => x.2 ≠ 0
    ({ s with bur := { s.bur with sketch := half, agedUs := s.timeUs } }).set BUR_STATUS_AGED 1

/-- A fill that has all its sectors ends (R176, R178). -/
def execBurrowFillComplete (frame : Nat) (s : State) : Host.Outcome State Fault Refusal := act .burrow s fun s => finishFill s frame

/-- The oldest read of a frame has its data: it goes to its command, READERS falls. A frame whose data cannot be read is
left, and the read is translated again without the Burrow (R174, R183, log entry 25). -/
def execBurrowReadDone (frame : Nat) (s : State) : Host.Outcome State Fault Refusal := act .burrowReads s fun s =>
  match s.bur.readers.find? fun x => x.1 = frame with
  | none => s
  | some (_, c, k) =>
    let q := match srcSector s (.host c k) with | some (_, _, q) => q | none => 0
    let fmt := match srcSector s (.host c k) with | some (ns, _, _) => nsFmt s ns | none => 0
    let t := noteFrame s frame (q % 16)
    match frameSector s frame (q % 16) with
    | some d => leaveFrame (opEnd (ctxGot t c k (d ++ zeroMeta fmt)) c) frame
    | none => rewalk (leaveFrame t frame) c k

/-! Command slots (R186, Table 7.6). -/

/-- The checks before a command: its OP stands in the slot, BUSY while BUR is not enabled, BAD_ARG as `bad` says. A slot whose PIN still
waits for fills takes no command: its GO is 1. -/
def burSlot (s : State) (n op : Nat) (bad : Bool) (f : State → State) : State :=
  if 8 ≤ n ∨ s.on BUR_CMDn_CTL_GO n then s
  else
    let s := s.set BUR_CMDn_CTL_OP op n
    if !s.on BUR_CTRL_ENABLE then burDone s n burBusy
    else if bad then burDone s n burBadArg
    else f s

/-- First run, first segment and count of a slot, and whether they are out of range. -/
def burRun (s : State) (n : Nat) : Nat := bits (s.get BUR_CMDn_ARG0_V n) 0 29
def burSeg (s : State) (n : Nat) : Nat := bits (s.get BUR_CMDn_ARG0_V n) 29 5
def burCount (s : State) (n : Nat) : Nat := bits (s.get BUR_CMDn_ARG1_V n) 0 20
def burSpan (s : State) (n : Nat) : List (Nat × Nat) := segSpan (burRun s n) (burSeg s n) (burCount s n)
def burSpanBad (s : State) (n : Nat) : Bool :=
  burCount s n = 0 || decide (s.get MAP_RUN_LIMIT_RUN_COUNT ≤ burRun s n + (burSeg s n + burCount s n - 1) / 32)

/-- PREFETCH. -/
def execPrefetch (slot : Nat) (s : State) : Host.Outcome State Fault Refusal := act .burrowReads s fun s =>
  burSlot s slot 1 (burSpanBad s slot) fun s =>
    let (k, s) := prefetchAll s (burSpan s slot)
    burDone (s.set BUR_CMDn_OUT0_V k slot) slot burOk

/-- PIN: it is complete once every fill that it waits for has ended (R182). -/
def execPin (slot : Nat) (s : State) : Host.Outcome State Fault Refusal := act .burrowReads s fun s =>
  burSlot s slot 2 (burSpanBad s slot) fun s =>
    let s := pinBegin (s.set BUR_CMDn_CTL_GO 1 slot) slot (burSpan s slot)
    match tget s.bur.pinWait slot with
    | some w => pinSlot s (slot, w)
    | none => s

/-- UNPIN. -/
def execUnpin (slot : Nat) (s : State) : Host.Outcome State Fault Refusal := act .burrow s fun s =>
  burSlot s slot 3 (burSpanBad s slot) fun s =>
    let (k, s) := unpinAll s (burSpan s slot)
    burDone (s.set BUR_CMDn_OUT0_V k slot) slot burOk

/-- COOL. -/
def execCool (slot : Nat) (s : State) : Host.Outcome State Fault Refusal := act .burrow s fun s =>
  burSlot s slot 4 (burSpanBad s slot) fun s => burDone ((burSpan s slot).foldl (fun s y => coolSeg s y.1 y.2) s) slot burOk

/-- BOOST. -/
def execBoost (slot : Nat) (s : State) : Host.Outcome State Fault Refusal := act .burrow s fun s =>
  burSlot s slot 5 (burSpanBad s slot) fun s =>
    burDone ((burSpan s slot).foldl (fun s y => sketchRaise s y.1 y.2 (s.get BUR_ADMIT_THRESH)) s) slot burOk

/-- The segments of the runs from `a`, `n` of them, that have a frame which is valid or filling. -/
def segsIn (s : State) (a n : Nat) : Nat :=
  (List.range n).foldl (fun k r => k + ((List.range 32).filter fun g =>
    match burFrame s (a + r) g with
    | some f => frameState (frameWord s f) = frValid || frameState (frameWord s f) = frFilling
    | none => false).length) 0

/-- INVAL: OUT0 is the number of segments that the invalidation counter advanced by. -/
def execInval (slot : Nat) (s : State) : Host.Outcome State Fault Refusal := act .burrow s fun s =>
  let a := burRun s slot
  let n := bits (s.get BUR_CMDn_ARG1_V slot) 0 29
  burSlot s slot 6 (decide (s.get MAP_RUN_LIMIT_RUN_COUNT < a + n) || decide (s.get MAP_RUN_LIMIT_RUN_COUNT ≤ a)) fun s =>
    let t := invalRuns s a n
    burDone (t.set BUR_CMDn_OUT0_V (segsIn s a n) slot) slot burOk

/-- ESTIMATE. -/
def execEstimate (slot : Nat) (s : State) : Host.Outcome State Fault Refusal := act .burrow s fun s =>
  burSlot s slot 7 (decide (s.get MAP_RUN_LIMIT_RUN_COUNT ≤ burRun s slot)) fun s =>
    burDone (s.set BUR_CMDn_OUT0_V (sketchEst s (burRun s slot) (burSeg s slot)) slot) slot burOk

end Sys2Proof.Machine
end

