-- ==== Sys2Proof/Machine/HifRst.lean ====
section
/-! DEFINITION. Completions of read requests, and the resets of functions and links (R191, R193, R206 to R210). -/

namespace Sys2Proof.Machine

/-! Completions. -/

/-- A request that ended without its data: a fetch puts its controller in CFS, a command ends with Data Transfer Error
(R206). `bit` is the error that is logged; the header log holds a free value (log entry 6). -/
def failRequest (s : State) (r : Req) (bit : Nat) : State :=
  let (h, s) := s.fresh
  match r.kind with
  | .sqe _ _ cs => aerUnc (cs.foldl opEnd (setCfs s r.f)) r.f bit h
  | .data c _ => aerAdvisory (releaseUnstaged (opEnd (ctxErr s c stDataTransfer) c) c) r.f bit h
  | .list c _ _ => aerAdvisory (opEnd (ctxErr s c stDataTransfer) c) r.f bit h

/-- Host data of a command: it is kept by its offset; the last of it may stage a write (R14, R31, R167). -/
def dataArrived (s : State) (c off : Nat) (d : List Byte) : State :=
  writeArrived (opEnd (updCtx s c fun x => { x with raw := tput x.raw off d }) c) c

/-- A list or a segment of a command: when it completes the addresses of a write that has been admitted, or of a compare
that has begun, the data is asked for. -/
def listDone (s : State) (c : Nat) (sgl : Bool) (e rest : Nat) (d : List Byte) : State :=
  let s := listArrived s c sgl e rest d
  match ctxOf s c with
  | none => s
  | some x =>
    if dmaReady x && x.err = 0 && x.started && x.stage = .running && x.raw = [] && ((isIo x 1 && x.stg ≠ []) || isIo x 5) then askData s c
    else s

/-- The 64 B entries of a byte string. -/
def sqesOf (d : List Byte) : List Sqe := (List.range (d.length / 64)).map fun k => sqeOf ((d.drop (64 * k)).take 64)

/-- All data of a request has arrived. -/
def requestDone (s : State) (r : Req) (d : List Byte) : State :=
  let s := freeReq s r
  match r.kind with
  | .sqe q _ cs => takeEntries s r.f q (cs.zip (sqesOf d))
  | .data c off => dataArrived s c off d
  | .list c sgl rest => listDone s c sgl (r.addr + r.len) rest d

/-- A completion of an outstanding request processed: a poisoned one, or one that fails a checked ECRC, ends its request
(R207, R208). -/
def takeCompletion (s : State) (r : Req) (t : CplTlp) : State :=
  if t.ep then failRequest (freeReq (s.set HIF_STATUS_POISON 1) r) r uncPoison
  else if t.ecrcBad ∧ s.on CFG_AER_CAP_CHK r.f then failRequest (freeReq (s.set HIF_STATUS_POISON 1) r) r uncEcrc
  else
    let d := r.got ++ t.data
    if r.len ≤ d.length then requestDone s r (d.take r.len)
    else { s with hif := { s.hif with reqs := s.hif.reqs.map fun x => if x.link = r.link ∧ x.tag = r.tag then { x with got := d } else x } }

/-- An Unexpected Completion (R207). -/
def unexpected (s : State) (l : Nat) : State :=
  let (h, s) := s.fresh
  let s := (s.set HIF_STATUS_UNEXP_CPL 1).bump HIF_LINKl_CNT_UNEXP_CNT l
  aerAdvisory s (pfOf l) uncUnexp h

/-- A completion TLP received (R207 to R210). -/
def completionIn (s : State) (t : CplTlp) : State :=
  match reqOf s t.link t.tag with
  | some r => if bme s r.f then takeCompletion s r t else { s with hif := { s.hif with held := s.hif.held ++ [t] } }
  | none =>
    if s.hif.quar.any fun q => q.link = t.link && q.tag = t.tag && q.silent then s else unexpected s t.link

/-- Whether every completion of a request has arrived, the held ones counted. -/
def allHere (s : State) (r : Req) : Bool :=
  let h := s.hif.held.filter fun t => t.link = r.link && t.tag = r.tag
  decide (r.len ≤ (h.map fun t => t.data.length).foldl (· + ·) r.got.length)

/-- The timeout of a request, once its time has passed without all its completions (R205, R206). -/
def timeout (s : State) (l t : Nat) : State :=
  match reqOf s l t with
  | none => s
  | some r =>
    if s.on CFG_DEVCTL2_CTOD r.f ∨ allHere s r = true ∨ s.timeUs < r.sentUs + ctoUs s r.f then s
    else
      let s := { s with hif := { s.hif with held := s.hif.held.filter fun x => !(x.link = l && x.tag = t) } }
      ((failRequest (quarReq s false r) r uncCto).bump HIF_LINKl_CNT_CTO_CNT l).set HIF_STATUS_CTO 1

/-- The completions that were held for a function processed in arrival order (R209). -/
def takeHeld (s : State) (f : Nat) : State :=
  let mine (t : CplTlp) : Bool := match reqOf s t.link t.tag with | some r => r.f = f | none => false
  let l := s.hif.held.filter mine
  l.foldl completionIn { s with hif := { s.hif with held := s.hif.held.filter fun t => !mine t } }

/-- Every completion entry of a function that has a slot and room posted (R209, R223). -/
def postAll (s : State) (f : Nat) : State :=
  (s.cmd.cqs.filter fun x => x.1 / 65536 = f).foldl (fun s x =>
    (List.range x.2.wait.length).foldl (fun s _ => postOne s f (x.1 % 65536)) s) s

/-! Resets of functions (R210). -/

/-- Internal operations that ended with a request. -/
def endRequest (s : State) (r : Req) : State :=
  match r.kind with
  | .sqe _ _ cs => cs.foldl opEnd s
  | .data c _ => opEnd s c
  | .list c _ _ => opEnd s c

/-- What takes effect in the cycle of a function's reset: fetch stops, reads are quarantined and their completions will be
discarded, commands are dropped, mailboxes reset, queues end (R210, R332). -/
def beginReset (s : State) (f : Nat) : State :=
  let mine := s.hif.reqs.filter fun r => r.f = f
  let held := s.hif.held.filter fun t => !(mine.any fun r => r.link = t.link && r.tag = t.tag)
  let s := { s with hif := { s.hif with held := held } }
  let s := dropController (mine.foldl (fun s r => quarReq s true r) s) f
  endpointReset (mine.foldl endRequest s) f

/-- Section bases of a function's registers in the register table. -/
def secNvme : Nat := 2 ^ 48
def secCfg : Nat := 2 ^ 48 + 0x20000
def secVec : Nat := 2 ^ 48 + 0x30000
def secEnd : Nat := 2 ^ 48 + 0x40000

/-- The registers of a function back at their reset values: NVMe, configuration space, MSI-X and its HIF state; the
function stays present or not as `present` says (R210, R251). -/
def finishReset (s : State) (f : Nat) (present : Bool) : State :=
  let s := s.resetRegsAt secNvme (secNvme + 0x10000) f
  let s := s.resetRegsAt secCfg secEnd f
  let s := s.resetRegsAt 0x00F001001000 0x00F001002000 f
  let s := s.set HIF_FNf_STATE_PRESENT (b2n present) f
  let s := { s with
    cmd := { s.cmd with stopped := s.cmd.stopped.filter (· ≠ f) }
    nvm := { s.nvm with telFns := tdel s.nvm.telFns f, changed := s.nvm.changed.filter fun x => x.1 ≠ f } }
  updPs (updInta s f)

/-- A whole reset of a function at once. -/
def resetFn (s : State) (f : Nat) (present : Bool) : State :=
  if fnPresent s f then finishReset (beginReset s f) f present else s

/-- The virtual functions of a link reset; they no longer exist, because VF Enable is 0 (R193, R210). -/
def resetVfs (s : State) (l : Nat) : State :=
  (((linkFns s l).drop 1).foldl (fun s f => resetFn s f false) s).set CFG_SRIOV_CTL_VFE 0 (pfOf l)

/-- The virtual functions of a link brought to what its SR-IOV capability says: those that exist are present with the VF Memory Space
Enable, the others are reset and gone (R193, R194). -/
def updVfs (s : State) (l : Nat) : State :=
  ((linkFns s l).drop 1).foldl (fun s f =>
    if vfExists s f then (s.set HIF_FNf_STATE_PRESENT 1 f).set HIF_FNf_STATE_MSE (s.get CFG_SRIOV_CTL_MSE (pfOf l)) f
    else resetFn s f false) s

/-- Requests of a link on the out-of-band port 1 forgotten (log entry 26). -/
def dropVdm (s : State) (l : Nat) : State :=
  freeOrphans { s with oob := { s.oob with
    slots := s.oob.slots.filter fun x => !(x.1 / 2 = 1 && x.2.link = l)
    asm := s.oob.asm.filter fun x => !(x.1 = 1 && x.2.link = l)
    whole := s.oob.whole.filter fun x => !(x.1 = 1 && x.2.link = l) } }

/-- Every function of a link reset, and the link not up (R191). -/
def resetLink (s : State) (l : Nat) : State :=
  if !linkEnabled s l ∨ !s.on HIF_CTRL_ENABLE then s
  else
    (dropVdm (resetFn (resetVfs s l) (pfOf l) true) l).resetRegsAt 0x00F001000208 0x00F001000209 l

/-- An unexpected link down (R191). -/
def linkDown (s : State) (l : Nat) : State :=
  if l < 8 ∧ s.on HIF_LINKl_STATUS_UP l then
    ((resetLink s l).bump HIF_LINKl_CNT_LINK_DOWN_CNT l).set HIF_STATUS_LINK_DOWN 1
  else s

/-- Vectors that the functions of the enabled links would have (R199). -/
def vectorSum (s : State) : Nat :=
  (List.range 8).foldl (fun n l => if linkEnabled s l then
    n + s.get HIF_LINKl_CFG_MSIX_PF l + s.get HIF_LINKl_CFG_TOTAL_VFS l * s.get HIF_LINKl_CFG_MSIX_VF l else n) 0

/-- HIF_CTRL.ENABLE written 1 (R199): refused with CFG_ERR, or the physical functions appear. -/
def hifEnable (s : State) : State :=
  if s.on HIF_CTRL_ENABLE then s
  else if 131072 < vectorSum s ∨ (List.range 8).any (fun l => linkEnabled s l && decide (vfLimit s l < s.get HIF_LINKl_CFG_TOTAL_VFS l)) = true then
    s.set HIF_STATUS_CFG_ERR 1
  else
    let s := s.set HIF_CTRL_ENABLE 1
    (List.range 8).foldl (fun s l => if linkEnabled s l then s.set HIF_FNf_STATE_PRESENT 1 (pfOf l) else s) s

/-- Widths that a link may train to (Table 8.1). -/
def widthOk (s : State) (l w : Nat) : Bool :=
  [1, 2, 4, 8].contains w || (w = 16 && !s.on HIF_PORTp_CFG_BIFURCATE (l / 2))

/-- A link trained (R188 to R190). A link that is up keeps its width: it does not train. -/
def linkUp (s : State) (l : Nat) (p : LinkParams) : State :=
  if 8 ≤ l ∨ s.on HIF_LINKl_STATUS_UP l ∨ !linkEnabled s l ∨ !s.on HIF_CTRL_ENABLE ∨ s.hif.perst.contains (l / 2) ∨ !widthOk s l p.width ∨ 6 < p.rate then s
  else
    let rate := min p.rate (s.get HIF_PORTp_CFG_RATE_LIMIT (l / 2))
    let flit := 5 ≤ rate || (p.flit && s.on HIF_PORTp_CFG_FLIT_EN (l / 2))
    let s := (s.set HIF_LINKl_STATUS_UP 1 l).set HIF_LINKl_STATUS_RATE rate l
    let s := (s.set HIF_LINKl_STATUS_WIDTH p.width l).set HIF_LINKl_STATUS_FLIT (b2n flit) l
    let s := (s.set HIF_LINKl_STATUS_REVERSED (b2n p.reversed) l).set HIF_LINKl_STATUS_POLARITY p.polarity l
    let s := s.set HIF_LINKl_STATUS_SRIS (s.get HIF_PORTp_CFG_SRIS (l / 2)) l
    if rate < 3 then s.set HIF_STATUS_SLOW_LINK 1 else s

end Sys2Proof.Machine
end

