-- ==== Sys2Proof/Machine/HifCmd.lean ====
section
/-! DEFINITION. The commands of the host ports (08). -/

namespace Sys2Proof.Machine

/-- HIF_CTRL.ENABLE (R199). -/
def execHifEnable (s : State) : Host.Outcome State Fault Refusal := act .ports s hifEnable

/-- A link trained (R188). -/
def execLinkUp (link : Nat) (p : LinkParams) (s : State) : Host.Outcome State Fault Refusal := act .ports s fun s => linkUp s link p

/-- PERST_N of a port low: both links of the port are reset, and a reset of a function that runs ends in it (R191). -/
def execPerstNAssert (port : Nat) (s : State) : Host.Outcome State Fault Refusal := act .clock s fun s =>
  if 4 ≤ port then s
  else
    let s := resetLink (resetLink s (2 * port)) (2 * port + 1)
    { s with hif := { s.hif with perst := port :: s.hif.perst.filter (· ≠ port) } }

/-- PERST_N of a port high (R191): when the 8840 begins to answer configuration requests to the port's functions is free, within
20 ms; those that arrive before are completed with Request Retry Status. -/
def execPerstNDeassert (port : Nat) (s : State) : Host.Outcome State Fault Refusal := act .pins s fun s =>
  let (v, s) := s.fresh
  { s with hif := { s.hif with perst := s.hif.perst.filter (· ≠ port), perstUs := tput s.hif.perstUs port (s.timeUs + v % 20001) } }

/-- A Hot Reset received on a link (R191). -/
def execHotReset (link : Nat) (s : State) : Host.Outcome State Fault Refusal := act .clock s fun s => resetLink s link

/-- A link down (R191). -/
def execLinkDown (link : Nat) (s : State) : Host.Outcome State Fault Refusal := act .clock s fun s => linkDown s link

/-- The reference clock of a port lost: a surprise link down of the port's links where it runs in SRIS mode (R21). -/
def execRefclkPLoss (port : Nat) (s : State) : Host.Outcome State Fault Refusal := act .clock s fun s =>
  if port < 4 ∧ s.on HIF_PORTp_CFG_SRIS port then linkDown (linkDown s (2 * port + 1)) (2 * port) else s

/-- Bus Master Enable of a function cleared (R209). -/
def execBusMasterEnableClear (f : Nat) (s : State) : Host.Outcome State Fault Refusal := act .ports s fun s =>
  if !fnPresent s f ∨ !bme s f then s
  else
    let s := (s.set HIF_FNf_STATE_BME 0 f).set HIF_FNf_STATE_PAUSED 1 f
    if isPf s f then s.set CFG_COMMAND_BME 0 f else s

/-- Bus Master Enable of a function set (R209): held completions are processed in arrival order, held entries and pending
messages go out, and requests that waited are sent. -/
def execBusMasterEnableSet (f : Nat) (s : State) : Host.Outcome State Fault Refusal := act .masterEnable s fun s =>
  if !fnPresent s f then s
  else
    let s := (s.set HIF_FNf_STATE_BME 1 f).set HIF_FNf_STATE_PAUSED 0 f
    let s := if isPf s f then s.set CFG_COMMAND_BME 1 f else s
    pbaSendAll (postAll (takeHeld (retryReqs s) f) f) f

/-- Initiate Function Level Reset written (R210): of a physical function it resets every virtual function too. -/
def execInitiateFunctionLevelReset (f : Nat) (s : State) : Host.Outcome State Fault Refusal := act .clock s fun s =>
  if !fnPresent s f ∨ s.on HIF_FNf_STATE_FLR_BUSY f then s
  else
    let s := if isPf s f then resetVfs s (linkOf s f) else s
    ((beginReset s f).set HIF_STATUS_FLR 1).set HIF_FNf_STATE_FLR_BUSY 1 f

/-- A Function Level Reset ended (R210). -/
def execFunctionLevelResetDone (f : Nat) (s : State) : Host.Outcome State Fault Refusal := act .functionDone s fun s =>
  if s.on HIF_FNf_STATE_FLR_BUSY f then finishReset s f true else s

/-- VF Enable set (R193). -/
def execVfEnableSet (link : Nat) (s : State) : Host.Outcome State Fault Refusal := act .clock s fun s =>
  let p := pfOf link
  if 8 ≤ link ∨ !linkEnabled s link ∨ !fnPresent s p ∨ s.on CFG_SRIOV_CTL_VFE p then s
  else
    updVfs (s.set CFG_SRIOV_CTL_VFE 1 p) link

/-- VF Enable cleared (R193). -/
def execVfEnableClear (link : Nat) (s : State) : Host.Outcome State Fault Refusal := act .clock s fun s =>
  if link < 8 ∧ linkEnabled s link ∧ s.on CFG_SRIOV_CTL_VFE (pfOf link) then resetVfs s link else s

/-- A physical function placed in D3hot, and back in D0 with all its state (R195). -/
def execD3hotEntry (f : Nat) (s : State) : Host.Outcome State Fault Refusal := act .ports s fun s =>
  if fnPresent s f ∧ isPf s f then (s.set CFG_PMCSR_STATE 3 f).set HIF_FNf_STATE_D3HOT 1 f else s
def execD0Return (f : Nat) (s : State) : Host.Outcome State Fault Refusal := act .ports s fun s =>
  if fnPresent s f ∧ isPf s f then (s.set CFG_PMCSR_STATE 0 f).set HIF_FNf_STATE_D3HOT 0 f else s

/-- A vector's mask cleared: a pending message goes out when nothing else holds it (R200). -/
def execMsixUnmask (f : Nat) (vector : Nat) (s : State) : Host.Outcome State Fault Refusal := act .ports s fun s =>
  if fnPresent s f ∧ vector < vecCount s f then pbaSend (s.set VEC_CTRL_MASK 0 f vector) f vector else s

/-- A completion TLP (R207). -/
def execCompletionReceived (c : CplTlp) (s : State) : Host.Outcome State Fault Refusal := act .masterEnable s fun s => completionIn s c

/-- The timeout of a request (R206). -/
def execCompletionTimeout (link : Nat) (tag : Nat) (s : State) : Host.Outcome State Fault Refusal := act .completion s fun s => timeout s link tag

/-- The end of a tag's quarantine, once its time has passed (R205, R207). -/
def execQuarantineEnd (link : Nat) (tag : Nat) (s : State) : Host.Outcome State Fault Refusal := act .pins s fun s =>
  let s := { s with hif := { s.hif with quar := s.hif.quar.filter fun q => !(q.link = link && q.tag = tag && decide (q.endUs ≤ s.timeUs)) } }
  retryReqs (countReads s (pfOf link) link)

/-- A received TLP or DLLP that fails a check (R211): 0 Receiver Error, 1 Bad TLP, 2 Bad DLLP, 3 REPLAY_NUM Rollover, 4 Replay
Timer Timeout, 5 Data Link Protocol Error, 6 Flow Control Protocol Error, 7 Receiver Overflow, 8 Malformed TLP, 9 a poisoned
posted write, 10 an ECRC error, 11 Unsupported Request, 12 a corrected error of SRAM on the host path. -/
def linkError (s : State) (l err header : Nat) : State :=
  let f := pfOf l
  if 8 ≤ l ∨ !s.on HIF_LINKl_STATUS_UP l then s
  else if err = 0 then aerCor s f corRx
  else if err = 1 then aerCor s f corBadTlp
  else if err = 2 then aerCor s f corBadDllp
  else if err = 3 then aerCor s f corRollover
  else if err = 4 then aerCor s f corReplay
  else if err = 5 then aerUnc s f uncDlp header
  else if err = 6 then aerUnc s f uncFcp header
  else if err = 7 then aerUnc s f uncOverflow header
  else if err = 8 then aerUnc s f uncMalformed header
  else if err = 9 then aerUnc (s.set HIF_STATUS_POISON 1) f uncPoison header
  else if err = 10 then
    (if s.on CFG_AER_CAP_CHK f then aerUnc (s.set HIF_STATUS_POISON 1) f uncEcrc header else s)
  else if err = 11 then urLog s f header
  else if err = 12 then aerCor s f corInternal
  else s

def execMalformedTlp (link : Nat) (err : Nat) (header : Nat) (s : State) : Host.Outcome State Fault Refusal :=
  act .ports s fun s => linkError s link err header

end Sys2Proof.Machine
end

