-- ==== Sys2Proof/Machine/BpmCmd.lean ====
section
/-! DEFINITION. The commands of the buffer pool and of SRAM protection (R293 to R302). -/

namespace Sys2Proof.Machine


/-- BPM_ENABLE: the geometry checked, then every free list built as a rebuild (R293). -/
def execBpmEnable (s : State) : Host.Outcome State Fault Refusal :=
  act .buffers s fun s =>
    if s.on BPM_CTRL_ENABLE then s
    else if poolsOk s then (List.range 4).foldl startRebuild (s.set BPM_CTRL_ENABLE 1)
    else s.set BPM_STATUS_CFG_ERR 1

/-- BUFFER_REQUEST: a data-path requester is given a buffer or waits (R294). While BPM_CTRL.ENABLE is 0 BPM accepts no
request. -/
def execBufferRequest (size requester : Nat) (s : State) : Host.Outcome State Fault Refusal :=
  act .buffers s fun s =>
    if !s.on BPM_CTRL_ENABLE then s
    else
      match bufferFor s size with
      | some (a, t) => grantTo t requester a
      | none => { (s.bump BPM_CNTn_COUNT 2) with bpm := { s.bpm with waiters := s.bpm.waiters ++ [(size, requester)] } }

/-- A firmware allocation from a named pool, spilling to a larger pool where SPILL allows (R294). -/
def allocRead (s : State) (p : Nat) : Option (Nat × State) :=
  match poolTake s p with
  | some x => some x
  | none =>
    if tgetD s.bpm.heads p 0 = 0 ∧ !s.on BPM_POOLn_STATE_REBUILDING p ∧ s.on BPM_POOLn_CFG_SPILL p then
      (((poolsFor s (poolSize s p)).filter fun q => poolSize s p < poolSize s q).findSome? fun q => poolTake s q).map
        fun x => (x.1, x.2.bump BPM_CNTn_COUNT 3)
    else none

/-- A read of BPM_POOLn_ALLOC: the buffer's address, or 0 with EMPTY (R294). -/
def poolAllocRead (s : State) (pool : Nat) : Nat × State :=
  if 4 ≤ pool ∨ !s.on BPM_CTRL_ENABLE then (0, s)
  else
    let s := afterRebuild s pool
    match allocRead s pool with
    | some (a, t) => (a, t)
    | none => (0, (s.set BPM_STATUS_EMPTY 1).bump BPM_CNTn_COUNT 2)

/-- BPM_POOL_ALLOC_READ. -/
def execBpmPoolAllocRead (pool : Nat) (s : State) : Host.Outcome State Fault Refusal :=
  act .buffers s fun s => let (a, t) := poolAllocRead s pool; { t with bus := .data a }

/-- BPM_FREE: a pointer returned; waiting requesters are then served (R294, R296). -/
def execBpmFree (addr : Nat) (s : State) : Host.Outcome State Fault Refusal :=
  act .buffers s fun s =>
    if !s.on BPM_CTRL_ENABLE then s
    else giveBuffers s [addr]

/-- BPM_REBUILD: every free list rebuilt from the bitmap (R297). -/
def execBpmRebuild (s : State) : Host.Outcome State Fault Refusal :=
  act .buffers s fun s =>
    if !s.on BPM_CTRL_ENABLE then s else (List.range 4).foldl startRebuild (s.set BPM_CTRL_REBUILD 1)

/-- FREE_LIST_REBUILD_DONE (R297). -/
def execFreeListRebuildDone (pool : Nat) (s : State) : Host.Outcome State Fault Refusal :=
  act .buffers s fun s => if 4 ≤ pool ∨ !s.on BPM_POOLn_STATE_REBUILDING pool then s else endRebuild s pool

/-- A read of BPM_POOLn_STATE: the register's value, after which MIN_FREE holds the present FREE (R5, R313). -/
def minFreeRead (s : State) (pool : Nat) : Nat × State :=
  (s.get BPM_POOLn_STATE_FREE pool + s.get BPM_POOLn_STATE_MIN_FREE pool * 2 ^ 32 + s.get BPM_POOLn_STATE_REBUILDING pool * 2 ^ 51,
    s.set BPM_POOLn_STATE_MIN_FREE (s.get BPM_POOLn_STATE_FREE pool) pool)

/-- MIN_FREE_READ. -/
def execMinFreeRead (pool : Nat) (s : State) : Host.Outcome State Fault Refusal :=
  act .buffers s fun s => if 4 ≤ pool then s else let (v, t) := minFreeRead s pool; { t with bus := .data v }

/-- CORRECTED_WORD_WRITEBACK: the corrected word is written back in an idle cycle; its data does not change (R299). -/
def execCorrectedWordWriteback (s : State) : Host.Outcome State Fault Refusal :=
  act .buffers s fun s => { s with bpm := { s.bpm with writeback := none } }

/-- MERGE_ENTRY_WRITEBACK: the oldest entry of an SRAM's merge buffer written (R300). -/
def execMergeEntryWriteback (sram : Nat) (s : State) : Host.Outcome State Fault Refusal :=
  act .buffers s fun s =>
    match s.bpm.merges.find? fun m => m.sram = sram with
    | some m => mergeWrite s m
    | none => s

/-- LANE_SWEEP_DONE: the sweep of a steered group ends (R302). -/
def execLaneSweepDone (group : Nat) (s : State) : Host.Outcome State Fault Refusal :=
  act .buffers s fun s =>
    if group < 39 ∧ s.on BPM_GRPg_STATE_SWEEP group then
      (s.set BPM_GRPg_STATE_SWEEP 0 group).set BPM_STATUS_SWEEP_DONE 1
    else s

end Sys2Proof.Machine
end

