-- ==== Sys2Proof/Machine/CtlCmd.lean ====
section
/-! DEFINITION. Enable, reset and shutdown of a controller (R214, R236, R237, R365, R381). -/

namespace Sys2Proof.Machine

/-- Whether CC and the admin queue registers pass the checks of R214. -/
def ccOk (s : State) (f : Nat) : Bool :=
  s.get NVME_CC_CSS f = 0 && s.get NVME_CC_MPS f ≤ 4 && s.get NVME_CC_AMS f ≤ 1
    && s.get NVME_ASQ_BASE f % pageSize s f = 0 && s.get NVME_ACQ_BASE f % pageSize s f = 0

/-- The admin queues of a controller, as its registers give them. The admin completion queue uses vector 0. -/
def adminQueues (s : State) (f : Nat) : State :=
  let s := setSq s f 0 ⟨s.get NVME_ASQ_BASE f, s.get NVME_AQA_ASQS f + 1, 0, 0, 0, 0, 0, none, none, false, false⟩
  setCq s f 0 ⟨s.get NVME_ACQ_BASE f, s.get NVME_AQA_ACQS f + 1, 0, true, 0, 0, true, []⟩

/-- Whether a controller that is enabled becomes ready now: recovery has ended and no fatal controller fault holds (R58,
R417). -/
def mayReady (s : State) : Bool := !s.on MAP_CTRL_REPLAY && !s.on FLT_FATAL_ACTIVE && s.phase = .running

/-- Whether a valid namespace entry names a key slot. -/
def slotNamed (s : State) (slot : Nat) : Bool := (List.range 4096).any fun n => s.on MAP_NSn_VALID n && nsSlot s n = slot

/-- The blobs of the key area that valid namespace entries name imported, where their slots hold no key (R269). -/
def importKeys (s : State) : State :=
  s.sys.keyArea.foldl (fun s x =>
    if keyValid s x.1 0 || keyValid s x.1 1 || !slotNamed s x.1 then s else (importSlot s x.1 x.2).1) s

/-- CSTS.RDY set, with the key slots of every namespace imported before. At the first one after a start that counted attempts,
device firmware writes a new slot table (R269, R368). -/
def setReady (s : State) (f : Nat) : State :=
  let s := (importKeys s).set NVME_CSTS_RDY 1 f
  if s.fw.attempts = 0 then s else putTable s s.fw.table

/-- The fields of CC that a write gives. -/
def setCc (s : State) (f cc : Nat) : State :=
  let s := ((s.set NVME_CC_CSS (bits cc 4 3) f).set NVME_CC_MPS (bits cc 7 4) f).set NVME_CC_AMS (bits cc 11 3) f
  let s := ((s.set NVME_CC_SHN (bits cc 14 2) f).set NVME_CC_IOSQES (bits cc 16 4) f).set NVME_CC_IOCQES (bits cc 20 4) f
  s.set NVME_CC_EN 1 f

/-- A write of CC with EN = 1 to a controller that is not enabled (R214). A controller that waits for the end of recovery
becomes ready when the write is repeated after it, or when REPLAY clears. -/
def ccEnable (s : State) (f cc : Nat) : State :=
  if 256 ≤ f then s
  else if !memOk s f 0x14 then urPosted s f
  else if s.on NVME_CC_EN f then
    if s.on NVME_CSTS_RDY f ∨ s.on NVME_CSTS_CFS f ∨ !mayReady s then s else setReady s f
  else
    let s := setCc s f cc
    if !ccOk s f ∨ s.phase = .halted then setCfs s f
    else
      let s := adminQueues s f
      let s := updPs { s with cmd := { s.cmd with stopped := s.cmd.stopped.filter (· ≠ f) } }
      if mayReady s then setReady s f else s

/-- Recovery has ended: REPLAY is cleared, a holdup failure posts its event, a holdup measurement is written, and controllers that
waited become ready (R56, R58, R393). -/
def recoveryEnds (s : State) : State :=
  let s := holdupRecovered (if s.media.backupFailed then smartEvent s 4 0 else s)
  (List.range 256).foldl (fun s f =>
    if fnPresent s f && s.on NVME_CC_EN f && !s.on NVME_CSTS_CFS f && !s.on NVME_CSTS_RDY f && mayReady s then setReady s f else s) s

def execCcEnable (f : Nat) (cc : Nat) (s : State) : Host.Outcome State Fault Refusal := actHealth .controller s fun s => ccEnable s f cc

/-- CC.EN written 0 (R236): the controller's commands and queues end, RDY, CFS and SHST clear, and a pending slot's
activation begins (R365). -/
def controllerReset (s : State) (f : Nat) : State :=
  if 256 ≤ f then s
  else if !memOk s f 0x14 then urPosted s f
  else if !s.on NVME_CC_EN f then s
  else
    let t := dropController s f
    let t := ((t.set NVME_CC_EN 0 f).set NVME_CSTS_RDY 0 f).set NVME_CSTS_CFS 0 f
    let t := updPs (updInta (t.set NVME_CSTS_SHST 0 f) f)
    if s.phase = .halted then t.set NVME_CSTS_CFS 1 f else resetActivation s t

def execControllerReset (f : Nat) (s : State) : Host.Outcome State Fault Refusal := actHealth .controller s fun s => controllerReset s f

/-- CC.SHN written (R237): fetch stops, and an abrupt shutdown drops what is not committed. -/
def shutdown (s : State) (f shn : Nat) : State :=
  if 256 ≤ f then s
  else if !memOk s f 0x14 then urPosted s f
  else if !s.on NVME_CC_EN f ∨ s.get NVME_CSTS_SHST f ≠ 0 then s
  else
    let s := stopFetch s f
    let s := if shn = 2 then dropAll s f else s
    updPs ((s.set NVME_CC_SHN shn f).set NVME_CSTS_SHST 1 f)

def execNormalShutdown (f : Nat) (s : State) : Host.Outcome State Fault Refusal := act .shutdown s fun s => shutdown s f 1
def execAbruptShutdown (f : Nat) (s : State) : Host.Outcome State Fault Refusal := act .shutdown s fun s => shutdown s f 2

/-- Whether every other controller that is present and enabled has completed its shutdown. -/
def lastShutdown (s : State) (f : Nat) : Bool :=
  (List.range 256).all fun g => g = f || !fnPresent s g || !s.on NVME_CC_EN g || s.get NVME_CSTS_SHST g = 2

/-- Whether every staged sector is programmed and its commands have ended. -/
def stagedDone (s : State) (f : Nat) : Bool :=
  (s.hbm.stg.all fun x => !x.2.staged) && (s.cmd.ctxs.all fun x => x.2.f ≠ f || x.2.tunnel.isSome || isAdmin x.2 0x0C)

/-- SHUTDOWN_COMPLETE (R52, R237): with staged data programmed, the journal is closed, by a SHUTDOWN page where this is the
last controller; when it is durable the health counters are saved and SHST reads 10b. Event requests that are outstanding
are dropped, and the last controller's end abandons suspended erases and exports every key slot (R52, R269). During a flush SHST is
not reported (R394). -/
def shutdownComplete (s : State) (f : Nat) : State :=
  if 256 ≤ f ∨ s.get NVME_CSTS_SHST f ≠ 1 ∨ !stagedDone s f ∨ s.on PWR_STATE_FLUSH_ACTIVE then s
  else if lastShutdown s f && (s.map.shutSeq = 0 || s.map.shutSeq ≠ s.map.lastClosed || s.map.page.isSome) && s.on MAP_CTRL_ENABLE then
    closeShutdown s
  else if s.map.page.isSome then updStall (closePage s false)
  else if s.map.closed ≠ [] then s
  else
    let s := if lastShutdown s f then exportKeys (dropSuspended s) else s
    updPs ((saveHealth (dropAll s f)).set NVME_CSTS_SHST 2 f)

def execShutdownComplete (f : Nat) (s : State) : Host.Outcome State Fault Refusal := act .shutdown s fun s => shutdownComplete s f

end Sys2Proof.Machine
end

