-- ==== Sys2Proof/Machine/CryCmd.lean ====
section
/-! DEFINITION. The commands of the cipher block: key commands (Table 11.2), the installation of a changeover (R266), GCM
jobs (R272, R273), the entropy source and the DRBG (R274, R275). -/

namespace Sys2Proof.Machine

/-- Result codes of CRY_KCMDn_CTL. -/
def keyOk : Nat := 0
def keyNoEntropy : Nat := 1
def keyBadArg : Nat := 4

/-- A key command ends: RESULT, DONE, GO clear. -/
def keyDone (s : State) (n result : Nat) : State :=
  ((s.set CRY_KCMDn_CTL_RESULT result n).set CRY_KCMDn_CTL_GO 0 n).set CRY_KCMDn_CTL_DONE 1 n

/-- GO of a key command: OP is written and the command runs at once, so that the commands of one slot run in the order of
their GO writes (R279). -/
def keyGo (s : State) (n op : Nat) (run : State → State × Nat) : State :=
  if 4 ≤ n ∨ !s.on CRY_CTRL_ENABLE then s
  else
    let r := run (s.set CRY_KCMDn_CTL_OP op n)
    keyDone r.1 n r.2

/-- The slot of ARG0 and the blob address of ARG1. -/
def keyArg (s : State) (n : Nat) : Nat := s.get CRY_KCMDn_ARG0_SLOT n
def keyAddr (s : State) (n : Nat) : Nat := s.get CRY_KCMDn_ARG1_ADDR n

/-- Whether a blob address is 32 B-aligned and its 160 B lie in HBM. -/
def blobAddrOk (a : Nat) : Bool := a % 32 = 0 && a + 160 ≤ hbmEnd

/-- GEN_KEY (R265). -/
def execGenKey (reg : Nat) (s : State) : Host.Outcome State Fault Refusal := act .keys s fun s =>
  keyGo s reg 1 fun s => match genKey s (keyArg s reg) with | some t => (t, keyOk) | none => (s, keyNoEntropy)

/-- ERASE (R265). -/
def execEraseKey (reg : Nat) (s : State) : Host.Outcome State Fault Refusal := act .keys s fun s =>
  keyGo s reg 2 fun s => (eraseSlot s (keyArg s reg), keyOk)

/-- RETIRE_OLD (R265). -/
def execRetireOld (reg : Nat) (s : State) : Host.Outcome State Fault Refusal := act .keys s fun s =>
  keyGo s reg 3 fun s => match retireOld s (keyArg s reg) with | some t => (t, keyOk) | none => (s, keyBadArg)

/-- EXPORT (R265): the slot's blob written to HBM. -/
def execExportKey (reg : Nat) (s : State) : Host.Outcome State Fault Refusal := act .keys s fun s =>
  keyGo s reg 4 fun s =>
    let k := keyArg s reg
    if !(keyValid s k 0 || keyValid s k 1) || !blobAddrOk (keyAddr s reg) then (s, keyBadArg)
    else (writeBytes s (keyAddr s reg) (slotBlob s k), keyOk)

/-- IMPORT (R269): a blob that HBM cannot deliver fails like one that does not authenticate. -/
def execImportKey (reg : Nat) (s : State) : Host.Outcome State Fault Refusal := act .keys s fun s =>
  keyGo s reg 5 fun s =>
    if !blobAddrOk (keyAddr s reg) then (s, keyBadArg)
    else
      let t := noteLines s (keyAddr s reg) 160
      match readBytes s (keyAddr s reg) 160 with
      | some b => importSlot t (keyArg s reg) b
      | none => (authFail t, 2)

/-- The label of a derived slot: 32 B in four words. -/
def dkLabel (s : State) (d : Nat) : List Byte :=
  ((List.range 4).flatMap fun j => natLe (s.get CRY_DKd_LABEL_LABEL d j) 8).take (s.get CRY_DKd_CFG_LABEL_LEN d)

/-- DERIVE (R271). -/
def execDeriveKey (reg : Nat) (s : State) : Host.Outcome State Fault Refusal := act .keys s fun s =>
  keyGo s reg 6 fun s =>
    let d := keyArg s reg
    let n := s.get CRY_DKd_CFG_LABEL_LEN d
    if 64 ≤ d || n = 0 || 32 < n || dkLabel s d = ascii "KEY-WRAP" then (s, keyBadArg)
    else
      let k := derive s (dkLabel s d) (s.get CRY_DKd_CFG_GEN d)
      let s := { s with cry := { s.cry with derived := tput s.cry.derived d k } }
      ((s.set CRY_DKd_CFG_STATE 1 d).set CRY_DKd_COUNT_COUNT 0 d, keyOk)

/-- DK_CLEAR (R265). -/
def execDkClear (reg : Nat) (s : State) : Host.Outcome State Fault Refusal := act .keys s fun s =>
  keyGo s reg 7 fun s =>
    let d := keyArg s reg
    if 64 ≤ d then (s, keyBadArg)
    else (({ s with cry := { s.cry with derived := tdel s.cry.derived d } }).set CRY_DKd_CFG_STATE 0 d, keyOk)

/-- CHANGEOVER_INSTALL: the fresh key of a changeover becomes the current one (R266). -/
def execChangeoverInstall (slot : Nat) (s : State) : Host.Outcome State Fault Refusal := act .keys s fun s => installKey s slot

/-! GCM jobs. -/

/-- Result codes of CRY_GCMn_CTL. -/
def gcmOk : Nat := 0
def gcmAuthFail : Nat := 1
def gcmExhausted : Nat := 2
def gcmNoKey : Nat := 3
def gcmBadArg : Nat := 4

/-- Whether `n` bytes from `a` lie in HBM or in buffer SRAM. -/
def bufferOk (a n : Nat) : Bool := decide (a + n ≤ hbmEnd) || (decide (sramBase ≤ a) && decide (a + n ≤ sramEnd))

/-- A job ends: RESULT, DONE, GO clear. -/
def gcmDone (s : State) (n result : Nat) : State :=
  ((s.set CRY_GCMn_CTL_RESULT result n).set CRY_GCMn_CTL_GO 0 n).set CRY_GCMn_CTL_DONE 1 n

/-- Parts of a job: derived slot, lengths, addresses, nonce. -/
def gcmDk (s : State) (n : Nat) : Nat := s.get CRY_GCMn_KEY_DK n
def gcmAadLen (s : State) (n : Nat) : Nat := s.get CRY_GCMn_KEY_AAD_LEN n
def gcmLen (s : State) (n : Nat) : Nat := s.get CRY_GCMn_LEN_LEN n
def gcmNonce (s : State) (n : Nat) : List Byte := natLe (s.get CRY_GCMn_NONCE_NONCE n) 12
def gcmKey (s : State) (n : Nat) : List Byte := tgetD s.cry.derived (gcmDk s n) []

/-- Whether a job's lengths and buffers are in range (R272). -/
def gcmArgsOk (s : State) (n : Nat) : Bool :=
  decide (gcmAadLen s n ≤ 4096) && decide (gcmLen s n ≤ 16777216)
    && bufferOk (s.get CRY_GCMn_AAD_ADDR n) (gcmAadLen s n) && bufferOk (s.get CRY_GCMn_IN_ADDR n) (gcmLen s n)
    && bufferOk (s.get CRY_GCMn_OUT_ADDR n) (gcmLen s n) && bufferOk (s.get CRY_GCMn_TAG_ADDR n) 16

/-- The bytes of a buffer; free ones where memory has a data error. -/
def gcmBytes (s : State) (a n : Nat) : List Byte × State :=
  match readBytes s a n with
  | some d => (d, noteLines s a n)
  | none => (noteLines s a n).freshBytes n

/-- SEAL: ciphertext and tag are written, the derived slot counts the seal (R271, R272). -/
def gcmSeal (s : State) (n : Nat) : State :=
  if s.get CRY_DKd_COUNT_COUNT (gcmDk s n) = 2 ^ 32 then
    gcmDone (s.set CRY_STATUS_GCM_EXHAUSTED 1) n gcmExhausted
  else
    let (aad, s) := gcmBytes s (s.get CRY_GCMn_AAD_ADDR n) (gcmAadLen s n)
    let (d, s) := gcmBytes s (s.get CRY_GCMn_IN_ADDR n) (gcmLen s n)
    let c := fit (Config.gcmEnc (gcmKey s n) (gcmNonce s n) aad d) (gcmLen s n)
    let t := fit (Config.gcmTag (gcmKey s n) (gcmNonce s n) aad c) 16
    let s := storeBytes (storeBytes s (s.get CRY_GCMn_OUT_ADDR n) c) (s.get CRY_GCMn_TAG_ADDR n) t
    let s := (s.bump CRY_DKd_COUNT_COUNT (gcmDk s n)).bump CRY_CNTn_COUNT 2
    gcmDone s n gcmOk

/-- OPEN: the plaintext is written where the tag matches; otherwise the output area is zeros (R273). -/
def gcmOpen (s : State) (n : Nat) : State :=
  let (aad, s) := gcmBytes s (s.get CRY_GCMn_AAD_ADDR n) (gcmAadLen s n)
  let (c, s) := gcmBytes s (s.get CRY_GCMn_IN_ADDR n) (gcmLen s n)
  let (t, s) := gcmBytes s (s.get CRY_GCMn_TAG_ADDR n) 16
  let s := s.bump CRY_CNTn_COUNT 3
  if fit (Config.gcmTag (gcmKey s n) (gcmNonce s n) aad c) 16 = t then
    gcmDone (storeBytes s (s.get CRY_GCMn_OUT_ADDR n) (fit (Config.gcmDec (gcmKey s n) (gcmNonce s n) aad c) (gcmLen s n))) n gcmOk
  else
    let s := storeBytes s (s.get CRY_GCMn_OUT_ADDR n) (List.replicate (gcmLen s n) 0)
    gcmDone (authFail s) n gcmAuthFail

/-- GO of a GCM job slot: lengths and buffers are checked, then the derived key (R272). -/
def gcmGo (s : State) (n op : Nat) (run : State → Nat → State) : State :=
  if 16 ≤ n ∨ !s.on CRY_CTRL_ENABLE then s
  else
    let s := s.set CRY_GCMn_CTL_OP op n
    if !gcmArgsOk s n then gcmDone s n gcmBadArg
    else if s.get CRY_DKd_CFG_STATE (gcmDk s n) = 0 then gcmDone s n gcmNoKey
    else run s n

/-- SEAL (R272). -/
def execSealJob (job : Nat) (s : State) : Host.Outcome State Fault Refusal := act .sealing s fun s => gcmGo s job 1 gcmSeal

/-- OPEN (R273). -/
def execOpenJob (job : Nat) (s : State) : Host.Outcome State Fault Refusal := act .sealing s fun s => gcmGo s job 2 gcmOpen

/-! Entropy. -/

/-- CRY_ENT.OK reads 0 from now on. -/
def entropyLost (s : State) : State :=
  if s.on CRY_ENT_OK then { s.set CRY_ENT_OK 0 with cry := { s.cry with entLostUs := s.timeUs } } else s

/-- An event of the entropy source: a lasting declaration holds OK at 0 until CRY is reset (Table 19.4). -/
def entropyEvent (s : State) (code data : Nat) : State :=
  let (s, lasting) := fltElem s elemEntropy code data false
  if lasting then let s := entropyLost s; { s with cry := { s.cry with entHeld := true } } else s

/-- ENTROPY_HEALTH_FAIL: test 0 is the repetition count, any other the adaptive proportion (R275). -/
def execEntropyHealthFail (test : Nat) (s : State) : Host.Outcome State Fault Refusal := act .entropy s fun s =>
  let s := entropyLost (s.set CRY_STATUS_ENTROPY_FAIL 1)
  let s := if test = 0 then s.bump CRY_ENT_RCT_CNT else s.bump CRY_ENT_APT_CNT
  entropyEvent s (if test = 0 then 1 else 2) 0

/-- Slots whose changeover waited for entropy (R267): HELD, no old generation, and the limit reached. -/
def heldSlots (s : State) : List Nat :=
  (keyedSlots s).filter fun k =>
    s.on CRY_SLOTs_STATE_HELD k && !s.on CRY_SLOTs_STATE_OLD_VALID k

/-- ENTROPY_RECOVERY: 1,024 consecutive samples passed; changeovers that waited for entropy start (R267, R275). -/
def execEntropyRecovery (s : State) : Host.Outcome State Fault Refusal := act .keys s fun s =>
  if s.cry.entHeld then s else (heldSlots s).foldl limitCheck (s.set CRY_ENT_OK 1)

/-- Generate requests after which the DRBG is reseeded (R274). -/
def drbgLimit : Nat := 2 ^ 20

/-- DRBG_RESEED: after 2^20 generate requests their count starts again (R274). Masks are not visible. -/
def execDrbgReseed (s : State) : Host.Outcome State Fault Refusal := act .keys s fun s =>
  if s.cry.drbgReqs < drbgLimit then s else { s with cry := { s.cry with drbgReqs := 0 } }

end Sys2Proof.Machine
end

