-- ==== Sys2Proof/Machine/CprCmd.lean ====
section
/-! DEFINITION. The commands of the compression block: job slots (R288 to R290), loadable tables (R291), and the host's
Compress and Decompress (R257). -/

namespace Sys2Proof.Machine

/-- Result codes of CPR_JOBn_CTL. -/
def cprOk : Nat := 0
def cprNotSmaller : Nat := 1
def cprVerifyFail : Nat := 2
def cprDstSmall : Nat := 3
def cprBadArg : Nat := 4
def cprInvalid : Nat := 5
def cprMismatch : Nat := 6
def cprDataErr : Nat := 7
def cprNoEngine : Nat := 8

/-- The lengths in loadable table `t`, and the tables whose VALID is 1 (R291). -/
def ltabLens (s : State) (t : Nat) : List Nat := (List.range 78).map fun k =>
  if k < 64 then s.get CPR_LTABt_W_LEN t (k / 16) / 16 ^ (k % 16) % 16 else s.get CPR_LTABt_W4_LEN t / 16 ^ (k - 64) % 16
def loadTables (s : State) : List CprTable :=
  ((List.range 8).filter fun t => s.on CPR_LTABt_W4_VALID t).map fun t => ⟨1, t, ltabLens s t⟩

/-- Whether some slot has GO = 1, so that tables are fixed (R291). -/
def cprBusy (s : State) : Bool := (List.range 16).any fun n => s.on CPR_JOBn_CTL_GO n

/-- Whether engine `e` is disabled (R290). -/
def engineOff (s : State) (e : Nat) : Bool := bits (s.get CPR_ENG_OFF) e 1 = 1

/-- Whether a slot has an engine that it may use (R288, R289). -/
def hasEngine (s : State) (n : Nat) : Bool :=
  (List.range 4).any fun e => !engineOff s e && bits (s.get CPR_JOBn_CTL_AVOID n) e 1 = 0

/-- Parts of a slot. -/
def cprSrc (s : State) (n : Nat) : Nat := s.get CPR_JOBn_SRC_ADDR n
def cprDst (s : State) (n : Nat) : Nat := s.get CPR_JOBn_DST_ADDR n
def cprSrcLen (s : State) (n : Nat) : Nat := s.get CPR_JOBn_LEN_SRC_LEN n
def cprDstLen (s : State) (n : Nat) : Nat := s.get CPR_JOBn_LEN_DST_LEN n

/-- Whether a job's arguments are in range (R289). -/
def cprArgsOk (s : State) (n : Nat) : Bool :=
  let a := cprSrc s n
  let b := cprDst s n
  let x := cprSrcLen s n
  let y := cprDstLen s n
  decide (1 ≤ x) && decide (x ≤ 1048576) && decide (1 ≤ y) && decide (y ≤ 1048576) && bufferOk a x && bufferOk b y
    && (decide (a + x ≤ b) || decide (b + y ≤ a))
    && !(s.get CPR_JOBn_CTL_OP n = 1 && s.get CPR_JOBn_CTL_ROWLEN n ≠ 0 && decide (x < 2 ^ s.get CPR_JOBn_CTL_WIDTH n))

/-- The event counters and status bits of a result (R292). -/
def cprCount (s : State) (op src out result : Nat) : State :=
  if result = cprOk then
    if op = 1 then (s.bump CPR_CNTn_COUNT 0 src).bump CPR_CNTn_COUNT 1 out else s.bump CPR_CNTn_COUNT 2 out
  else if result = cprNotSmaller then s.bump CPR_CNTn_COUNT 3
  else if result = cprVerifyFail then (s.set CPR_STATUS_VERIFY_FAIL 1).bump CPR_CNTn_COUNT 4
  else if result = cprInvalid ∨ result = cprMismatch then (s.set CPR_STATUS_INVALID 1).bump CPR_CNTn_COUNT 5
  else if result = cprDataErr then s.set CPR_STATUS_DATA_ERR 1
  else s

/-- A slot ends: RESULT, DONE, GO clear, OUT_LEN. On any result but OK the destination is undefined (R289): it takes free
bytes where it lies in memory. -/
def cprDone (s : State) (n result : Nat) (out : List Byte) : State :=
  let s := cprCount s (s.get CPR_JOBn_CTL_OP n) (cprSrcLen s n) out.length result
  let s :=
    if result = cprOk then storeBytes s (cprDst s n) out
    else if bufferOk (cprDst s n) (cprDstLen s n) && decide (cprDstLen s n ≤ 1048576) then
      (let r := s.freshBytes (cprDstLen s n)
       storeBytes r.2 (cprDst s n) r.1)
    else s
  let s := if result = cprOk then s.set CPR_JOBn_OUT_OUT_LEN out.length n else s
  ((s.set CPR_JOBn_CTL_RESULT result n).set CPR_JOBn_CTL_GO 0 n).set CPR_JOBn_CTL_DONE 1 n

/-- Waiting slots that have no engine left end NO_ENGINE. -/
def dropNoEngine (s : State) : State :=
  let l := s.cpr.waiting.filter fun n => !hasEngine s n
  let s := { s with cpr := { s.cpr with waiting := s.cpr.waiting.filter fun n => !l.contains n } }
  l.foldl (fun s n => cprDone s n cprNoEngine []) s

/-- GO of a job slot (R288): arguments are checked, and the slot waits for an engine. -/
def cprGo (s : State) (n op : Nat) : State :=
  if 16 ≤ n ∨ s.on CPR_JOBn_CTL_GO n ∨ !s.on CPR_CTRL_ENABLE then s
  else
    let s := (s.set CPR_JOBn_CTL_OP op n).set CPR_JOBn_CTL_GO 1 n
    if !cprArgsOk s n then cprDone s n cprBadArg []
    else if !hasEngine s n then cprDone s n cprNoEngine []
    else { s with cpr := { s.cpr with waiting := s.cpr.waiting ++ [n] } }

/-- COMPRESS_JOB (R288). -/
def execCompressJob (slot : Nat) (s : State) : Host.Outcome State Fault Refusal := act .compression s fun s => cprGo s slot 1

/-- DECOMPRESS_JOB (R288). -/
def execDecompressJob (slot : Nat) (s : State) : Host.Outcome State Fault Refusal := act .compression s fun s => cprGo s slot 2

/-- The waiting slot that engine `e` takes: PRIO first, each in the order of the GO writes, never one that avoids it. -/
def nextJob (s : State) (e : Nat) : Option Nat :=
  let l := s.cpr.waiting.filter fun n => bits (s.get CPR_JOBn_CTL_AVOID n) e 1 = 0
  match l.find? fun n => s.on CPR_JOBn_CTL_PRIO n with
  | some n => some n
  | none => l.head?

/-- CPR_JOB_START (R288). -/
def execCprJobStart (engine : Nat) (s : State) : Host.Outcome State Fault Refusal := act .compression s fun s =>
  if 4 ≤ engine ∨ !s.on CPR_CTRL_ENABLE ∨ engineOff s engine ∨ (tget s.cpr.running engine).isSome then s
  else
    match nextJob s engine with
    | none => s
    | some n =>
      let s := { s with cpr := ⟨s.cpr.waiting.filter (· ≠ n), tput s.cpr.running engine n⟩ }
      (s.set CPR_ENG_BUSY (setBits (s.get CPR_ENG_BUSY) engine 1 1)).set CPR_JOBn_CTL_ENGINE engine n

/-- The outcome of a compression: NOT_SMALLER, DST_SMALL, VERIFY_FAIL or OK (R289). The output reaches the shorter of the two
lengths first. -/
def compressResult (blk : List Byte) (src dst : Nat) (verifyOk : Bool) : Nat :=
  if dst < src ∧ dst < blk.length then cprDstSmall
  else if src ≤ blk.length then cprNotSmaller
  else if !verifyOk then cprVerifyFail
  else cprOk

/-- The outcome of a decompression, with its bytes. -/
def decompressResult (s : State) (src : List Byte) (dst : Nat) : Nat × List Byte :=
  if cprHeadOk src ∧ dst < leAt src 8 4 then (cprDstSmall, [])
  else
    match cprDecode (loadTables s) (s.get CPR_TABSET_TAG) src with
    | .ok d => (cprOk, d)
    | .error .invalid => (cprInvalid, [])
    | .error .mismatch => (cprMismatch, [])

/-- An event of an engine, which is disabled when the fault is lasting (R290). -/
def engineEvent (s : State) (e code data : Nat) : State :=
  let (s, lasting) := fltElem s (elemEngine e) code data false
  if lasting then
    dropNoEngine ((s.set CPR_ENG_OFF (setBits (s.get CPR_ENG_OFF) e 1 1)).set CPR_STATUS_ENG_OFF 1)
  else s

/-- A verify failure of an engine. -/
def verifyEvent (s : State) (e : Nat) : State := engineEvent s e 1 0

/-- The result of a slot's job and its output; `verifyOk` says whether the engine's own decompression matched. -/
def jobResult (s : State) (n : Nat) (verifyOk : Bool) : Nat × List Byte :=
  match readBytes s (cprSrc s n) (cprSrcLen s n) with
  | none => (cprDataErr, [])
  | some d =>
    if s.get CPR_JOBn_CTL_OP n = 1 then
      let b := cprEncode (s.get CPR_JOBn_CTL_WIDTH n) (s.get CPR_JOBn_CTL_EFFORT n) (s.get CPR_JOBn_CTL_ROWLEN n) (loadTables s)
        (s.get CPR_TABSET_TAG) d
      (compressResult b (cprSrcLen s n) (cprDstLen s n) verifyOk, b)
    else decompressResult s d (cprDstLen s n)

/-- CPR_JOB_END: the job on an engine ends with the first result that applies (R289). -/
def execCprJobEnd (engine : Nat) (verifyOk : Bool) (s : State) : Host.Outcome State Fault Refusal := act .compressionEnd s fun s =>
  match tget s.cpr.running engine with
  | none => s
  | some n =>
    let s := { s with cpr := { s.cpr with running := tdel s.cpr.running engine } }
    let s := s.set CPR_ENG_BUSY (setBits (s.get CPR_ENG_BUSY) engine 1 0)
    let r := jobResult s n verifyOk
    let s := noteLines s (cprSrc s n) (cprSrcLen s n)
    let s := cprDone s n r.1 r.2
    if r.1 = cprVerifyFail then verifyEvent s engine else s

/-- LOADABLE_TABLE_VALID: VALID of a table written to 1 (R291). -/
def execLoadableTableValid (t : Nat) (s : State) : Host.Outcome State Fault Refusal := act .compression s fun s =>
  if 8 ≤ t then s
  else if cprBusy s then s.set CPR_STATUS_LTAB_IGN 1
  else if tableOk (ltabLens s t) then s.set CPR_LTABt_W4_VALID 1 t
  else (s.set CPR_LTABt_W4_VALID 0 t).set CPR_STATUS_TAB_INVALID 1

/-! Compress and Decompress (R257). -/

/-- The lowest engine that is not disabled. -/
def anyEngine (s : State) : Option Nat := (List.range 4).find? fun e => !engineOff s e

/-- A host command that the engines serve: Internal Error when all four are disabled (R416). It waits while CPR is not
enabled. -/
def cprHost (s : State) (c op : Nat) (g : State → Ctx → Nat → State) : State :=
  if !s.on CPR_CTRL_ENABLE then s
  else fwRun s c true op fun s x => match anyEngine s with | some e => g s x e | none => fwPost s c stInternal 0 0

/-- COMPRESS: `src` is the source buffer of the host. No byte of the destination is written on an error (R257). -/
def execCompress (ctx : Nat) (src : List Byte) (verifyOk : Bool) (s : State) : Host.Outcome State Fault Refusal := act .hostCompress s fun s =>
  cprHost s ctx 0x8B fun s x e =>
    let n := x.sqe.cdw12
    let b := cprEncode (x.sqe.cdw10 % 4) (bits x.sqe.cdw10 2 2) (bits x.sqe.cdw10 4 12) (loadTables s) (s.get CPR_TABSET_TAG)
      (fit src n)
    let r := if bits x.sqe.cdw10 4 12 ≠ 0 ∧ n < 2 ^ (x.sqe.cdw10 % 4) then cprBadArg else compressResult b n x.sqe.cdw13 verifyOk
    let s := cprCount s 1 n b.length r
    if r = cprOk then fwPost (fwData s x ctx 0 b) ctx 0 b.length 0
    else if r = cprNotSmaller then fwPost s ctx stNotSmaller n 0
    else if r = cprDstSmall then fwPost s ctx stDstTooSmall 0 0
    else if r = cprVerifyFail then fwPost (verifyEvent s e) ctx stVerifyFailed 0 0
    else fwPost s ctx stInvalidField 0 0

/-- DECOMPRESS. -/
def execDecompress (ctx : Nat) (src : List Byte) (s : State) : Host.Outcome State Fault Refusal := act .hostCompress s fun s =>
  cprHost s ctx 0x8F fun s x _ =>
    let r := decompressResult s (fit src x.sqe.cdw12) x.sqe.cdw13
    let s := cprCount s 2 x.sqe.cdw12 r.2.length r.1
    if r.1 = cprOk then fwPost (fwData s x ctx 0 r.2) ctx 0 r.2.length 0
    else if r.1 = cprDstSmall then fwPost s ctx stDstTooSmall 0 0
    else fwPost s ctx stCompInvalid 0 0

end Sys2Proof.Machine
end

