-- ==== Sys2Proof/Machine/RangeCmd.lean ====
section
/-! DEFINITION. The I/O commands that device firmware executes, but for compression: Write Zeroes, Write Uncorrectable,
Dataset Management, Copy, I/O Management, Burrow Advise and Secure Deallocate (R155, R181, R182, R246 to R256). -/

namespace Sys2Proof.Machine

/-- Write Zeroes and Write Uncorrectable (R247). -/
def execWriteZeroes (ctx : Nat) (s : State) : Host.Outcome State Fault Refusal := act .io s fun s =>
  fwRun s ctx true 0x08 fun s x => rangeCommand s ctx x .dealloc
def execWriteUncorrectable (ctx : Nat) (s : State) : Host.Outcome State Fault Refusal := act .io s fun s =>
  fwRun s ctx true 0x04 fun s x => rangeCommand s ctx x .lost

/-! Dataset Management (R248). -/

/-- Whether a range lies within a namespace, and whether it touches a locked one. -/
def rangeFits (s : State) (ns slba n : Nat) : Bool := slba + n ≤ nsSize s ns
def rangeLocked (s : State) (ns slba n : Nat) (write : Bool) : Bool :=
  let (a, k) := rangeSecs s ns slba n
  opalLocked s ns a k write

/-- The segments that a range touches: run and segment. -/
def rangeSegs (s : State) (ns slba n : Nat) : List (Nat × Nat) :=
  let (a, k) := rangeSecs s ns slba n
  if k = 0 then [] else segSpan (nsBase s ns + a / 512) (a % 512 / 16) ((a + k + 15) / 16 - a / 16)

/-- The effect of an access frequency on a range (Table 7.4). -/
def hintRange (s : State) (ns : Nat) (r : DsmRange) : State :=
  let h := bits r.attrs 0 4
  if h = 3 ∨ h = 5 then
    (rangeSegs s ns r.slba r.len).foldl (fun s y => sketchRaise s y.1 y.2 (s.get BUR_ADMIT_THRESH)) s
  else if h = 2 ∨ h = 6 then (rangeSegs s ns r.slba r.len).foldl (fun s y => coolSeg s y.1 y.2) s
  else s

/-- The ranges of a list command: NR of them. -/
def cmdRanges (x : Ctx) (l : List DsmRange) : List DsmRange := l.take (bits x.sqe.cdw10 0 8 + 1)

/-- A status for a list of ranges that is not admitted, 0 when it is. -/
def rangesStatus (s : State) (ns : Nat) (l : List DsmRange) (write : Bool) : Nat :=
  if l.any fun r => !rangeFits s ns r.slba r.len then stLbaRange
  else if write && l.any fun r => rangeLocked s ns r.slba r.len true then stDeniedDnr
  else 0

/-- Dataset Management: ranges in list order, each one piece; the Burrow hint of a range, then its deallocation. -/
def dsmPiece (c ns : Nat) (dealloc : Bool) (s : State) (r : DsmRange) : State × PieceStep :=
  let s := if s.on BUR_CTRL_ENABLE then hintRange s ns r else s
  if dealloc then zeroPiece c ns .dealloc s ⟨r.slba, r.len⟩ else (s, .done)

def dsm (s : State) (c : Nat) (x : Ctx) (l : List DsmRange) : State :=
  let ns := cmdNs x
  let l := cmdRanges x l
  let ad := bits x.sqe.cdw11 2 1 = 1
  let st := if 256 ≤ x.sqe.cdw10 ∨ 8 ≤ x.sqe.cdw11 then stInvalidField else rangesStatus s ns l ad
  if x.dw1 = 0 ∧ !x.started ∧ (ctxRecs x).isEmpty ∧ st ≠ 0 then fwPost s c st 0 0
  else
    let fin (s : State) : State := fwPost s c 0 0 0
    let ps := l.map fun r => (if ad then some (exclRec s ns ⟨r.slba, r.len⟩) else none, (none : Option LockRec), r)
    pieceLoop (dsmPiece c ns ad) (if ad then .asWrite else .now) fin s c (ps.drop x.dw1)

def execDatasetManagement (ctx : Nat) (ranges : List DsmRange) (s : State) : Host.Outcome State Fault Refusal := act .io s fun s =>
  fwRun s ctx true 0x09 fun s x => dsm s ctx x ranges

/-! Copy (R246). -/

/-- Blocks that a Copy moves, and the status of one that is not admitted: descriptor format 0h only, at most 128 ranges of at
most 65,535 blocks and 1,048,575 in all, inside the namespace, none of them locked. -/
def copyTotal (l : List CopyDesc) : Nat := (l.map fun d => d.nlb + 1).foldl (· + ·) 0
def stCopySize : Nat := 0x183
def copyRefusal (s : State) (x : Ctx) (l : List CopyDesc) : Nat :=
  let ns := cmdNs x
  if bits x.sqe.cdw12 8 4 ≠ 0 then stInvalidField
  else if 127 < bits x.sqe.cdw12 0 8 ∨ l.any (fun d => 65535 < d.nlb + 1) = true ∨ 1048575 < copyTotal l then stCopySize
  else if !rangeFits s ns (cmdSlba x) (copyTotal l) ∨ l.any (fun d => !rangeFits s ns d.slba (d.nlb + 1)) = true then stLbaRange
  else if rangeLocked s ns (cmdSlba x) (copyTotal l) true ∨ l.any (fun d => rangeLocked s ns d.slba (d.nlb + 1) false) = true then
    stDeniedDnr
  else if (writeHandle s x).isNone then stPlacementHandle
  else 0

def copyCommand (s : State) (c : Nat) (x : Ctx) (l : List CopyDesc) : State :=
  let ns := cmdNs x
  let l := l.take (bits x.sqe.cdw12 0 8 + 1)
  let st := copyRefusal s x l
  if x.dw1 = 0 ∧ !x.started ∧ (ctxRecs x).isEmpty ∧ st ≠ 0 then fwPost s c st 0 0
  else
    let fin (s : State) : State := fwPost s c 0 0 0
    let ps := (copyPieces (pieceBlocks s ns) l (cmdSlba x) 0 0).map (copyRecs s ns)
    pieceLoop (copyPiece c ns) .asWrite fin s c (ps.drop x.dw1)

/-- Firmware runs a Copy again while its pieces end, also after a merge or a read has failed. -/
def execCopy (ctx : Nat) (descs : List CopyDesc) (s : State) : Host.Outcome State Fault Refusal := act .io s fun s =>
  fwRun s ctx true 0x19 fun s x => copyCommand s ctx x descs

/-! Placement (R252). -/

def execIoManagementSend (ctx : Nat) (phs : List Nat) (s : State) : Host.Outcome State Fault Refusal := act .placement s fun s =>
  fwRun s ctx true 0x1D fun s x => ioMgmtSend s ctx x phs
def execIoManagementReceive (ctx : Nat) (s : State) : Host.Outcome State Fault Refusal := act .placement s fun s =>
  fwRun s ctx true 0x12 fun s x => ioMgmtReceive s ctx x

/-! Burrow Advise (R182, R255). -/

/-- Blocks of a Burrow Advise, and its segments. -/
def adviseNlb (x : Ctx) : Nat := x.sqe.cdw12 + 1
def adviseSegs (s : State) (x : Ctx) : List (Nat × Nat) := rangeSegs s (cmdNs x) (cmdSlba x) (adviseNlb x)

/-- Number of segments of a Burrow Advise. -/
def adviseCount (s : State) (x : Ctx) : Nat :=
  let (a, k) := rangeSecs s (cmdNs x) (cmdSlba x) (adviseNlb x)
  (a + k + 15) / 16 - a / 16

/-- The status of a Burrow Advise that does not run. -/
def adviseStatus (s : State) (x : Ctx) : Nat :=
  if 1048576 < adviseCount s x then stInvalidField
  else if !rangeFits s (cmdNs x) (cmdSlba x) (adviseNlb x) then stLbaRange
  else if rangeLocked s (cmdNs x) (cmdSlba x) (adviseNlb x) false then stDeniedDnr
  else if !s.on BUR_CTRL_ENABLE ∨ fmtPi (nsFmt s (cmdNs x)) then stBurrowNotAvailable
  else 0

/-- Whether a segment of a list still fills. -/
def fillsLeft (s : State) (l : List (Nat × Nat)) : Bool := s.bur.fills.any fun f => l.contains (f.2.run, f.2.seg)

/-- What a Burrow Advise answers once no segment fills: a pin's number is that of the segments whose fills have ended pinned (R182). -/
def adviseEnd (s : State) (c : Nat) (x : Ctx) : State :=
  match tget s.bur.pinWait (8 + c) with
  | some w =>
    fwPost { s with bur := { s.bur with pinWait := tdel s.bur.pinWait (8 + c) } } c (if w.short then stPinLimit else 0) w.count 0
  | none => fwPost s c x.dw1 x.dw0 0

/-- A Burrow Advise: `g` acts on the segments once and answers their number and a status; the command completes when none of
them still fills. -/
def advise (s : State) (c act_ : Nat) (g : State → List (Nat × Nat) → Nat × Nat × State) : State :=
  fwRun s c true 0x84 fun s x =>
    if bits x.sqe.cdw13 0 4 ≠ act_ then s
    else if !x.started ∧ adviseStatus s x ≠ 0 then fwPost s c (adviseStatus s x) 0 0
    else
      let l := adviseSegs s x
      let (x, s) := if x.started then (x, s)
        else
          let (n, st, s) := g s l
          let y := { x with started := true, dw0 := n, dw1 := st }
          (y, setCtx s c y)
      if fillsLeft s l then s else adviseEnd s c x

def execBurrowAdvisePrefetch (ctx : Nat) (s : State) : Host.Outcome State Fault Refusal := act .io s fun s =>
  advise s ctx 0 fun s l => let (n, t) := prefetchAll s l; (n, 0, t)
def execBurrowAdvisePin (ctx : Nat) (s : State) : Host.Outcome State Fault Refusal := act .io s fun s =>
  advise s ctx 1 fun s l => (0, 0, pinBegin s (8 + ctx) l)
def execBurrowAdviseUnpin (ctx : Nat) (s : State) : Host.Outcome State Fault Refusal := act .merge s fun s =>
  advise s ctx 2 fun s l => let (n, t) := unpinAll s l; (n, 0, t)

/-! Secure Deallocate (R155, R256). -/

/-- Stripes in the open or closed state: those that may hold data written before (log entry 31). -/
def stripesInUse (s : State) : List Nat := (List.range (s.get MAP_STRIPE_COUNT_COUNT)).filter fun st => usedHdr (stripeHdr s st)

/-- Stripes that may hold data of some runs, by their signatures (R155). -/
def signedStripes (s : State) (runs : List Nat) : List Nat := (stripesInUse s).filter fun st => runs.any (inSignature s st)

/-- The runs that ranges of a namespace touch, each from a sector to below another. -/
def rangeRuns (s : State) (ns : Nat) (l : List (Nat × Nat)) : List Nat :=
  uniq (l.flatMap fun y => (nsSpans s ns y.1 y.2).map fun z => z.1)

/-- The request recorded at the end of phase 1; its identifier is DW0. -/
def secRecord (s : State) (c ns : Nat) (runs : List Nat) : State :=
  let id := s.nvm.secNext
  let l := signedStripes s runs
  let r : SecReq := ⟨id, ns, 0, l, l.length, 0, 0, pohHours s⟩
  fwPost { s with nvm := { s.nvm with secReqs := r :: s.nvm.secReqs, secNext := id + 1 } } c 0 id 0

/-- Requests in phase 2. -/
def secActive (s : State) : Nat := (s.nvm.secReqs.filter fun r => r.state ≤ 1).length

def secureDeallocate (s : State) (c : Nat) (x : Ctx) (l : List DsmRange) : State :=
  let ns := cmdNs x
  let l := cmdRanges x l
  let st := if 64 ≤ secActive s then stSecQueueFull else rangesStatus s ns l true
  if x.dw1 = 0 ∧ !x.started ∧ (ctxRecs x).isEmpty ∧ st ≠ 0 then fwPost s c st 0 0
  else
    let fin (s : State) : State := secRecord s c ns (rangeRuns s ns ((l.filter fun r => r.len ≠ 0).map fun r => (lbaSector s ns r.slba, lbaSector s ns (r.slba + r.len - 1) + 1)))
    pieceLoop (zeroPiece c ns .secure) .always fin s c ((exclPieces s ns (l.map fun r => ⟨r.slba, r.len⟩)).drop x.dw1)

def execSecureDeallocate (ctx : Nat) (ranges : List DsmRange) (s : State) : Host.Outcome State Fault Refusal := act .io s fun s =>
  fwRun s ctx true 0x85 fun s x => secureDeallocate s ctx x ranges

end Sys2Proof.Machine
end

