-- ==== Sys2Proof/Machine/SanCmd.lean ====
section
/-! DEFINITION. Format NVM and Sanitize (R278, R370 to R377). -/

namespace Sys2Proof.Machine

/-! Crypto-erase (R278). -/

/-- Device firmware's jobs that meet a test stopped: their slots are no longer its own. -/
def dropJobs (s : State) (p : CopyJob → Bool) : State :=
  let keep (j : Option CopyJob) : Option CopyJob := j.filter fun x => !p x
  let colls := s.media.colls.map fun x => (x.1, { x.2 with job := keep x.2.job })
  { s with media := { s.media with colls := colls, refreshJob := keep s.media.refreshJob } }

/-- Migration and copies of a key slot stopped; the records of its progress are void (R278). -/
def stopSlot (s : State) (slot : Nat) : State :=
  let s := dropJobs s fun j => j.items.any fun x => nsSlot s x.ns = slot
  { s with media := { s.media with migr := tdel s.media.migr slot, migrAt := s.media.migrAt.filter fun x => nsSlot s x.1 ≠ slot } }

/-- Steps 1 to 3 of a crypto-erase: a new key, its blob in place of every earlier one. None without entropy. -/
def cryptoErase (s : State) (slot : Nat) : Option State := (genKey (stopSlot s slot) slot).map fun s => saveKey s slot

/-! Format (R370, R371). -/

/-- A SANITIZE_PROGRESS record (R371). -/
def progressRec (op ns phase v : Nat) : JRec := ⟨0x0C, 0, op + ns * 2 ^ 4 + phase * 2 ^ 16, v⟩

def setFmt (s : State) (r : FmtRun) : State :=
  { s with fw := { s.fw with formats := s.fw.formats.map fun x => if x.ns = r.ns then r else x } }

/-- A phase of a Format entered, with its record. -/
def fmtPhase (s : State) (r : FmtRun) (p : Nat) : State := setFmt (appendFw s (progressRec 3 r.ns p 0)) { r with phase := p, done := 0 }

/-- Runs of a namespace cleared from where the Format stands, while the journal has room. -/
def fmtWipe (s : State) (r : FmtRun) : State :=
  (List.range (nsRuns s r.ns - r.done)).foldl (fun s _ =>
    match s.fw.formats.find? fun x => x.ns = r.ns with
    | some y => if mayUpdate s 3 then setFmt (wipeRun s (nsBase s r.ns + y.done)) { y with done := y.done + 1 } else s
    | none => s) s

/-- The new geometry of a namespace: its capacity in bytes is kept, and VALID is written to 0 before the entry changes (R61,
R370). -/
def fmtGeometry (s : State) (r : FmtRun) : State :=
  match nsInfo s r.ns with
  | none => s
  | some i =>
    let base := nsBase s r.ns
    let count := nsRuns s r.ns
    let slot := nsSlot s r.ns
    let s := putNs (putNs s r.ns base count slot i.fmt false) r.ns base count slot r.fmt true
    recountSpare (setNsInfo s r.ns { i with nsze := i.nsze * fmtLba i.fmt / fmtLba r.fmt, fmt := r.fmt, ext := r.ext, dps := r.dps })


/-- One phase of a Format, and whether it has ended: 0 begun, 1 crypto-erase, 2 runs cleared, 3 new geometry, 4 stripes
that held data of the namespace collected after a block erase, by their signatures (R155), 5 the completion record waited for. -/
def fmtStep (s : State) (n : Nat) : State × Bool :=
  match s.fw.formats.find? fun r => r.ns = n with
  | none => (s, true)
  | some r =>
    if !mayUpdate s 4 then (s, false)
    else if r.phase = 0 then (fmtPhase (invalRuns s (nsBase s n) (nsRuns s n)) r (if r.ses = 0 then 2 else 1), false)
    else if r.phase = 1 then
      (match cryptoErase s (nsSlot s n) with
        | none => (s, false)
        | some s => (fmtPhase s r 2, false))
    else if r.phase = 2 then
      (match (fmtWipe s r).fw.formats.find? fun y => y.ns = n with
        | some y => (if nsRuns s n ≤ y.done then fmtPhase (fmtWipe s r) y 3 else fmtWipe s r, false)
        | none => (s, true))
    else if r.phase = 3 then
      (fmtPhase (fmtGeometry s r) r 4, false)
    else if r.phase = 4 then
      (if r.done = 0 then setFmt s { r with done := 1, todo := if r.ses = 1 then signedStripes s (nsRunList s n) else [] }
        else if r.todo = [] then fmtPhase s r 5 else eraseTurn s r.todo .secure, false)
    else if r.phase = 5 then
      (if r.done = 0 then (setFmt (appendFw s (progressRec 3 n 15 0)) { r with done := 1 }, false)
      else
        let s := kickDurable s
        if allDurable s then ({ s with fw := { s.fw with formats := s.fw.formats.filter fun y => y.ns ≠ n } }, true) else (s, false))
    else (s, true)

/-- A turn of a Format: as many phases as can be done now. -/
def fmtTurn (s : State) (n : Nat) : State × Bool :=
  (List.range 8).foldl (fun x _ => if x.2 then x else fmtStep x.1 n) (s, false)

/-- One namespace of a Format command under its whole-namespace lock. -/
def fmtPiece (x : Ctx) (s : State) (n : Nat) : State × PieceStep :=
  let d := x.sqe.cdw10
  let s := if s.fw.formats.any fun r => r.ns = n then s
    else { s with fw := { s.fw with formats := s.fw.formats ++ [⟨n, bits d 0 4, bits d 4 1 = 1, bits d 5 3, bits d 9 3, 0, 0, []⟩] } }
  let (s, ok) := fmtTurn s n
  (s, if ok then .done else .wait)

/-- The status of a Format whose fields are not admitted, 0 when they are. -/
def fmtStatus (x : Ctx) : Nat :=
  let d := x.sqe.cdw10
  if 3 ≤ bits d 9 3 then stInvalidField
  else if 5 < bits d 0 4 + bits d 12 2 * 16 ∨ bits d 8 1 = 1 ∨ !dpsOk (bits d 0 4) (bits d 5 3) then stInvalidFormat
  else 0

/-- Format NVM, by one of its three rows. -/
def formatNs (s : State) (c : Nat) (x : Ctx) : State :=
  let l := if x.sqe.nsid = 0xFFFFFFFF then s.nvm.ns.map Prod.fst
    else if x.sqe.nsid ≠ 0 ∧ (nsInfo s (x.sqe.nsid - 1)).isSome then [x.sqe.nsid - 1] else []
  if fmtStatus x ≠ 0 then fwPost s c (fmtStatus x) 0 0
  else if l = [] ∧ x.sqe.nsid ≠ 0xFFFFFFFF then fwPost s c stInvalidNs 0 0
  else
    let fin (s : State) : State := fwPost s c 0 0 0
    pieceLoop (fmtPiece x) .now fin s c ((l.map fun n => (some (wholeRec n), none, n)).drop x.dw1)

/-- A Format that no command drives any more goes on, after a start or a lost command (R371). -/
def resumeFormat (s : State) : State :=
  match s.fw.formats.find? fun r => !(s.cmd.ctxs.any fun y => isAdmin y.2 0x80 && y.2.stage = .taken && (ctxRecs y.2).any fun k => k.ns = r.ns) with
  | some r => (fmtTurn s r.ns).1
  | none => s

/-- The row of a Format for one SES: a context that holds no Format lets an interrupted one go on. -/
def formatRow (s : State) (c : Nat) (mine : Nat → Bool) : State :=
  match ctxOf s c with
  | some x =>
    if isAdmin x 0x80 then fwRun s c false 0x80 fun s x => if mine (bits x.sqe.cdw10 9 3) then formatNs s c x else s
    else resumeFormat s
  | none => resumeFormat s

def execFormatNvm (ctx : Nat) (s : State) : Host.Outcome State Fault Refusal := actTurn .format s fun s =>
  formatRow s ctx fun ses => ses ≠ 1 && ses ≠ 2
def execFormatNvmBlockErase (ctx : Nat) (s : State) : Host.Outcome State Fault Refusal := actTurn .format s fun s =>
  formatRow s ctx fun ses => ses = 1
def execFormatNvmCryptoErase (ctx : Nat) (s : State) : Host.Outcome State Fault Refusal := actTurn .format s fun s =>
  formatRow s ctx fun ses => ses = 2

/-! Sanitize (R372 to R377). -/

/-- SANACT of a Sanitize. -/
def sanAct (x : Ctx) : Nat := bits x.sqe.cdw10 0 3

/-- Sanitize with an action that starts an operation: the operation has started at its registration, and the command
completes. An action that is not supported is refused by the Block Erase row. -/
def execSanitizeBlockErase (ctx : Nat) (s : State) : Host.Outcome State Fault Refusal := act .security s fun s =>
  fwRun s ctx false 0x84 fun s x =>
    if sanAct x = 2 then fwPost s ctx 0 0 0
    else if sanAct x = 1 ∨ sanAct x = 4 then s
    else fwPost s ctx stInvalidField 0 0
def execSanitizeCryptoErase (ctx : Nat) (s : State) : Host.Outcome State Fault Refusal := act .security s fun s =>
  fwRun s ctx false 0x84 fun s x => if sanAct x = 4 then fwPost s ctx 0 0 0 else s

/-- Exit Failure Mode: accepted only when the failed Sanitize had AUSE = 1 (R376). -/
def execSanitizeExitFailureMode (ctx : Nat) (s : State) : Host.Outcome State Fault Refusal := act .security s fun s =>
  fwRun s ctx false 0x84 fun s x =>
    if sanAct x ≠ 1 then s
    else if s.fw.failed = some false then fwPost s ctx stSanitizeFailed 0 0
    else fwPost { s with fw := { s.fw with failed := none } } ctx 0 0 0

def setSan (s : State) (r : SanRun) : State := { s with fw := { s.fw with san := some r } }

/-- A phase of the sanitize entered, with its record. -/
def sanPhase (s : State) (r : SanRun) (p v : Nat) : State := setSan (appendFw s (progressRec r.op 0 p v)) { r with phase := p, b := v, left := [] }

/-- Whether every command that was registered before the Sanitize has posted, and nothing programs (R373). -/
def sanDrained (s : State) : Bool :=
  (s.cmd.ctxs.all fun y => y.2.stage = .fetching || sanOk y.2 || isAdmin y.2 0x84) && s.cdc.accs = []

/-- Phase 1: staged data and the staging map discarded, the Burrow invalidated, migrations and copies stopped, rebuilds aborted
(R374, R420). -/
def sanDiscard (s : State) : State :=
  let s := (List.range 16).foldl rebuildAbort s
  let s := s.nvm.ns.foldl (fun s x => invalRuns s (nsBase s x.1) (nsRuns s x.1)) s
  let g := stgPool s
  let s := clearRange s g.base (g.base + g.total * 64)
  let free := { s.hbm.stgFree with back := s.hbm.stgFree.back ++ s.hbm.stg.map Prod.fst }
  let s := dropJobs s fun _ => true
  stgCounts { s with
    hbm := { s.hbm with stgFree := free, stg := [], stgUsers := [], probeWait := [] }
    map := { s.map with stgFree := ⟨[], 2 ^ g.log2, g.total⟩, heldRows := [] }
    media := { s.media with migr := [], colls := [], scrub := none, refresh := [], lost := [], rowFails := [], fixes := [], toClose := [] } }

/-- Slots that hold or make a key. -/
def keySlots (s : State) : List Nat := uniq (s.cry.key0.map Prod.fst ++ s.cry.key1.map Prod.fst ++ s.cry.changeover.map Prod.fst
  ++ s.sys.keyArea.map Prod.fst)

/-- Phase 2: GEN_KEY on each slot in use, ERASE on every other. None without entropy. -/
def sanKeys (s : State) : Option State :=
  let used := uniq (s.nvm.ns.map fun x => nsSlot s x.1)
  let s := ((keySlots s).filter fun k => !used.contains k).foldl (fun s k => dropKey (eraseSlot s k) k) s
  used.foldlM cryptoErase s

/-- Requests for a secure deallocation that still wait or run complete (R256). -/
def endSecReqs (s : State) : State :=
  { s with nvm := { s.nvm with secReqs := s.nvm.secReqs.map fun r => if r.state < 2 then { r with state := 2, todo := [] } else r } }

/-- Phase 3: the map empty, every user stripe free, and a checkpoint of it. -/
def sanMap (s : State) : State :=
  let run := s.get MAP_RUN_BASE_BASE * 4096
  let s := clearRange s run (run + s.get MAP_RUN_LIMIT_RUN_COUNT * 8)
  let p := excPool s
  let s := clearRange s p.base (p.base + p.total * 64)
  let s := s.set MAP_EXC_USED_USED 0
  let s := (stripesInUse s).foldl (fun s st => putStripeHdr s st (setBits (setBits (stripeHdr s st) 0 2 0) 4 14 0)) s
  let s := { s with
    map := { s.map with excFree := ⟨[], 2 ^ p.log2, p.total⟩, rerun := [], watches := [], failedRow := [] }
    nvm := { s.nvm with handles := [], ruStripe := [] }
    media := { s.media with badRows := [], progUs := [] } }
  let s := endSecReqs (s.set MAP_RERUN_DEPTH_DEPTH 0)
  let begin_ := s.get MAP_JNL_SEQ_SEQ
  let (m, s) := s.fresh
  let s := appendFw s ⟨0x0D, 0, (s.map.ckptSeq + 1) % 2 ^ 32, m % 2 ^ 48⟩
  updStall (s.set MAP_CKPT_BEGIN_SEQ begin_)

/-- Blocks that phase 4 erases at block number `b`: usable ones of active dies outside the Sett, which device firmware may program and erase (R147, R151). -/
def sanErases (s : State) (b : Nat) : List Nat :=
  ((List.range 2048).filter fun d => !isSettDie s d && blockWorks s d b).map fun d => peKey d b

/-- The end of phase 4's block numbers. -/
def sanTop (s : State) : Nat := maxOf ((modelsUsed s).map fun m => s.get FCH_MODELm_GEOM_BLOCKS m)

/-- Phase 4: the next block number, with a record after every 64. -/
def sanErase (s : State) (r : SanRun) : State :=
  if r.left ≠ [] then s
  else if sanTop s ≤ r.b then sanPhase s r 5 0
  else
    let keys := sanErases s r.b
    if !mayJournal s (keys.length + 2) then s
    else
      let s := if r.b % 64 = 0 ∧ r.b ≠ 0 then appendFw s (progressRec r.op 0 4 r.b) else s
      setSan (keys.foldl eraseBlock s) { r with b := r.b + 1, left := keys }

/-- The operation complete: SSTAT, Global Data Erased, S0 counted again (R133, R377). -/
def sanComplete (s : State) : State :=
  recountSpare (endSecReqs { s with fw := { s.fw with san := none, sstat := 1, gde := true } })

/-- One phase of the sanitize. -/
def sanStep (s : State) (r : SanRun) : State :=
  if !mayUpdate s 4 then s
  else if r.phase = 0 then if sanDrained s then sanPhase s r 1 0 else s
  else if r.phase = 1 then sanPhase (sanDiscard s) r 2 0
  else if r.phase = 2 then (match sanKeys s with | some s => sanPhase s r 3 0 | none => s)
  else if r.phase = 3 then sanPhase (sanMap s) r (if r.op = 1 then 4 else 5) 0
  else if r.phase = 4 then sanErase s r
  else if r.b = 0 then setSan (appendFw s (progressRec r.op 0 15 0)) { r with b := 1 }
  else
    let s := kickDurable s
    if allDurable s then sanComplete s else s

/-- A turn of the destructive phases (R374). -/
def execSanitizeDestructivePhases (s : State) : Host.Outcome State Fault Refusal := actTurn .sanitize s fun s =>
  match s.fw.san with
  | some r => sanStep s r
  | none => s

/-- Phase 2 has had no entropy for 60 s: the operation fails (R376). -/
def execSanitizeEntropyFailure (s : State) : Host.Outcome State Fault Refusal := act .sanitizeState s fun s =>
  match s.fw.san with
  | some r =>
    if r.phase = 2 ∧ !s.on CRY_ENT_OK ∧ s.cry.entLostUs + 60000000 ≤ s.timeUs then { s with fw := { s.fw with san := none, sstat := 3, failed := some r.ause } } else s
  | none => s

end Sys2Proof.Machine
end

