-- ==== Sys2Proof/Machine/ResetOps.lean ====
section
/-! DEFINITION. What a reset of the blocks leaves: a start, a warm start, and the hold after a flush (R8, R20, R89, R335, R391,
R407 to R409). Media, both Sett copies and OTP survive; what device firmware keeps only in its memory is lost. -/

namespace Sys2Proof.Machine

/-- The erases that were started and did not end when the blocks are reset: their blocks count two program/erase cycles, those of a
sanitize for the 64 block numbers from the recorded one (R55, R375). Blocks that are in reset have none. -/
def countOpenErases (s : State) : State :=
  if !s.live then s else
  let colls := s.media.colls.flatMap fun x => x.2.left
  let requal := match s.media.requal with | some r => r.left | none => []
  let san := match s.fw.san with
    | some r => if r.phase = 4 then (List.range 64).flatMap fun k => sanErases s (r.b / 64 * 64 + k) else []
    | none => []
  (colls ++ requal ++ san).foldl (fun s key => wearAdd s key 2) s

/-- What the Sett holds of the media, once the memory of device firmware is gone: durable grown entries, the counters last
written, no work under way (R152, R161). -/
def keptMedia (s : State) : MediaSt :=
  { s.media with
    grown := s.media.grown.filter (grownEffective s)
    health := s.media.saved
    growWait := [], migrAt := [], epochWait := [], failPlanes := []
    dieTab := (s.media.dieTab.filter fun x => x.page = 0 || recDurable s x.page).map fun x => { x with page := 0 }
    colls := [], migr := [], refresh := [], refreshJob := none, scrub := none, requal := none
    streams := [], fixes := [], toClose := [], ends := [], lost := [], rowFails := [], badRows := [] }

/-- What the Sett holds of the subsystem: namespaces, the error log, requests, placement. Features return to their defaults;
the Timestamp runs on (R249). -/
def keptNvm (x : NvmSt) : NvmSt :=
  { x with
    feats := [], aers := [], events := [], blocked := [], changed := [], telSeq := 0, telUs := 0, telBytes := [], telFns := []
    dump := none, lastOp := [] }

/-- Firmware slots, Sanitize and Format: an operation resumes its recorded phase from its start (R371, R375). -/
def keptFw (x : FwSt) : FwSt :=
  { x with
    pieces := [], activating := none
    san := x.san.map fun r => { r with b := if r.phase = 4 then r.b / 64 * 64 else 0, left := [] }
    formats := x.formats.map fun r => { r with done := 0, todo := [] } }

/-- What outlasts a reset of HIF and FCH: the PERST_N pins, and the VCCQ rails. -/
def keptHif (s : State) : HifSt := { State.reset.hif with perst := s.hif.perst, perstUs := s.hif.perstUs }
def keptFch (s : State) : FchSt := { State.reset.fch with vccq := s.fch.vccq }

/-- WP_N of every den driven low at the end of a flush (R67, R90). -/
def wpLow (s : State) : State := (List.range 16).foldl (fun s d => setWp s d false) { s with fch := { s.fch with flushing := false } }

/-- ALERT_N released, where it was driven low. -/
def alertOff (s : State) : State := if s.oob.alert then s.emit (.pin .alertN none) else s

/-- Whether a register cell belongs to SYS or PWR, which a hold leaves alone (R20, R391). -/
def keptCell (c : RCell) : Bool := cellIn (winBase 0) (winBase 1) c || cellIn (winBase 13) (winBase 14) c

/-- Every block except SYS and PWR reset; memory holds nothing. -/
def resetBlocks (s : State) : State :=
  let s := alertOff (wpLow (countOpenErases s))
  let r := State.reset
  { s with
    regs := s.regs.filter keptCell
    mem := r.mem, stale := r.stale, bus := r.bus, latch := r.latch
    mbx := r.mbx, flt := { r.flt with resetUs := s.timeUs }, map := r.map, fch := keptFch s
    cdc := { r.cdc with rowSeq := s.cdc.rowSeq }, trk := r.trk, hbm := r.hbm, bur := r.bur, hif := keptHif s, cmd := r.cmd
    nvm := keptNvm s.nvm, bpm := r.bpm, udm := r.udm, cry := { r.cry with opal := s.cry.opal, opalPins := s.cry.opalPins, opalStore := s.cry.opalStore }, cpr := r.cpr
    sys := { s.sys with sett := keptSett s }
    media := keptMedia s, fw := keptFw s.fw, oob := { r.oob with vpd := s.oob.vpd } }

/-- The hold: every block except SYS and PWR in reset (R20, R391). -/
def holdBlocks (s : State) : State := { resetBlocks s with phase := .held }

/-- The newest durable page is no SHUTDOWN page (R391). -/
def noShutdownPage (s : State) : State := { s with sys := { s.sys with sett := { s.sys.sett with clean := false } } }

/-- Every block in reset while a rail is out of range (R335). A flush that runs ends there (R439). -/
def powerOff (s : State) : State :=
  let s := if s.on PWR_STATE_FLUSH_ACTIVE then noShutdownPage s else s
  let s := if s.pwr.tripped then s.emit (.pin .thermTripN (some true)) else s
  let t := resetBlocks s
  let media := { t.media with health := tempsBase t.media.health, saved := tempsBase t.media.saved }
  { t with regs := [], media := media, nvm := { t.nvm with stamp := none }, pwr := { State.reset.pwr with flushMark := s.pwr.flushMark }, phase := .off }

end Sys2Proof.Machine
end

