-- ==== Sys2Proof/Machine/FltCmd.lean ====
section
/-! DEFINITION. Events of monitored elements, and the writes of the fault monitor (R299 to R303, R411 to R418). -/

namespace Sys2Proof.Machine

/-! The word tracker (R414). -/

/-- Whether entry `i` tracks a word. -/
def wordMatch (s : State) (g w i : Nat) : Bool :=
  s.on FLT_WORDi_VALID i && s.get FLT_WORDi_GROUP i = g && s.get FLT_WORDi_WORD i = w

/-- Whether the window of entry `i` has expired. -/
def wordExpired (s : State) (i : Nat) : Bool := decide (s.get FLT_CLASSc_CFG_W_MS 5 ≤ nowMs s - elemT0 s (elemWord i))


/-- The entry of a word: its own, else a free one, else the one with the oldest expired window; none where all windows are
open. -/
def wordEntry (s : State) (g w : Nat) : Option (Nat × State) :=
  match (List.range 64).find? (wordMatch s g w) with
  | some i => some (i, s)
  | none =>
    let take (i : Nat) : Nat × State :=
      let s := fltClear s (elemWord i)
      (i, ((s.set FLT_WORDi_GROUP g i).set FLT_WORDi_WORD w i).set FLT_WORDi_VALID 1 i)
    match (List.range 64).find? fun i => !s.on FLT_WORDi_VALID i with
    | some i => some (take i)
    | none =>
      ((List.range 64).filter (wordExpired s)).foldl (fun b i => match b with
        | none => some i
        | some k => if elemT0 s (elemWord i) < elemT0 s (elemWord k) then some i else some k) none |>.map take

/-- An entry freed. -/
def untrackWord (s : State) (i : Nat) : State := (fltClear s (elemWord i)).set FLT_WORDi_VALID 0 i

/-- An event of the word that an entry tracks; a lasting one is remapped, which frees the entry (R301, R414). -/
def entryEvent (s : State) (i code data : Nat) : State :=
  let g := s.get FLT_WORDi_GROUP i
  let w := s.get FLT_WORDi_WORD i
  let (s, lasting) := fltElem s (elemWord i) code data false
  if lasting then
    let room := (List.range 8).any fun e => !s.on BPM_REMAPg_e_VALID g e
    let s := learnRemap s g w
    if room then untrackWord s i else s
  else s

/-- A corrected error of a word. -/
def wordEvent (s : State) (g w : Nat) : State :=
  match wordEntry s g w with
  | some (i, s) => entryEvent s i 1 w
  | none => s.set FLT_STATUS_TRACK_FULL 1

/-! SRAM errors (R299, R302, R303). -/

/-- Address of word `w` of a group of buffer SRAM; the byte offset in its SRAM for another group. -/
def groupAddr (g w : Nat) : Nat :=
  if g < 32 then sramBase + g * 0x400000 + 8 * w else if g < 34 then (g - 32) * 0x400000 + 8 * w else (g - 34) * 0x400000 + 8 * w

/-- A corrected error: reported, and the word's write-back waits. -/
def correctedError (s : State) (g w : Nat) : State :=
  let s := ((s.set BPM_STATUS_CE 1).bump BPM_CNTn_COUNT 5).bump BPM_GRPg_STATE_CE_CNT g
  { s with bpm := { s.bpm with writeback := some (groupAddr g w / 8) } }

/-- An uncorrectable error: recorded; a word of buffer SRAM is a data error to its readers, and one of a context SRAM with a
second failed lane is a fatal controller fault (R416). -/
def uncorrectableError (s : State) (g w : Nat) : State :=
  let a := groupAddr g w
  let s := ((s.set BPM_STATUS_UE 1).bump BPM_CNTn_COUNT 6).bump BPM_GRPg_STATE_UE_CNT g
  let s := ((s.set BPM_ERR_ADDR a).set BPM_ERR_GROUP g).set BPM_ERR_POISON (b2n (decide (g < 32) && s.bpm.poisoned.contains (a / 8)))
  if g < 32 then (if s.bpm.bad.contains (a / 8) then s else { s with bpm := { s.bpm with bad := (a / 8) :: s.bpm.bad } })
  else if s.get BPM_GRPg_STATE_LANE2 g ≠ 127 then fatalFault s 4
  else s

/-- An error of a lane macro at a word: counted for the lane where the word differs from that of its last counted error
(R413). -/
def laneCount (s : State) (g lane code w : Nat) : State :=
  let e := elemLane g lane
  if tget s.flt.laneWord e = some w then s
  else
    let s := { s with flt := { s.flt with laneWord := tput s.flt.laneWord e w } }
    let (s, lasting) := fltElem s e code w false
    if lasting then steerLane s g lane else s

def laneEvent (s : State) (g lane code w : Nat) : State :=
  if code = 1 then wordEvent (laneCount (correctedError s g w) g lane 1 w) g w
  else if code = 2 then laneCount (uncorrectableError s g w) g lane 2 w
  else laneCount s g lane code w

/-! Events. -/

/-- A line that a stack reports uncorrectable cannot be read (R163, R165). -/
def lineEvent (s : State) (p a : Nat) : State :=
  if pcOf a = p ∧ a < hbmEnd ∧ !s.hbm.unreadable.contains (a / 64) then
    { s with hbm := { s.hbm with unreadable := (a / 64) :: s.hbm.unreadable } }
  else s

/-- One event of an element, with the action of its class when it declares a lasting fault (Table 19.4). -/
def fltEvent (s : State) (e code data : Nat) : State :=
  match elemClass e with
  | none => s
  | some c =>
    if c = 0 then dieEvent s e code data
    else if c = 1 then channelEvent s (e - 0x0800) code data (code = 3)
    else if c = 2 then
      pcEvent (if code = 1 then lineEvent s (e - 0x0900) data else s) (e - 0x0900) code data (code = 2 || code = 3)
    else if c = 3 then coreEvent s (e - 0x0940) code data
    else if c = 4 then laneEvent s ((e - 0x1000) / 0x80) (e % 0x80) code (data % 2 ^ 19)
    else if c = 5 then (if s.on FLT_WORDi_VALID (e - 0x0990) then entryEvent s (e - 0x0990) code data else s)
    else if c = 6 then engineEvent s (e - 0x0980) code data
    else if c = 7 then entropyEvent s code data
    else fltPlain s e code data

def execFltEvent (elem code data : Nat) (s : State) : Host.Outcome State Fault Refusal := actHealth .fltEvent s fun s => fltEvent s elem code data

/-- A write of FLT_CLEAR (R415). -/
def execFltClear (elem : Nat) (s : State) : Host.Outcome State Fault Refusal := act .fltClear s fun s =>
  if (elemClass elem).isSome then fltClear s elem else s

/-- A write of FLT_APPEND (R418). -/
def execFltAppend (cause elem : Nat) (s : State) : Host.Outcome State Fault Refusal := act .fltClear s fun s =>
  match elemClass elem with
  | some c => fltLog s 4 elem c cause (s.get FLT_APPEND_DATA_V)
  | none => fltLog s 4 0xFFFF 0xFF cause (s.get FLT_APPEND_DATA_V)

/-- Steps 2 and 3 of R391, which device firmware has done when it restarts after a fatal controller fault that leaves it a core and a
Sett copy (R417). -/
def fatalSaves (s : State) : State :=
  if s.on FLT_FATAL_ACTIVE ∧ s.get FLT_FATAL_CAUSE ≠ 2 ∧ s.get FLT_FATAL_CAUSE ≠ 3 then exportKeys (saveHealth s) else s

/-- FLT_CTRL.RESTART written: a warm start begins with its hold; a flush that runs ends first (R389, R417). -/
def execFltRestart (s : State) : Host.Outcome State Fault Refusal :=
  if s.live && !s.on PWR_STATE_FLUSH_ACTIVE && s.phase ≠ .halted then .next (confine .reset s (updPs (holdBlocks (fatalSaves s))))
  else .next s

end Sys2Proof.Machine
end

