-- ==== Sys2Proof/Machine/RecovOps.lean ====
section
/-! DEFINITION. Recovery by device firmware: the checkpoint loaded, the journal pages decrypted for the replay engine, firmware
records handled, Table 2.8 resolved (R52, R53, R55). -/

namespace Sys2Proof.Machine

/-- The checkpoint that a recovery loads: the newest, or the one before it when the newest fails authentication (R53). -/
def recovCkpt (s : State) (r : Recov) : Option Ckpt := if r.ckptBad then s.sys.sett.ckpts[1]? else s.sys.sett.ckpts[0]?

/-- The recovery's next page decrypted to MAP_REPLAY_ADDR (R53). -/
def loadPage (s : State) : State :=
  match s.map.recov with
  | some r =>
    (match r.pages with
      | p :: _ => writeBytes s (s.get MAP_REPLAY_ADDR_ADDR * 65536) (pageHeader p ++ pageBody p ++ List.replicate 16 0)
      | [] => s)
  | none => s

/-- A checkpoint's regions expanded into HBM and the namespace table (R53). -/
def expandCkpt (s : State) (c : Ckpt) : State :=
  let region (s : State) (a n : Nat) (l : List Host.Cell) : State := putCells (clearRange s a (a + n)) a l
  let s := region s (s.get MAP_RUN_BASE_BASE * 4096) (s.get MAP_RUN_LIMIT_RUN_COUNT * 8) c.runs
  let s := region s (excPool s).base ((excPool s).total * 64) c.excs
  let s := region s (s.get MAP_STRIPE_BASE_BASE * 4096) (s.get MAP_STRIPE_COUNT_COUNT * 256) c.stripes
  let s := c.ns.foldl (fun s x => setNs s x.1 x.2) s
  { s.set MAP_CKPT_BEGIN_SEQ c.start with
    map := { s.map with manifest := c.manifest, ckptSeq := c.seq }
    media := { s.media with migrAt := c.migr } }

/-- The recovery of a start begun: the checkpoint loaded, the next page sequence set, the first page decrypted (R53). -/
def beginRecov (s : State) : State :=
  match s.map.recov with
  | some r =>
    if r.loaded ∨ !s.on MAP_CTRL_REPLAY then s
    else
      let c := recovCkpt s r
      let s := match c with | some c => expandCkpt s c | none => s
      let start := match c with | some c => c.start | none => 0
      let r := { r with
        loaded := true
        pages := s.sys.sett.pages.filter fun p => start ≤ p.seq
        folds := match c with | some c => c.folds | none => [] }
      loadPage ({ s with map := { s.map with recov := some r } }.set MAP_JNL_SEQ_SEQ (s.sys.sett.tail + 1))
  | none => s

/-- The folds that have started and not ended, after a record (R55). -/
def foldRec (f : Tbl Nat) (r : JRec) : Tbl Nat :=
  if r.ty = 0x09 then tput f r.key r.val else if r.ty = 0x0A then tdel f r.key else f

/-- A record of device firmware found in a replayed page (R44, R53): a namespace entry is rewritten whole, a die's epoch, a
checkpoint and the progress of a migration are taken over. Erases without an end have been counted (R55, `countOpenErases`);
grown blocks, Sanitize and Format are kept with their records. -/
def fwRecord (s : State) (r : JRec) : State :=
  if r.ty = 0x0E then
    setNs s (bits r.key 0 12) (bits r.val 0 29 + bits r.val 29 29 * 2 ^ 32 + bits r.key 12 12 * 2 ^ 64 + bits r.key 24 1 * 2 ^ 76
      + bits r.val 63 1 * 2 ^ 77)
  else if r.ty = 0x0F ∧ r.key < 2048 then s.set FCH_DIEd_EPOCH r.val (r.key / 8) (r.key % 8)
  else if r.ty = 0x0D then { s with map := { s.map with manifest := bits r.val 0 48, ckptSeq := r.key } }
  else if r.ty = 0x0B then { s with media := { s.media with migrAt := tput s.media.migrAt r.key r.val } }
  else s

/-- What device firmware does when the engine has replayed a page: its records, then the next page (R53). -/
def pageReplayed (s : State) (l : List JRec) : State :=
  let s := l.foldl fwRecord s
  match s.map.recov with
  | none => s
  | some r => loadPage { s with map := { s.map with recov := some { r with pages := r.pages.drop 1, folds := l.foldl foldRec r.folds } } }

/-- The last four verified rows of a stripe (R55). -/
def lastRows (s : State) (st : Nat) : List (Nat × Nat) :=
  let n := stripeRows (stripeHdr s st)
  ((List.range n).drop (n - 4)).map fun row => (st, row)

/-- Table 2.8 resolved after the sweep. Every open stripe is closed at its ROWS, which closes the target of a fold; on the
unexpected path its last rows are read, and those that need it refreshed. The erases that did not end are repeated when their
stripes, still closed, are collected. The RECOVERY record is appended and its page closed (R53, R55). -/
def resolveOpen (s : State) (r : Recov) : State :=
  let l := (List.range (s.get MAP_STRIPE_COUNT_COUNT)).filter fun st =>
    stripeState (stripeHdr s st) = 1
  let s := l.foldl (fun s st => fwStripe s st (setBits (stripeHdr s st) 0 2 2)) s
  let s := if r.clean then s else scrubNext s (l.flatMap (lastRows s))
  let s := appendFw s ⟨0x10, 0, 0, l.length⟩
  let s := if s.map.page.isSome then updStall (closePage s false) else s
  { s with map := { s.map with recov := some { r with wait := some s.map.lastClosed } } }

/-- The end of a sweep: a recovery that has replayed every page resolves what was open. -/
def afterSweep (s : State) : State :=
  match s.map.recov with
  | some r => if r.loaded ∧ r.pages = [] ∧ r.wait = none ∧ mayJournal s 256 then resolveOpen s r else s
  | none => s

end Sys2Proof.Machine
end

