-- ==== Sys2Proof/Machine/JnlCmd.lean ====
section
/-! DEFINITION. The enable of MAP (R42), a walker lookup (R32), and the end of a journal page's program (R46). -/

namespace Sys2Proof.Machine

/-- MAP_CTRL.ENABLE set: eight pool 3 buffers are taken for the ring at the first enable since a reset, and the overflow free lists
then hold every overflow bucket (R27, R31, R42). Without the buffers ENABLE stays 0. With REPLAY = 1 a recovery begins (R53). -/
def execMapEnable (s : State) : Host.Outcome State Fault Refusal := act .mapEnable s fun s =>
  if s.on MAP_CTRL_ENABLE then s
  else
    if s.map.ringBufs ≠ [] then beginRecov (updReady (s.set MAP_CTRL_ENABLE 1))
    else
      match claim s 3 8 with
      | none => s
      | some (l, s) =>
        let e := excPool s
        let g := stgPool s
        let s := { s with map := { s.map with ringBufs := l, excFree := ⟨[], 2 ^ e.log2, e.total⟩, stgFree := ⟨[], 2 ^ g.log2, g.total⟩ } }
        beginRecov (updReady (s.set MAP_CTRL_ENABLE 1))

/-- A lookup that the walker makes of one sector of a namespace: its counters, and what a corrupt one records (R32, R33). The
walker serves no host lookup while MAP is not ready (R53). -/
def execWalkerLookup (ns sector : Nat) (s : State) : Host.Outcome State Fault Refusal := act .mapEnable s fun s =>
  if !s.on MAP_STATUS_READY then s
  else if 4096 ≤ ns || !nsValid s ns then ((s.bump MAP_LOOKUP_CNT_COUNT).set MAP_STATUS_CORRUPT 1).bump MAP_CORRUPT_CNT_COUNT
  else (lookup s (nsBase s ns + sector / 512) (sector % 512)).2

/-- What the end of a recovery leads to, where REPLAY has been cleared since `s0` (R53). -/
def ifRecovered (s0 s : State) : State :=
  if s0.on MAP_CTRL_REPLAY ∧ !s.on MAP_CTRL_REPLAY then healthDiff s0 (recoveryEnds s) else s

/-- JOURNAL_PAGE_PROGRAM_DONE: the program of a closed page into one copy ended, `media` being the page of the die. A FAIL is a
die event and its block grown bad; the page is programmed again once (R46, R152). -/
def execJournalPageProgramDone (seq : Nat) (copyB : Bool) (media : Nat) (pass : Bool) (s : State) :
    Host.Outcome State Fault Refusal := act .pageDone s fun s =>
  match s.map.closed.find? fun c => c.page.seq = seq with
  | none => s
  | some c =>
    match (if copyB then c.copyB else c.copyA) with
    | .programming n =>
      let d := if copyB then { c with copyB := afterProgram c.copyB pass } else { c with copyA := afterProgram c.copyA pass }
      let s := { s with map := { s.map with closed := s.map.closed.map fun x => if x.page.seq = seq then d else x } }
      let s := if pass then s else growBad (dieEvent s (mediaDie media) 2 media) (mediaDie media) (mediaPlane media) (mediaBlock media) 1
      let s := if !pass && n < 2 then programPage s copyB c.page else s
      ifRecovered s (pagesEnded s [d])
    | _ => s

/-- MAP_REPLAY_CTL.GO: the page at MAP_REPLAY_ADDR replayed; ignored while REPLAY is 0 (R53, R59). -/
def execMapReplayGo (s : State) : Host.Outcome State Fault Refusal :=
  act .replay s fun s =>
    if !s.on MAP_CTRL_REPLAY then s
    else
      match replayRecs s (s.get MAP_REPLAY_ADDR_ADDR * 65536) with
      | none => (s.set MAP_REPLAY_CTL_ERR 1).set MAP_REPLAY_CTL_DONE 1
      | some recs =>
        let (s, all) := applyRecs (noteLines s (s.get MAP_REPLAY_ADDR_ADDR * 65536) (64 + 16 * recs.length)) recs
        if all then pageReplayed (s.set MAP_REPLAY_CTL_DONE 1) recs
        else (s.set MAP_REPLAY_CTL_ERR 1).set MAP_REPLAY_CTL_DONE 1

/-- MAP_REPLAY_CTL.SWEEP: ignored while REPLAY is 0 (R54, R59). -/
def execMapReplaySweep (s : State) : Host.Outcome State Fault Refusal :=
  act .replay s fun s => if s.on MAP_CTRL_REPLAY then afterSweep ((sweep s).set MAP_REPLAY_CTL_SWEEP_DONE 1) else s

end Sys2Proof.Machine
end

