-- ==== Sys2Proof/Machine/OobOps.lean ====
section
/-! DEFINITION. The out-of-band endpoint (R396 to R405): MCTP packets and messages, the NVMe-MI commands of Table 18.1, the
basic management command. Layouts that the spec leaves to DSP0236 to DSP0238 and NVMe-MI are theirs (PRESUMED, log entry
29). -/

namespace Sys2Proof.Machine

/-- Byte `n` of a list, 0 past its end. -/
def byteAt (b : List Byte) (n : Nat) : Nat := (b.getD n 0).toNat

/-- A little-endian field of a list. -/
def fieldAt (b : List Byte) (a n : Nat) : Nat := leNat (fit (b.drop a) n)

/-! MCTP packets (R396, R397). -/

/-- Endpoint ID and transmission unit of a port. -/
def oobEid (s : State) (port : Nat) : Nat := if port = 0 then s.get OOB_ADDR_EID0 else s.get OOB_ADDR_EID1
def oobMtu (s : State) (port : Nat) : Nat := if port = 0 then s.oob.mtu0 else s.oob.mtu1

/-- Whether the endpoint answers: from step 6 of the start (R399). -/
def oobUp (s : State) : Bool := decide (6 ≤ s.get SYS_BOOT_STAGE)

/-- Whether port 0 answers (R405, R406). -/
def smbUp (s : State) : Bool := oobUp s && s.on OOB_CFG_SMB_EN && !s.oob.swapped

/-- An SMBus block write of an MCTP packet, with its PEC (DSP0237). -/
def smbFrame (s : State) (dst : Nat) (p : List Byte) : List Byte :=
  let b := natLe (dst * 2) 1 ++ natLe 0x0F 1 ++ natLe (p.length + 1) 1 ++ natLe (s.get OOB_ADDR_SMB_ADDR * 2 + 1) 1 ++ p
  b ++ natLe (crc8 b) 1

/-- A message sent as packets of the port's transmission unit to endpoint `src` behind `link`, with the tag of its request. -/
def mctpSend (s : State) (port link src tag : Nat) (msg : List Byte) : State :=
  let m := max 1 (oobMtu s port)
  let n := max 1 (ceilDiv msg.length m)
  (List.range n).foldl (fun s k =>
    let flags := 128 * b2n (k = 0) + 64 * b2n (k = n - 1) + 16 * (k % 4) + tag % 8
    let p := natLe 1 1 ++ natLe src 1 ++ natLe (oobEid s port) 1 ++ natLe flags 1 ++ (msg.drop (k * m)).take m
    s.emit (.oob port link (if port = 0 then smbFrame s link p else p))) s

/-- The MCTP control messages that the endpoint serves (R399): Set and Get Endpoint ID, version and type support. -/
def mctpCodes : List Nat := [1, 2, 4, 5]

/-- A control response: completion code and data. -/
def ctlAnswer (s : State) (port : Nat) (r : OobReq) (cc : Nat) (d : List Byte) : State :=
  mctpSend s port r.link r.src r.tag (natLe 0 1 ++ natLe (byteAt r.msg 1 % 128) 1 ++ natLe (byteAt r.msg 2) 1 ++ natLe cc 1 ++ d)

/-- A whole message taken: a control request or an NVMe-MI message waits for its row; a control request of another code is
answered as unsupported; any other message is dropped. -/
def takeWhole (s : State) (port : Nat) (r : OobReq) : State :=
  let ty := byteAt r.msg 0 % 128
  let s := s.bump OOB_CNTn_COUNT port
  let wait : Bool := decide (ty = 4) || (decide (ty = 0) && decide (128 ≤ byteAt r.msg 1) && mctpCodes.contains (byteAt r.msg 2))
  if wait then
    { s with oob := { s.oob with whole := s.oob.whole ++ [(port, { r with arrived := s.oob.arrivals })], arrivals := s.oob.arrivals + 1 } }
  else if ty = 0 ∧ 128 ≤ byteAt r.msg 1 then ctlAnswer s port r 5 []
  else s

/-- Whether an assembly belongs to a packet's message. -/
def asmMine (port link src tag : Nat) (x : Nat × Assembly) : Bool :=
  x.1 = port && x.2.link = link && x.2.src = src && x.2.tag = tag

/-- An MCTP packet, header first, taken into its message: a first packet starts it, another continues it in sequence, the last
ends it. Responses, other header versions and packets for other endpoints are dropped. -/
def mctpTake (s : State) (port link : Nat) (b : List Byte) : State :=
  let dst := byteAt b 1
  let src := byteAt b 2
  let fl := byteAt b 3
  if b.length < 5 ∨ byteAt b 0 % 16 ≠ 1 ∨ (dst ≠ 0 ∧ dst ≠ oobEid s port) ∨ bits fl 3 1 = 0 then s
  else
    let tag := fl % 8
    let old := s.oob.asm.find? (asmMine port link src tag)
    let rest := s.oob.asm.filter fun x => !asmMine port link src tag x
    let s := { s with oob := { s.oob with asm := rest } }
    let got : Option (List Byte) :=
      if 128 ≤ fl then some (b.drop 4)
      else match old with
        | some x => if x.2.seqNo = bits fl 4 2 then some (x.2.data ++ b.drop 4) else none
        | none => none
    match got with
    | none => s
    | some d =>
      if bits fl 6 1 = 1 then takeWhole s port ⟨link, src, tag, d, none, 0⟩
      else { s with oob := { s.oob with asm := rest ++ [(port, ⟨link, src, tag, (bits fl 4 2 + 1) % 4, d⟩)] } }

/-- An SMBus write as its bytes stand on the wire, address byte first and PEC last. -/
def smbPacket (s : State) (b : List Byte) : State :=
  let n := b.length
  if !smbUp s ∨ n < 9 ∨ byteAt b 0 ≠ s.get OOB_ADDR_SMB_ADDR * 2 then s
  else if crc8 (b.take (n - 1)) ≠ byteAt b (n - 1) then s.bump OOB_CNTn_COUNT 3
  else if byteAt b 1 ≠ 0x0F ∨ byteAt b 2 ≠ n - 4 then s
  else mctpTake s 0 (byteAt b 3 / 2) ((b.drop 4).take (n - 5))

/-- A vendor-defined message on a link that is up: by ID to the physical function, or to the root complex. -/
def vdmPacket (s : State) (p : VdmPacket) : State :=
  if !oobUp s ∨ !s.on OOB_CFG_VDM_EN ∨ !s.on HIF_LINKl_STATUS_UP p.link then s
  else if p.route = 0 ∨ (p.route = 2 ∧ p.toPf) then mctpTake s 1 p.link p.data
  else s

/-! Control messages (R396, R399). -/

/-- The oldest control request of a port with a code, taken. -/
def takeControl (s : State) (port code : Nat) (g : State → OobReq → State) : State :=
  let p (x : Nat × OobReq) : Bool := x.1 = port && byteAt x.2.msg 0 % 128 = 0 && byteAt x.2.msg 2 = code
  match s.oob.whole.find? p with
  | none => s
  | some x => g { s with oob := { s.oob with whole := s.oob.whole.erase x } } x.2

/-- Set Endpoint ID: operations 0 (set) and 1 (force) with an identifier from 8 to 254. -/
def setEid (s : State) (port : Nat) (r : OobReq) : State :=
  let op := byteAt r.msg 3 % 4
  let e := byteAt r.msg 4
  if 2 ≤ op ∨ e < 8 ∨ e = 255 then ctlAnswer s port r 2 []
  else
    let t := if port = 0 then s.set OOB_ADDR_EID0 e else s.set OOB_ADDR_EID1 e
    ctlAnswer t port r 0 (natLe 0 1 ++ natLe e 1 ++ natLe 0 1)

def getEid (s : State) (port : Nat) (r : OobReq) : State :=
  ctlAnswer s port r 0 (natLe (oobEid s port) 1 ++ natLe 0 1 ++ natLe 0 1)

/-- Version support: MCTP 1.3 for the base and for control messages, NVMe-MI 1.2 for type 4. -/
def getVersion (s : State) (port : Nat) (r : OobReq) : State :=
  let t := byteAt r.msg 3
  let v (minor : Nat) : List Byte := natLe 1 1 ++ natLe 0xF1 1 ++ natLe (0xF0 + minor) 1 ++ natLe 0xFF 1 ++ natLe 0 1
  if t = 0xFF ∨ t = 0 then ctlAnswer s port r 0 (v 3)
  else if t = 4 then ctlAnswer s port r 0 (v 2)
  else ctlAnswer s port r 0x80 []

def getTypes (s : State) (port : Nat) (r : OobReq) : State := ctlAnswer s port r 0 (natLe 1 1 ++ natLe 4 1)

/-! NVMe-MI messages (R398, R401). -/

def miInternal : Nat := 2
def miOpcode : Nat := 3
def miParam : Nat := 4
def miSize : Nat := 5
def miDataSize : Nat := 6

/-- Kind of a message (1 an NVMe-MI command, 2 an admin command), its opcode, its controller field. -/
def miKind (m : List Byte) : Nat := bits (byteAt m 1) 3 4
def miOp (m : List Byte) : Nat := byteAt m 4

/-- A response: header of the request with the response bit, status, three bytes, data, and the integrity check. -/
def miAnswer (s : State) (port : Nat) (r : OobReq) (status : Nat) (resp d : List Byte) : State :=
  let m := natLe 0x84 1 ++ natLe (byteAt r.msg 1 % 128 + 128) 1 ++ natLe 0 2 ++ natLe status 1 ++ fit resp 3 ++ d
  mctpSend s port r.link r.src r.tag (m ++ natLe (crc32c m) 4)

/-- The response of a slot, which is then free. -/
def slotAnswer (s : State) (k : Nat) (r : OobReq) (status : Nat) (resp d : List Byte) : State :=
  freeOrphans { miAnswer s (k / 2) r status resp d with oob := { s.oob with slots := tdel s.oob.slots k } }

/-- Every request in a slot answered with Internal Error (R399). -/
def answerInternal (s : State) : State := s.oob.slots.foldl (fun s x => slotAnswer s x.1 x.2 miInternal [] []) s

/-- The tunnelled admin commands of Table 18.1, with the features that Set Features reaches. -/
def tunnelOps : List Nat := [0x06, 0x02, 0x0A, 0x09, 0x81, 0x82, 0x11, 0x10, 0x80, 0x84, 0xC2]

/-- What a message ends with at once: 0 for one that takes a slot. -/
def miStatus (m : List Byte) : Nat :=
  if miKind m = 1 then (if 8 ≤ miOp m then miOpcode else if m.length < 16 then miSize else 0)
  else if miKind m = 2 then (if !tunnelOps.contains (miOp m) then miOpcode else if m.length < 68 then miSize else 0)
  else miOpcode

/-- The slot that a request takes: the one that its header names, else the other one. -/
def miSlot (s : State) (port : Nat) (m : List Byte) : Option Nat :=
  let k := port * 2 + byteAt m 1 % 2
  let o := port * 2 + (1 - byteAt m 1 % 2)
  if (tget s.oob.slots k).isNone then some k else if (tget s.oob.slots o).isNone then some o else none

/-- The oldest NVMe-MI message of a port checked and given a slot (R398, R399). -/
def miMessage (s : State) (port : Nat) : State :=
  match s.oob.whole.find? fun x => x.1 = port && byteAt x.2.msg 0 % 128 = 4 with
  | none => s
  | some x =>
    let s := { s with oob := { s.oob with whole := s.oob.whole.erase x } }
    let n := x.2.msg.length - 4
    let m := x.2.msg.take n
    let r := { x.2 with msg := m }
    if oobEid s port = 0 then s
    else if x.2.msg.length < 12 ∨ byteAt m 0 < 128 ∨ crc32c m ≠ fieldAt x.2.msg n 4 then (s.set OOB_STATUS_MIC_FAIL 1).bump OOB_CNTn_COUNT 2
    else if 128 ≤ byteAt m 1 then s
    else
      match miSlot s port m with
      | none => (s.set OOB_STATUS_SLOT_FULL 1).bump OOB_CNTn_COUNT 4
      | some k =>
        if !s.on OOB_CTRL_FW_READY then miAnswer s port r miInternal [] []
        else if miStatus m ≠ 0 then miAnswer s port r (miStatus m) [] []
        else { s with oob := { s.oob with slots := tput s.oob.slots k r } }

/-! NVMe-MI commands (Table 18.1). Each answers a status, three response bytes and data. -/

/-- NVM Subsystem Information: two management ports, NVMe-MI 1.2. -/
def miSubsystem : List Byte := layPage 32 [(0, natLe 1 1), (1, natLe 1 1), (2, natLe 2 1)]

/-- Port Information: port 0 is SMBus, port 1 PCIe with the rate and width of a link that is up. -/
def miPort (s : State) (p : Nat) : Option (List Byte) :=
  if p = 0 then
    some (layPage 32 [(0, natLe 2 1), (2, natLe 250 2), (10, natLe (s.get OOB_ADDR_SMB_ADDR) 1), (11, natLe (s.get OOB_CFG_FREQ + 1) 1),
      (12, natLe (b2n (s.get OOB_CFG_BASIC_ADDR ≠ 0)) 1)])
  else if p = 1 then
    let l := ((List.range 8).find? fun l => s.on HIF_LINKl_STATUS_UP l).getD 0
    some (layPage 32 [(0, natLe 1 1), (2, natLe 1024 2), (8, natLe 2 1), (9, natLe 0x3F 1), (10, natLe (s.get HIF_LINKl_STATUS_RATE l) 1),
      (11, natLe 16 1), (12, natLe (s.get HIF_LINKl_STATUS_WIDTH l) 1)])
  else none

/-- Controller Information of a controller identifier. -/
def miController (s : State) (c : Nat) : Option (List Byte) :=
  if c = 0 ∨ 256 < c ∨ !fnPresent s (c - 1) then none
  else some (layPage 32 [(0, natLe 1 1), (8, natLe 0x1EE9 2), (12, natLe s.sys.image.ssvid 2), (14, natLe s.sys.image.ssid 2)])

/-- The optional commands, kind and opcode. -/
def miOptional : List Byte :=
  let l := [0x09, 0x81, 0x82, 0x11, 0x10, 0x80, 0x84, 0xC2]
  natLe l.length 2 ++ l.flatMap fun o => natLe (2 * 8) 1 ++ natLe o 1

/-- Read NVMe-MI Data Structure. -/
def miReadDs (s : State) (d0 : Nat) : Nat × List Byte :=
  let ty := bits d0 24 8
  let ok (o : Option (List Byte)) : Nat × List Byte := match o with | some b => (0, b) | none => (miParam, [])
  if ty = 0 then (0, miSubsystem)
  else if ty = 1 then ok (miPort s (bits d0 16 8))
  else if ty = 2 then
    let l := (allCtrls s).filter fun c => decide (bits d0 0 16 ≤ c)
    (0, natLe l.length 2 ++ l.flatMap fun c => natLe c 2)
  else if ty = 3 then ok (miController s (bits d0 0 16))
  else if ty = 4 then (0, miOptional)
  else (miParam, [])

/-- A composite temperature in the encoding of NVMe-MI. -/
def miTemp (s : State) : Nat := min 127 (compTemp s / 8)

/-- Whether a link of ports 2k or 2k+1 is up (R400). -/
def portsUp (s : State) (k : Nat) : Bool := (List.range 4).any fun l => s.on HIF_LINKl_STATUS_UP (4 * k + l)

/-- The status flags that both status blocks share: functional, reset not required, links of port 0 and port 1. -/
def miFlags (s : State) : Nat :=
  32 * b2n (driveFunctional s) + 16 * b2n (!s.on FLT_FATAL_ACTIVE) + 8 * b2n (portsUp s 0) + 4 * b2n (portsUp s 1)

/-- The change flags as bits of the Composite Controller Status, and a mask of them as flags. -/
def miChanges (v : Nat) : Nat :=
  bits v 9 1 + 2 * bits v 10 1 + 2 ^ 9 * bits v 8 1 + 2 ^ 12 * b2n (bits v 0 8 ≠ 0)
def miMask (v : Nat) : Nat := 2 ^ 9 * bits v 0 1 + 2 ^ 10 * bits v 1 1 + 2 ^ 8 * bits v 9 1 + 255 * bits v 12 1

/-- NVM Subsystem Health Status Poll. -/
def miHealth (s : State) : List Byte :=
  natLe (miFlags s) 1 ++ natLe (255 - criticalWarning s) 1 ++ natLe (miTemp s) 1 ++ natLe (percentUsed s) 1 ++ natLe (miChanges s.oob.chg) 2
    ++ natLe 0 2

/-- ALERT_N released (R404). -/
def alertRelease (s : State) : State :=
  if s.oob.alert then ({ s with oob := { s.oob with alert := false } }).emit (.pin .alertN none) else s

/-- The change flags cleared, so that ALERT_N is released (R404). -/
def clearFlags (s : State) : State := alertRelease { s with oob := { s.oob with chg := 0 } }

/-- An entry of Controller Health Status Poll. -/
def miCtrlHealth (s : State) (c : Nat) : List Byte :=
  let f := c - 1
  let st := s.get NVME_CSTS_RDY f + 2 * s.get NVME_CSTS_CFS f + 4 * s.get NVME_CSTS_SHST f
  natLe c 2 ++ natLe st 2 ++ natLe (kelvin (compTemp s)) 2 ++ natLe (percentUsed s) 1 ++ natLe (availableSpare s) 1
    ++ natLe (criticalWarning s) 1 ++ List.replicate 7 0

/-- Controller Health Status Poll: the present controllers from an identifier on, at most the entries asked for. -/
def miPoll (s : State) (d0 : Nat) : List Nat :=
  ((allCtrls s).filter fun c => decide (bits d0 0 16 ≤ c)).take (bits d0 16 8 + 1)

/-- Configuration Get. -/
def miGet (s : State) (d0 : Nat) : Option Nat :=
  let p := bits d0 24 8
  match bits d0 0 8 with
  | 1 => if p = 0 then some (s.oob.freq + 1) else none
  | 2 => some (miChanges s.oob.chgEn)
  | 3 => if p < 2 then some (oobMtu s p) else none
  | _ => none

/-- Configuration Set: what it would change, none for a value that is not admitted (R396, R401). -/
def miSet (s : State) (d0 d1 : Nat) : Option OobSt :=
  let p := bits d0 24 8
  match bits d0 0 8 with
  | 1 =>
    let f := bits d0 8 4
    if p = 0 ∧ 1 ≤ f ∧ f ≤ min 3 (s.get OOB_CFG_FREQ + 1) then some { s.oob with freq := f - 1 } else none
  | 2 => some { s.oob with chgEn := miMask d1 }
  | 3 =>
    let n := bits d1 0 16
    if p = 0 ∧ 64 ≤ n ∧ n ≤ 250 then some { s.oob with mtu0 := n }
    else if p = 1 ∧ 64 ≤ n ∧ n ≤ 1024 then some { s.oob with mtu1 := n }
    else none
  | _ => none

/-- The VPD, 256 B. -/
def vpdBytes (s : State) : List Byte := fit s.oob.vpd 256

/-- VPD Read, and VPD Write with its data. -/
def miVpdRead (s : State) (d0 d1 : Nat) : Option (List Byte) :=
  let o := bits d0 0 16
  let n := bits d1 0 16
  if 256 < o + n then none else some ((vpdBytes s |>.drop o).take n)
def miVpdWrite (s : State) (d0 d1 : Nat) (d : List Byte) : Nat × State :=
  let o := bits d0 0 16
  let n := bits d1 0 16
  if 256 < o + n then (miParam, s)
  else if d.length ≠ n then (miDataSize, s)
  else (0, { s with oob := { s.oob with vpd := (vpdBytes s).take o ++ d ++ (vpdBytes s).drop (o + n) } })

/-! Requests in slots. -/

def reqD0 (r : OobReq) : Nat := fieldAt r.msg 8 4
def reqD1 (r : OobReq) : Nat := fieldAt r.msg 12 4

/-- The request in a slot with a kind and an opcode. -/
def slotRun (s : State) (k kind op : Nat) (g : State → OobReq → State) : State :=
  match tget s.oob.slots k with
  | some r => if miKind r.msg = kind ∧ miOp r.msg = op then g s r else s
  | none => s

/-- Whether a Configuration Set that arrived earlier waits (R403). -/
def setBefore (s : State) (r : OobReq) : Bool :=
  s.oob.slots.any fun x => miKind x.2.msg = 1 && miOp x.2.msg = 3 && decide (x.2.arrived < r.arrived)

/-- Configuration Set from a slot: the response first, then the change. -/
def slotSet (s : State) (k : Nat) (r : OobReq) : State :=
  if setBefore s r then s
  else
    match miSet s (reqD0 r) (reqD1 r) with
    | none => slotAnswer s k r miParam [] []
    | some _ =>
      let t := slotAnswer s k r 0 [] []
      match miSet t (reqD0 r) (reqD1 r) with
      | some o => { t with oob := o }
      | none => t

/-! Tunnelled admin commands (R402). -/

/-- The submission entry that a tunnelled command spells. -/
def tunnelSqe (m : List Byte) : Sqe :=
  ⟨miOp m, 0, 0, 0, fieldAt m 8 4, fieldAt m 12 4, fieldAt m 16 4, 0, 0, 0, fieldAt m 44 4, fieldAt m 48 4, fieldAt m 52 4, fieldAt m 56 4,
    fieldAt m 60 4, fieldAt m 64 4⟩

/-- Whether Set Features names a feature that the endpoint does not set. -/
def tunnelRefused (e : Sqe) : Bool := e.opcode = 9 && !([0x04, 0x10, 0x02].contains (bits e.cdw10 0 8))

/-- A tunnelled command registered as an admin command of its function, in a context of the endpoint's own. -/
def tunnelStart (s : State) (k : Nat) (r : OobReq) : State :=
  let cntl := fieldAt r.msg 6 2
  let e := tunnelSqe r.msg
  if cntl = 0 ∨ 256 < cntl ∨ !fnPresent s (cntl - 1) ∨ !s.on NVME_CC_EN (cntl - 1) ∨ tunnelRefused e then slotAnswer s k r miParam [] []
  else
    match tfree s.cmd.ctxs ctxTunnel 8 with
    | none => s
    | some c =>
      let x : Ctx := { ctx0 (cntl - 1) 0 0 with
        sqe := e, seq := s.cmd.seq, stage := .running, tunnel := some k, left := 0, got := [(0, r.msg.drop 68)] }
      let st := entryStatus s c x
      if ringHolds s x st then s.set CMD_STATUS_FWQ_FULL 1
      else
        let s := { s with
          cmd := { s.cmd with seq := s.cmd.seq + 1 }, oob := { s.oob with slots := tput s.oob.slots k { r with ctx := some c } } }
        let s := takeCtx s c x
        if st ≠ 0 then commitCtx s c st 0 0
        else startCtx (if isAdmin x 0x84 then sanRegister s x else s) c

/-- The response of a tunnelled command: completion DW0, DW1 and DW3, and the part of its data that the request asks for. -/
def tunnelEnd (s : State) (k : Nat) (r : OobReq) (c : Nat) (x : Ctx) : State :=
  let d := x.raw.foldl (fun b y => fit b y.1 ++ y.2) []
  let flags := byteAt r.msg 5
  let off := if bits flags 1 1 = 1 then fieldAt r.msg 28 4 else 0
  let len := if bits flags 0 1 = 1 then fieldAt r.msg 32 4 else d.length
  let s := slotAnswer s k r 0 [] (natLe x.dw0 4 ++ natLe x.dw1 4 ++ natLe (x.err * 131072) 4 ++ (d.drop off).take len)
  freeCtx s c

/-- A slot's tunnelled command: registered when it has no context, answered when its context has committed. -/
def tunnelRun (s : State) (k : Nat) : State :=
  match tget s.oob.slots k with
  | none => s
  | some r =>
    if miKind r.msg ≠ 2 then s
    else
      match r.ctx with
      | none => tunnelStart s k r
      | some c =>
        match ctxOf s c with
        | none => slotAnswer s k r miInternal [] []
        | some x => if x.stage = .committed then tunnelEnd s k r c x else s

/-! The basic management command (R400). -/

/-- The bytes of the block that command code 0 or 8 returns, without its PEC. Bit 7 of the status flags is free (log entry
6). -/
def basicBlock (s : State) (start : Nat) : List Byte × State :=
  if start = 0 then
    let (v, t) := s.fresh
    let fl := 128 * (v % 2) + 64 * b2n (driveNotReady s) + miFlags s + 3
    (natLe 6 1 ++ natLe fl 1 ++ natLe (255 - s.get OOB_HEALTH_CW) 1 ++ natLe (miTemp s) 1 ++ natLe (s.get OOB_HEALTH_PDLU) 1 ++ natLe 0 2, t)
  else (natLe 22 1 ++ natBe 0x1EE9 2 ++ ascii "NY" ++ hexDigits (unitNum s % 2 ^ 72) 18, s)

/-- A block read at BASIC_ADDR: command codes 0 and 8 are answered. -/
def basicRead (s : State) (start : Nat) : State :=
  let a := s.get OOB_CFG_BASIC_ADDR
  if !smbUp s ∨ a = 0 ∨ (start ≠ 0 ∧ start ≠ 8) then s
  else
    let (b, s) := basicBlock s start
    s.emit (.oob 0 0 (b ++ natLe (crc8 (natLe (2 * a) 1 ++ natLe start 1 ++ natLe (2 * a + 1) 1 ++ b)) 1))

end Sys2Proof.Machine
end

