-- ==== Sys2Proof/Machine/OobCmd.lean ====
section
/-! DEFINITION. The commands of the out-of-band endpoint (R396 to R405), and NVMe-MI in band (R245). -/

namespace Sys2Proof.Machine

def execSmbusPacket (bytes : List Byte) (s : State) : Host.Outcome State Fault Refusal := act .oob s fun s => smbPacket s bytes
def execVdmMessage (p : VdmPacket) (s : State) : Host.Outcome State Fault Refusal := act .oob s fun s => vdmPacket s p

/-- The check of a whole message: ports are 0 and 1. -/
def execNvmeMiMessage (port : Nat) (s : State) : Host.Outcome State Fault Refusal := act .oob s fun s =>
  if 2 ≤ port then s else miMessage s port

def execSetEndpointId (port : Nat) (s : State) : Host.Outcome State Fault Refusal := act .oob s fun s =>
  takeControl s port 1 fun s r => setEid s port r
def execGetEndpointId (port : Nat) (s : State) : Host.Outcome State Fault Refusal := act .oob s fun s =>
  takeControl s port 2 fun s r => getEid s port r
def execGetMctpVersionSupport (port : Nat) (s : State) : Host.Outcome State Fault Refusal := act .oob s fun s =>
  takeControl s port 4 fun s r => getVersion s port r
def execGetMessageTypeSupport (port : Nat) (s : State) : Host.Outcome State Fault Refusal := act .oob s fun s =>
  takeControl s port 5 fun s r => getTypes s port r

/-- Read NVMe-MI Data Structure: the response bytes 1 and 2 give the length. -/
def execReadNvmeMiDataStructure (slot : Nat) (s : State) : Host.Outcome State Fault Refusal := act .oob s fun s =>
  slotRun s slot 1 0 fun s r =>
    let (st, d) := miReadDs s (reqD0 r)
    slotAnswer s slot r st (natLe d.length 2) d

/-- The health poll; its Clear Status bit clears the change flags. -/
def execNvmSubsystemHealthStatusPoll (slot : Nat) (s : State) : Host.Outcome State Fault Refusal := act .oob s fun s =>
  slotRun s slot 1 1 fun s r =>
    let d := miHealth s
    let s := if bits (reqD1 r) 31 1 = 1 then clearFlags s else s
    slotAnswer s slot r 0 [] d

def execControllerHealthStatusPoll (slot : Nat) (s : State) : Host.Outcome State Fault Refusal := act .oob s fun s =>
  slotRun s slot 1 2 fun s r =>
    let l := miPoll s (reqD0 r)
    slotAnswer s slot r 0 (natLe 0 2 ++ natLe l.length 1) (l.flatMap (miCtrlHealth s))

def execConfigurationGet (slot : Nat) (s : State) : Host.Outcome State Fault Refusal := act .oob s fun s =>
  slotRun s slot 1 4 fun s r =>
    match miGet s (reqD0 r) with
    | some v => slotAnswer s slot r 0 (natLe v 3) []
    | none => slotAnswer s slot r miParam [] []

def execConfigurationSet (slot : Nat) (s : State) : Host.Outcome State Fault Refusal := act .oob s fun s =>
  slotRun s slot 1 3 fun s r => slotSet s slot r

def execVpdRead (slot : Nat) (s : State) : Host.Outcome State Fault Refusal := act .oob s fun s =>
  slotRun s slot 1 5 fun s r =>
    match miVpdRead s (reqD0 r) (reqD1 r) with
    | some d => slotAnswer s slot r 0 [] d
    | none => slotAnswer s slot r miParam [] []

def execVpdWrite (slot : Nat) (s : State) : Host.Outcome State Fault Refusal := act .oob s fun s =>
  slotRun s slot 1 6 fun s r =>
    let (st, s) := miVpdWrite s (reqD0 r) (reqD1 r) (r.msg.drop 16)
    slotAnswer s slot r st [] []

/-- Reset: an NVM Subsystem Reset is not supported. -/
def execNvmeMiReset (slot : Nat) (s : State) : Host.Outcome State Fault Refusal := act .oob s fun s =>
  slotRun s slot 1 7 fun s r => slotAnswer s slot r miParam [] []

def execTunnelledAdminCommand (slot : Nat) (s : State) : Host.Outcome State Fault Refusal := actHealth .tunnel s fun s => tunnelRun s slot

def execBasicManagementRead (start : Nat) (s : State) : Host.Outcome State Fault Refusal := act .oob s fun s => basicRead s start

/-- A read of the Alert Response Address (R404): the endpoint answers with its address, and releases ALERT_N when it wins. -/
def execAlertResponseAddressRead (won : Bool) (s : State) : Host.Outcome State Fault Refusal := act .oob s fun s =>
  if !smbUp s ∨ !s.oob.alert ∨ !won then s
  else
    alertRelease (s.emit (.oob 0 0x0C (natLe (s.get OOB_ADDR_SMB_ADDR * 2) 1)))

def execSmbusClockLowTimeout (s : State) : Host.Outcome State Fault Refusal := act .oob s fun s =>
  (s.set OOB_STATUS_SMB_TIMEOUT 1).bump OOB_CNTn_COUNT 5

/-- Swapped lines (R405). -/
def execSmbSwapDetect (s : State) : Host.Outcome State Fault Refusal := act .oob s fun s =>
  { s.set OOB_STATUS_SMB_SWAPPED 1 with oob := { s.oob with swapped := true } }
def execSmbSwapResume (s : State) : Host.Outcome State Fault Refusal := act .oob s fun s =>
  if s.on OOB_STATUS_SMB_SWAPPED then s else { s with oob := { s.oob with swapped := false } }

/-- A write of FW_READY (R399): when it clears, every request in a slot is answered with Internal Error. -/
def execFwReadyWrite (value : Bool) (s : State) : Host.Outcome State Fault Refusal := actHealth .oob s fun s =>
  if value then s.set OOB_CTRL_FW_READY 1 else answerInternal (s.set OOB_CTRL_FW_READY 0)

/-! NVMe-MI in band. -/

/-- Dword 0 of the completion: status and response bytes. -/
def miDw0 (status resp : Nat) : Nat := status + 256 * (resp % 2 ^ 24)

/-- NVMe-MI Send: the commands that take data or none: Configuration Set, VPD Write, Reset. `m` is the data. -/
def execNvmeMiSend (ctx : Nat) (m : List Byte) (s : State) : Host.Outcome State Fault Refusal := act .manage s fun s =>
  fwRun s ctx false 0x1D fun s x =>
    let op := bits x.sqe.cdw11 0 8
    if op = 3 then
      match miSet s x.sqe.cdw12 x.sqe.cdw13 with
      | some o => fwPost { s with oob := o } ctx 0 0 0
      | none => fwPost s ctx 0 (miDw0 miParam 0) 0
    else if op = 6 then
      let (st, s) := miVpdWrite s x.sqe.cdw12 x.sqe.cdw13 (m.take (bits x.sqe.cdw13 0 16))
      fwPost s ctx 0 (miDw0 st 0) 0
    else if op = 7 then fwPost s ctx 0 (miDw0 miParam 0) 0
    else fwPost s ctx 0 (miDw0 miOpcode 0) 0

/-- NVMe-MI Receive: the commands that return data. -/
def execNvmeMiReceive (ctx : Nat) (s : State) : Host.Outcome State Fault Refusal := act .manage s fun s =>
  fwRun s ctx false 0x1E fun s x =>
    let d0 := x.sqe.cdw12
    let d1 := x.sqe.cdw13
    let done (s : State) (st resp : Nat) (d : List Byte) : State :=
      fwPost (fwData s x ctx 0 (d.take (dataLen s x))) ctx 0 (miDw0 st resp) 0
    match bits x.sqe.cdw11 0 8 with
    | 0 => let (st, d) := miReadDs s d0; done s st d.length d
    | 1 =>
      let d := miHealth s
      done (if bits d1 31 1 = 1 then clearFlags s else s) 0 0 d
    | 2 => let l := miPoll s d0; done s 0 (l.length * 65536) (l.flatMap (miCtrlHealth s))
    | 4 => (match miGet s d0 with | some v => done s 0 v [] | none => done s miParam 0 [])
    | 5 => (match miVpdRead s d0 d1 with | some d => done s 0 0 d | none => done s miParam 0 [])
    | _ => done s miOpcode 0 []

end Sys2Proof.Machine
end

