-- ==== Sys2Proof/Machine/FchCmd.lean ====
section
/-! DEFINITION. The commands of the flash channels (R62 to R92, R97). -/

namespace Sys2Proof.Machine

/-! Enables and training. -/

/-- FCH_GCTRL.ENABLE set: the dens that waited train, the rings are served (R67). -/
def execFchEnable (s : State) : Host.Outcome State Fault Refusal := act .channels s fun s =>
  if s.on FCH_GCTRL_ENABLE then s
  else
    let s := s.set FCH_GCTRL_ENABLE 1
    let s := s.fch.denWait.foldl startDen s
    (List.range 16).foldl ringServe s

/-- FCH_DEN_CFG.ENABLE set: the den trains, or waits for FCH_GCTRL.ENABLE (R64, R67). -/
def execDenEnable (den : Nat) (s : State) : Host.Outcome State Fault Refusal := act .training s fun s =>
  if 16 ≤ den ∨ s.on FCH_DEN_CFG_ENABLE den then s
  else if s.on FCH_GCTRL_ENABLE then startDen s den
  else { (s.set FCH_DEN_CFG_ENABLE 1 den) with fch := { s.fch with denWait := s.fch.denWait ++ [den] } }

/-- A training step of a channel finished (R67 to R71). -/
def execTrainingStepComplete (ch : Nat) (o : TrainOutcome) (s : State) : Host.Outcome State Fault Refusal := act .media s fun s =>
  if 256 ≤ ch then s else retrainNext (trainStep s ch o) (ch / 16)

/-- FCH_CH_CTRL.FENCE set (R69, R76). -/
def execChannelFence (ch : Nat) (s : State) : Host.Outcome State Fault Refusal := actMedia .media s fun s =>
  if 256 ≤ ch then s else fenceChannel (s.set FCH_CH_CTRL_FENCE 1 ch) ch

/-- FCH_CH_CTRL.CONT_CHECK set: the check runs once the channel is idle and its den is enabled (R62, R68). -/
def execContCheck (ch : Nat) (fault : Option ContFault) (s : State) : Host.Outcome State Fault Refusal := act .media s fun s =>
  if 256 ≤ ch then s
  else
    let s := s.set FCH_CH_CTRL_CONT_CHECK 1 ch
    chanIdle (setChan s ch { chanOf s ch with contWait := some fault }) ch

/-- FCH_CH_CTRL.RETRAIN set: the channel retrains once it is trained and its operations have finished (R67). -/
def execRetrain (ch : Nat) (s : State) : Host.Outcome State Fault Refusal := act .training s fun s =>
  if 256 ≤ ch then s
  else
    let s := s.set FCH_CH_CTRL_RETRAIN 1 ch
    tryRetrain (setChan s ch { chanOf s ch with retrain := true }) ch

/-- The schedule of a channel's retrains: one is wanted where its time or its temperature says so (R72). -/
def execScheduledRetrain (ch : Nat) (s : State) : Host.Outcome State Fault Refusal := act .training s fun s =>
  if 256 ≤ ch ∨ !s.on FCH_CH_STATUS_TRAINED ch ∨ !retrainDue s ch then s
  else tryRetrain (setChan s ch { chanOf s ch with retrain := true }) ch

/-- The answering operation of a die replaced. -/
def setAnswering (d : DieSt) (r : Running) : DieSt :=
  match d.reads with
  | _ :: t => { d with reads := r :: t }
  | [] => { d with run := some r }

/-- DQS absent on the data-out phase of a die's operation: it is retried once and then ends with TIMEOUT, a retrain is
scheduled, the channel has an event (R72, Table 3.9, log entry 23). An operation of an older epoch is not retried: it ends with
STALE_EPOCH (R78). -/
def execDqsTimeout (die : Nat) (s : State) : Host.Outcome State Fault Refusal := actMedia .media s fun s =>
  match answering (dieOf s die) with
  | none => s
  | some r =>
    if !hasDataOut r.op.kind ∨ !mayAnswer r then s
    else
      let ch := chOf die
      let s := (s.set FCH_CH_STATUS_DQS_TIMEOUT 1 ch).bump FCH_CH_CNT_DQS_TIMEOUT_CNT ch
      let s := setChan s ch { chanOf s ch with retrain := true }
      let d := dieOf s die
      let s :=
        if r.op.retried || staleOp s die r then
          (r.op :: r.merged).foldl (fun s o => endOp s die o (if staleOp s die r then .stale else .timeout))
            (setDieSt s die (dropAnswering d))
        else
          (setDieSt s die (setAnswering d { r with
            op := { r.op with retried := true }, issuedUs := s.timeUs, resumedUs := s.timeUs, ranUs := 0, polledUs := none, ready := false })).emit
            (dieOut die (opCode r.op.kind) r.op.media r.op.count [] [])
      ringServe (chanIdle (channelEvent s ch 1 die false) ch) (denOf die)

/-! Die commands (R75 to R79). -/

/-- A die command complete with a result. -/
def dieResult (s : State) (die result : Nat) : State :=
  (s.set FCH_DIEd_CMD_STS_RESULT result (chOf die) (die % 8)).set FCH_DIEd_CMD_STS_DONE 1 (chOf die) (die % 8)

/-- Whether a die runs a REQUALIFY: every other die command then completes with BAD_STATE (R79). -/
def requalRuns (s : State) (die : Nat) : Bool := (dieOf s die).requal.isSome

/-- FENCE: from active or requalifying (Table 3.5). -/
def execDieFence (die : Nat) (s : State) : Host.Outcome State Fault Refusal := actMedia .media s fun s =>
  if 2048 ≤ die then s
  else if requalRuns s die ∨ (dieState s die ≠ 1 ∧ dieState s die ≠ 4) then dieResult s die 1
  else dieResult (ringServe (chanIdle (fenceDie s die) (chOf die)) (denOf die)) die 0

/-- RETIRE: from fenced (Table 3.5). The die tables keep it (R75). -/
def execRetire (die : Nat) (s : State) : Host.Outcome State Fault Refusal := act .dies s fun s =>
  if 2048 ≤ die then s
  else if requalRuns s die ∨ dieState s die ≠ 2 then dieResult s die 1
  else dieResult (dieRow (s.set FCH_DIEd_STATE 3 (chOf die) (die % 8)) die 0) die 0

/-- Every operation still issued to a die ended by its reset (R89). -/
def resetDie (s : State) (die : Nat) : State :=
  let d := dieOf s die
  let s := setDieSt s die { d with run := none, reads := [], offsets := [] }
  abandonAll (s.emit (dieOut die (opCode .reset) 0 0 [] [])) die (d.run.toList ++ d.reads)

/-- REQUALIFY accepted from the fenced or retired state (R79): its first step is the continuity check of a fenced channel, during which
WP_N is low (R67), else the Reset. A retired die at the last epoch is exhausted (R76). -/
def requalifyDie (s : State) (die : Nat) : State :=
  if 2048 ≤ die then s
  else
    let st := dieState s die
    if requalRuns s die ∨ (st ≠ 2 ∧ st ≠ 3) ∨ !s.on FCH_DEN_STATUS_ACTIVE (denOf die) then dieResult s die 1
    else if st = 3 ∧ dieEpoch s die = 0xFFFF then dieResult s die 3
    else
      let s := if s.on FCH_CH_STATUS_FENCED (chOf die) then s else resetDie s die
      updWp (setDieSt s die { dieOf s die with requal := some st }) (denOf die)

def execRequalify (die : Nat) (s : State) : Host.Outcome State Fault Refusal := actMedia .media s fun s => requalifyDie s die

/-- A REQUALIFY failed: the die is back where it was, and its epoch advances with its record (R76, R79). -/
def requalFail (s : State) (die from_ : Nat) : State :=
  let e := dieEpoch s die
  let s := if e = 0xFFFF then dieRow (s.set FCH_DIEd_STATE 3 (chOf die) (die % 8)) die 0
    else dieEpochRec ((s.set FCH_DIEd_STATE from_ (chOf die) (die % 8)).set FCH_DIEd_EPOCH (e + 1) (chOf die) (die % 8)) die
  dieResult s die 2

/-- A REQUALIFY ended: the continuity check of a fenced channel and, where it passes, the Reset; the identification, steps 5 and 6
(R69, R79). -/
def execRequalifyDone (die : Nat) (fault : Option ContFault) (id : DieId) (pass : Bool) (s : State) :
    Host.Outcome State Fault Refusal := act .media s fun s =>
  match (dieOf s die).requal with
  | none => s
  | some st =>
    let ch := chOf die
    let s := setDieSt s die { dieOf s die with requal := none }
    if s.on FCH_CH_STATUS_FENCED ch ∧ fault ≠ none then requalFail (updWp (contOutcome s ch fault) (denOf die)) die st
    else
      let s :=
        if s.on FCH_CH_STATUS_FENCED ch then resetDie (updWp (contOutcome (s.set FCH_CH_STATUS_FENCED 0 ch) ch none) (denOf die)) die
        else s
      let s := setDieSt s die { dieOf s die with ident := id.id }
      match (if id.responds then matchModel s id else none) with
      | none => requalFail s die st
      | some m =>
        let r := declares6400 s m id.ppage
        if (s.get FCH_DEN_STATUS_RATE (denOf die) = 5 ∧ !r) ∨ !pass then requalFail s die st
        else
          let s := (s.set FCH_DIEd_MODEL m ch (die % 8)).set FCH_DIEd_RATE_6400 (b2n r) ch (die % 8)
          let s := s.set FCH_CH_STATUS_TRAINED 1 ch
          dieResult (s.set FCH_DIEd_STATE 4 ch (die % 8)) die 0

/-- ACTIVATE: from requalifying (Table 3.5). The die's grown bad-block entries end, but for those of blocks whose erase failed (R152). -/
def activateDie (s : State) (die : Nat) : State :=
  if 2048 ≤ die then s
  else if requalRuns s die ∨ dieState s die ≠ 4 then dieResult s die 1
  else
    let s := dieRow (s.set FCH_DIEd_STATE 1 (chOf die) (die % 8)) die 0
    dieResult { s with media := { s.media with grown := s.media.grown.filter fun g => g.die ≠ die || g.reason = 2 } } die 0

def execActivate (die : Nat) (s : State) : Host.Outcome State Fault Refusal := act .dies s fun s => activateDie s die

/-- STATE of a die written with fenced or retired before LOCK (R75). -/
def execDieStateRestore (die : Nat) (state : Nat) (s : State) : Host.Outcome State Fault Refusal := actMedia .media s fun s =>
  if 2048 ≤ die ∨ s.on FCH_GCTRL_LOCK ∨ (state ≠ 2 ∧ state ≠ 3) then s
  else ringServe (chanIdle (restoreDie s die state) (chOf die)) (denOf die)

/-! Rings (R86). -/

/-- FCH_DEN_RING_CFG.ENABLE set: RING_HEAD is 0, and descriptors up to RING_TAIL are read. -/
def execRingEnable (den : Nat) (s : State) : Host.Outcome State Fault Refusal := act .channels s fun s =>
  if 16 ≤ den then s
  else ringServe ((s.set FCH_DEN_RING_CFG_ENABLE 1 den).set FCH_DEN_RING_HEAD_INDEX 0 den) den

/-- RING_TAIL written: descriptors up to it are read. A tail outside the ring is no index of it. -/
def execRingTailWrite (den : Nat) (tail : Nat) (s : State) : Host.Outcome State Fault Refusal := act .channels s fun s =>
  if 16 ≤ den ∨ ringSize s den ≤ tail then s
  else ringServe (s.set FCH_DEN_RING_TAIL_INDEX tail den) den

/-! Operations of a die. -/

/-- A die whose next operation lacks tokens takes its place among those that wait (R84). -/
def tokenWaits (s : State) (die : Nat) : State :=
  match nextOp s die with
  | none => s
  | some o =>
    if tokensFor s die o ∨ s.fch.tokenQ.contains die = true then s
    else { s with fch := { s.fch with tokenQ := s.fch.tokenQ ++ [die] } }

/-- The scheduler issues a die's next operation where its tokens allow and its channel's bus serves it; else the operation begins to
wait, and only one of class 0 issues (R81, R83, R84). -/
def execMediaOperationIssue (die : Nat) (s : State) : Host.Outcome State Fault Refusal := act .dies s fun s =>
  if !chanRuns s die then s
  else
    let s := tokenWaits s die
    match issueNow s die with
    | none => s
    | some o =>
      if !busTurn s die then s
      else
        let s := if tokensFor s die o && o.cls ≠ 0 then noTokenWait s die else s
        ringServe (busServed (issueOp s die o) die) (denOf die)

/-- A poll of a die's operation by Read Status Enhanced, at its time (R73, R74). A poll result of an older epoch ends the operation
(R77); one that reads RDY and ARDY is followed by the operation's response. -/
def execStatusPoll (die : Nat) (status : Nat) (s : State) : Host.Outcome State Fault Refusal := actMedia .media s fun s =>
  match answering (dieOf s die) with
  | none => s
  | some r =>
    if !pollDue s die r then s
    else
      let s := s.emit (dieOut die opPoll r.op.media 0 [(status : Int)] [])
      if staleOp s die r then
        ringServe (chanIdle (discard (setDieSt s die (dropAnswering (dieOf s die))) die r) (chOf die)) (denOf die)
      else
        setDieSt s die (setAnswering (dieOf s die) { r with polledUs := some (runTime s r), ready := statusReady status })

/-- The reset that FCH sends after a poll timeout. -/
def lunReset (s : State) (die : Nat) : Running :=
  ⟨⟨.fch, .reset, 0, 0, false, die * 2 ^ 31, 1, false, s.timeUs, dieEpoch s die, 0, false, [], none, 0, none⟩, [],
    s.timeUs, s.timeUs, 0, 0, false, 0, 0, false, none, false⟩

/-- An operation not ready by its timeout: TIMEOUT, Reset LUN, the other operations of the die abandoned, a die fault
event; a reset that times out is followed by no further reset (R74, R89). -/
def execPollTimeout (die : Nat) (s : State) : Host.Outcome State Fault Refusal := actMedia .media s fun s =>
  let d := dieOf s die
  match answering d with
  | none => s
  | some r =>
    if !pollExpired s die r then s else
    let s := s.bump FCH_DIEd_CNT_POLL_TIMEOUT_CNT (chOf die) 1 (die % 8)
    let rest := dropAnswering d
    let reset := r.op.kind ≠ .reset
    let s :=
      if reset then
        (setDieSt s die { rest with run := some (lunReset s die), reads := [], offsets := [] }).emit (dieOut die opResetLun 0 0 [] [])
      else setDieSt s die rest
    let s := (r.op :: r.merged).foldl (fun s o => endOp s die o (if staleOp s die r then .stale else .timeout)) s
    let s := if reset then abandonAll s die (rest.run.toList ++ rest.reads) else s
    ringServe (chanIdle (dieEvent s die 1 r.op.media) (chOf die)) (denOf die)

/-- A response of a die whose operation a poll has read ready: epoch check, then status and data to their source, tokens released
(R73, R77, R86, R97, R101). A data-out phase waits for its turn on the channel's bus (R83). -/
def execMediaOperationComplete (die : Nat) (r : DieResponse) (s : State) : Host.Outcome State Fault Refusal := actMedia .media s fun s =>
  let d := dieOf s die
  match answering d with
  | none => s
  | some x =>
    let transfer := hasDataOut x.op.kind && !staleOp s die x
    if !mayAnswer x ∨ (transfer && !busTurn s die) = true then s else
    let s := setDieSt (if transfer then busServed s die else s) die (dropAnswering d)
    let s :=
      if staleOp s die x then discard s die x
      else
        match x.op.kind with
        | .read => readAnswers s die x (x.op :: x.merged) r.words
        | .program | .erase => writeAnswer s die x.op r.fail
        | _ =>
          (match x.op.src with
            | .desc den i =>
              let buf := readLeD s (descAddr s den i + 16) 8
              descEnd (if x.op.kind = .reset ∨ x.op.kind = .setFeatures then s else storeBytes s buf r.bytes) den i 1
            | _ => s)
    ringServe (chanIdle s (chOf die)) (denOf die)

/-- The scheduler suspends a die's program or erase where R87 or R106 holds. -/
def execMediaSuspend (die : Nat) (s : State) : Host.Outcome State Fault Refusal := act .training s fun s =>
  let d := dieOf s die
  match d.run with
  | none => s
  | some r =>
    if maySuspend s die ∧ chanRuns s die then
      let r2 := { r with suspended := true, ranUs := runTime s r, suspends := r.suspends + 1, readsInSuspend := 0 }
      let s := (setDieSt s die { d with run := some r2 }).bump FCH_DIEd_CNT_SUSPEND_CNT (chOf die) 1 (die % 8)
      s.emit (dieOut die opSuspend r.op.media 0 [] [])
    else s

/-- Whether a suspended operation resumes now (R88, R90). -/
def mayResume (s : State) (die : Nat) : Bool :=
  let d := dieOf s die
  match d.run with
  | none => false
  | some r => r.suspended && d.reads = [] && (nextOp s die).isNone && !(s.fch.flushing && r.op.kind = .erase)

/-- A suspended operation resumed. -/
def resumeRun (s : State) (die : Nat) : State :=
  let d := dieOf s die
  match d.run with
  | none => s
  | some r =>
    let s := setDieSt s die { d with run := some { r with suspended := false, resumedUs := s.timeUs } }
    s.emit (dieOut die opResume r.op.media 0 [] [])

/-- The scheduler resumes a die's suspended operation (R88). -/
def execMediaResume (die : Nat) (s : State) : Host.Outcome State Fault Refusal := act .training s fun s =>
  if mayResume s die then resumeRun s die else s

/-- The class that an aged operation competes as (R81). -/
def agedClass (o : MOp) : Nat :=
  if o.kind = .program then 1 else if o.kind = .read ∧ o.cls = 4 then 3 else if o.kind = .erase then 3 else o.eff

/-- Whether a queued operation has waited longer than its age limit (R81). -/
def agedNow (s : State) (den : Nat) (o : MOp) : Bool :=
  let past (ms : Nat) : Bool := decide (1000 * ms < s.timeUs - o.queuedUs)
  if o.kind = .program then past (s.get FCH_DEN_AGE_AGE_PROG den)
  else if o.kind = .read ∧ o.cls = 4 then past (s.get FCH_DEN_AGE_AGE_BGREAD den)
  else if o.kind = .erase then past (s.get FCH_DEN_AGE_AGE_ERASE den)
  else false

/-- A queued operation, by its place in the queue, that has waited past its age limit competes in a higher class (R81). -/
def execAgingPromotion (die : Nat) (op : Nat) (s : State) : Host.Outcome State Fault Refusal := act .dies s fun s =>
  let d := dieOf s die
  let raise (i : Nat) (o : MOp) : MOp := if i = op ∧ agedNow s (denOf die) o = true then { o with eff := min o.eff (agedClass o) } else o
  setDieSt s die { d with queue := d.queue.mapIdx raise }

end Sys2Proof.Machine
end

