-- ==== Sys2Proof/Machine/PwrOps.lean ====
section
/-! DEFINITION. Power and temperature: the governor, the clamp and the host floor (R378, R382, R384 to R388), and the power-fail
flush (R389 to R393). -/

namespace Sys2Proof.Machine

/-! Outcomes. -/

/-- The outcome of an event that PWR sees: its effect while the rails are in range (R335, R391). -/
def actPwr (r : Reach) (s : State) (f : State → State) : Host.Outcome State Fault Refusal :=
  if s.phase = .off then .next s else .next (confine r s (f s))

/-! The flush. -/

/-- Whether the flush keeps a command: its status is final, or all its data stands in staging (R390). -/
def flushKeeps (x : Ctx) : Bool := x.stage = .committed || x.stage = .draining || x.staged

/-- CMD stops fetch, and drops every command that the flush does not keep (R390). -/
def flushCommands (s : State) : State :=
  let s := { s with cmd := { s.cmd with flushStop := true } }
  ((s.cmd.ctxs.filter fun x => !flushKeeps x.2).map Prod.fst).foldl dropCtx s

/-- A die's scheduler at the start of a flush (R90): operations of classes 1, 2, 4 and 5 end DROPPED, programs compete above
class 1, and a suspended program resumes. -/
def flushDie (s : State) (die : Nat) : State :=
  let d := dieOf s die
  let s := setDieSt s die { d with queue := (d.queue.filter fun o => !flushDrops s o.cls).map (flushRaise s) }
  let s := (d.queue.filter fun o => flushDrops s o.cls).foldl (fun s o => endOp s die o .dropped) s
  let e := dieOf s die
  match e.run with
  | some r => if r.suspended ∧ r.op.kind = .program ∧ e.reads = [] then resumeRun s die else s
  | none => s

/-- What the blocks do in the cycle in which a flush starts (R90, R390, R394, R399). -/
def flushBlocks (s : State) : State :=
  let s := answerInternal (s.set OOB_CTRL_FW_READY 0)
  let s := flushCommands { s with fch := { s.fch with flushing := true }, fw := { s.fw with activating := none } }
  let s := (s.fch.dies.map Prod.fst).foldl flushDie s
  let s := (s.cdc.copies.map Prod.fst).foldl (fun s n => copyEnd s n cpDropped 63) s
  let s := (List.range 16).foldl rebuildAbort s
  let s := (s.bur.fills.map Prod.fst).foldl cancelFill s
  updThrottle s

/-- A flush started with a cause: 1 PFAIL_N, 2 clock loss, 3 thermal (R389, R390). A trigger during a flush joins it. -/
def startFlush (s : State) (cause : Nat) : State :=
  if s.on PWR_STATE_FLUSH_ACTIVE then { s with pwr := { s.pwr with thermal := s.pwr.thermal || decide (cause = 3) } }
  else
    let s := { s with pwr := { s.pwr with flushUs := s.timeUs, flushNj := 0, flushMark := 0, thermal := decide (cause = 3) } }
    let s := (kickDurable (healthDiff s (flushBlocks s))).bump PWR_CNTn_COUNT 6
    (((s.set PWR_FLUSH_ENERGY_MJ 0).set PWR_STATUS_FLUSH 1).set PWR_STATE_CAUSE cause).set PWR_STATE_FLUSH_ACTIVE 1

/-- THERM_TRIP_N asserted (R388). -/
def tripOn (s : State) : State := { s.emit (.pin .thermTripN (some false)) with pwr := { s.pwr with tripped := true } }


/-- A flush ended: the blocks are held, and a thermal shutdown asserts THERM_TRIP_N (R388, R391). -/
def endFlush (s : State) : State :=
  let t := updPs (holdBlocks (s.set PWR_STATE_FLUSH_ACTIVE 0))
  let t := { t with pwr := { t.pwr with thermal := false } }
  if s.pwr.thermal then tripOn t else t

/-- FLUSH_MARK (R391): a record of type 0x81 with the cause and the energy. -/
def flushMarkAppend (s : State) : State :=
  if s.on PWR_STATE_FLUSH_ACTIVE ∧ s.on MAP_CTRL_ENABLE then
    appendFw s ⟨0x81, 0, s.get PWR_STATE_CAUSE, s.get PWR_FLUSH_ENERGY_MJ⟩
  else s

/-! The governor (R382). -/

/-- The budget of the effective state in mW (Table 17.1). -/
def budgetMw (s : State) : Nat :=
  1000 * (match s.get PWR_STATE_PS with
    | 0 => min 285 (s.get PWR_CFG_CAP_W)
    | 1 => 220
    | 2 => 160
    | 3 => 100
    | _ => 35)

/-- P raised by an average above the budget, at most once in a millisecond; at 7 OVER_BUDGET is set. -/
def governUp (s : State) : State :=
  if s.get PWR_STATE_P = 7 then s.set PWR_STATUS_OVER_BUDGET 1
  else if 1000 ≤ s.pwr.sinceRise then
    { s.set PWR_STATE_P (s.get PWR_STATE_P + 1) with pwr := { s.pwr with sinceRise := 0 } }
  else s

/-- P lowered when the average has stayed below 90 % of the budget for 10 ms. -/
def governDown (s : State) (avg : Nat) : State :=
  if 10 * avg < 9 * budgetMw s then
    let t := s.pwr.belowUs + 50
    if 10000 ≤ t then { s.set PWR_STATE_P (s.get PWR_STATE_P - 1) with pwr := { s.pwr with belowUs := 0 } }
    else { s with pwr := { s.pwr with belowUs := t } }
  else { s with pwr := { s.pwr with belowUs := 0 } }

/-- THROTTLE follows the terms, while FCH is out of reset. -/
def updLevels (s : State) : State := if s.live then updThrottle s else s

/-- The power of one 50 µs frame in mW: the average of the last millisecond, the energy of a flush, and P (R382, R390). -/
def powerSample (s : State) (mw : Nat) : State :=
  let l := (mw :: s.pwr.samples).take 20
  let avg := l.foldl (· + ·) 0 / l.length
  let nj := if s.on PWR_STATE_FLUSH_ACTIVE then s.pwr.flushNj + 50 * mw else s.pwr.flushNj
  let s := { s with pwr := { s.pwr with samples := l, sinceRise := min 1000 (s.pwr.sinceRise + 50), flushNj := nj } }
  let s := s.set PWR_POWER_AVG_MW (min avg (2 ^ 19 - 1))
  let s := if s.on PWR_STATE_FLUSH_ACTIVE then s.set PWR_FLUSH_ENERGY_MJ (min 65535 (nj / 1000000)) else s
  if !s.on PWR_CTRL_ENABLE then updLevels ((s.set PWR_STATE_P 0))
  else
    let s := if budgetMw s < avg then governUp s else s
    updLevels (governDown s avg)

/-! Temperatures (R384 to R388). -/

/-- First sensor and number of sensors of an element (Table 17.2). -/
def elemSensors (k : Nat) : Nat × Nat :=
  if k < 16 then (4 * k, 4)
  else if k < 20 then (64 + 2 * (k - 16), 2)
  else if k < 28 then (72 + (k - 20), 1)
  else if k = 28 then (80, 1)
  else if k = 29 then (81, 1)
  else if k = 30 then (82, 2)
  else (84, 1)

/-- The reading of an element in 1/8 °C, 0 below 0 °C. -/
def elemReading (l : List Nat) (k : Nat) : Nat :=
  let (a, n) := elemSensors k
  min 4095 (maxOf ((List.range n).map fun i => l.getD (a + i) 0))

/-- The reading of one element stored, with its maximum. -/
def putReading (s : State) (k v : Nat) : State :=
  (s.set PWR_ELEMk_TEMP_TEMP v k).set PWR_ELEMk_TEMP_MAX (max v (s.get PWR_ELEMk_TEMP_MAX k)) k

/-- Readings of dens and ports as inputs of their thermal cells (R127), and a den's temperature for its retrains. -/
def cellReading (s : State) (k v : Nat) : State :=
  let s :=
    if k < 20 ∧ s.on TRK_CTRL_TH_ENABLE ∧ s.on TRK_THn_CFG_ENABLE k then
      let (sum, n) := tgetD s.trk.readings k (0, 0)
      { s with trk := { s.trk with readings := tput s.trk.readings k (sum + v, n + 1) } }
    else s
  if k < 16 then { s with fch := { s.fch with temps := tput s.fch.temps k v } } else s

/-- A count of minutes or seconds fed with 50 µs. -/
def feed (us unit : Nat) : Nat × Nat := ((us + 50) % unit, (us + 50) / unit)

/-- Warning and Critical Composite Temperature Time (R385). -/
def tempTimes (s : State) : State :=
  let t := kelvin (compTemp s)
  let (w, wn) := if 368 ≤ t then feed s.pwr.warnUs 60000000 else (s.pwr.warnUs, 0)
  let (c, cn) := if 378 ≤ t then feed s.pwr.critUs 60000000 else (s.pwr.critUs, 0)
  let s := (s.bump PWR_CNTn_COUNT 0 wn).bump PWR_CNTn_COUNT 1 cn
  { s with pwr := { s.pwr with warnUs := w, critUs := c } }

/-- H at a composite temperature in kelvin: a threshold raises it, and holds it until 2 K below (R386). -/
def hostFloor (s : State) (t : Nat) : Nat :=
  let h := s.get PWR_STATE_H
  let t1 := s.get PWR_HCTM_TMT1
  let t2 := s.get PWR_HCTM_TMT2
  if t2 ≠ 0 ∧ (t2 ≤ t ∨ (h = 5 ∧ t2 < t + 2)) then 5
  else if t1 ≠ 0 ∧ (t1 ≤ t ∨ (2 ≤ h ∧ t1 < t + 2)) then 2
  else 0

/-- H brought up to date: its transitions and times counted. -/
def updHost (s : State) : State :=
  let old := s.get PWR_STATE_H
  let h := if s.on PWR_CTRL_ENABLE then hostFloor s (kelvin (compTemp s)) else 0
  let s := if h = old then s else (s.set PWR_STATE_H h).set PWR_STATUS_HCTM 1
  let s := if h = 2 ∧ old < 2 then s.bump PWR_CNTn_COUNT 2 else s
  let s := if h = 5 ∧ old < 5 then s.bump PWR_CNTn_COUNT 3 else s
  let (a, an) := if h = 2 then feed s.pwr.tmt1Us 1000000 else (s.pwr.tmt1Us, 0)
  let (b, bn) := if h = 5 then feed s.pwr.tmt2Us 1000000 else (s.pwr.tmt2Us, 0)
  let s := (s.bump PWR_CNTn_COUNT 4 an).bump PWR_CNTn_COUNT 5 bn
  { s with pwr := { s.pwr with tmt1Us := a, tmt2Us := b } }

/-- C brought up to date (R387). -/
def updClamp (s : State) : State :=
  let top := compTemp s
  if !s.on PWR_CTRL_ENABLE then s.set PWR_STATE_C 0
  else if s.get PWR_STATE_C ≠ 7 ∧ 8 * s.get PWR_CFG_CLAMP_C ≤ top then
    ((s.set PWR_STATE_C 7).set PWR_STATUS_THERM_CLAMP 1).bump PWR_CNTn_COUNT 7
  else if top < 8 * (s.get PWR_CFG_CLAMP_C - 5) then s.set PWR_STATE_C 0
  else s

/-- Whether some element has stood at or above SHUT_C in the last frame and in this one (R388). -/
def shutDue (s : State) (l : List Nat) : Bool :=
  (List.range 32).any fun k => decide (8 * s.get PWR_CFG_SHUT_C ≤ elemTemp s k) && decide (8 * s.get PWR_CFG_SHUT_C ≤ l.getD k 0)

/-- One 50 µs frame of the 85 sensors, in the order of Table 17.2, in 1/8 °C. -/
def sensorFrame (s : State) (readings : List Nat) : State :=
  let l := (List.range 32).map (elemReading readings)
  let shut := shutDue s l
  let s := (l.zip (List.range 32)).foldl (fun s x => putReading s x.2 x.1) s
  let s := if s.live then (l.zip (List.range 20)).foldl (fun s x => cellReading s x.2 x.1) s else s
  let s := updLevels (updClamp (updHost (tempTimes s)))
  let s := if s.live then healthDiff s (updTempWarn s) else s
  if s.on PWR_STATE_FLUSH_ACTIVE ∧ s.pwr.thermal ∧ 8 * (s.get PWR_CFG_SHUT_C + 5) ≤ compTemp s then endFlush (noShutdownPage s)
  else if shut && s.live then startFlush s 3
  else s

end Sys2Proof.Machine
end

