-- ==== Sys2Proof/Machine/PwrCmd.lean ====
section
/-! DEFINITION. The events of PWR and of the power-fail flush (R20, R382, R384 to R394). A flush starts while the cores run
(R335, R389); a thermal shutdown also while the ROM is halted. -/

namespace Sys2Proof.Machine

def execPowerSample (mw : Nat) (s : State) : Host.Outcome State Fault Refusal := actPwr .govern s fun s => powerSample s mw
def execSensorFrame (readings : List Nat) (s : State) : Host.Outcome State Fault Refusal := actPwr .reset s fun s => sensorFrame s readings

/-- The analog comparator (R388): independent of all logic. -/
def execAnalogThermalTrip (s : State) : Host.Outcome State Fault Refusal := actPwr .trip s tripOn

/-- PFAIL_N has been low for 1 µs (R389). -/
def execPfailAssert (s : State) : Host.Outcome State Fault Refusal := actPwr .flushStart s fun s =>
  if s.phase = .running then startFlush s 1 else s

/-- REFCLK_MAIN is lost (R20). -/
def execClockLoss (s : State) : Host.Outcome State Fault Refusal := actPwr .flushStart s fun s =>
  let s := s.set SYS_STATUS_CLK_LOSS 1
  if s.phase = .running then startFlush s 2 else s

def execFlushMark (s : State) : Host.Outcome State Fault Refusal := act .journal s flushMarkAppend

/-- PWR_FLUSH_CTL.DONE written: ignored when no flush runs. The health counters have been written by then (R391). -/
def execFlushDone (s : State) : Host.Outcome State Fault Refusal := actPwr .reset s fun s =>
  if s.on PWR_STATE_FLUSH_ACTIVE then endFlush (exportKeys (saveHealth (s.set PWR_FLUSH_CTL_DONE 1))) else s

/-- FLUSH_LIMIT ms after the start of a flush (R391). -/
def execFlushLimit (s : State) : Host.Outcome State Fault Refusal := actPwr .reset s fun s =>
  if s.on PWR_STATE_FLUSH_ACTIVE ∧ s.pwr.flushUs + 1000 * s.get PWR_CFG_FLUSH_LIMIT ≤ s.timeUs then endFlush (noShutdownPage s) else s

/-- The end of holdover, 30 ms after the loss of REFCLK_MAIN: it ends a flush that the loss caused (R20, R391). -/
def execHoldoverEnd (s : State) : Host.Outcome State Fault Refusal := actPwr .reset s fun s =>
  if s.on PWR_STATE_FLUSH_ACTIVE ∧ s.get PWR_STATE_CAUSE = 2 ∧ s.pwr.flushUs + 30000 ≤ s.timeUs then endFlush (noShutdownPage s) else s

/-- A write of PWR_HOLDUP_MEAS by device firmware (R172, R393). -/
def execHoldupMeasurement (mj : Nat) (s : State) : Host.Outcome State Fault Refusal := actHealth .holdup s fun s => holdupMeasured s mj

end Sys2Proof.Machine
end

