-- ==== Sys2Proof/Machine/SysCmd.lean ====
section
/-! DEFINITION. The commands of SYS beside the starts: OTP programming (R350), SPI NOR access after boot (R355, R356), and the
training of the channels that hold no Sett die (R346). -/

namespace Sys2Proof.Machine

/-! OTP. -/

/-- ADVANCE_SECVER: the version is in SYS_OTP_ARG. -/
def execAdvanceSecver (progOk : Bool) (s : State) : Host.Outcome State Fault Refusal :=
  act .oneTime s fun s => otpAdvance s (s.get SYS_OTP_ARG_V) progOk

/-- REVOKE_KEY: the key index is in SYS_OTP_ARG. -/
def execRevokeKey (progOk : Bool) (s : State) : Host.Outcome State Fault Refusal :=
  act .oneTime s fun s => otpRevoke s (s.get SYS_OTP_ARG_V) progOk

/-- BURN_REMAP: group, entry and word are in SYS_OTP_ARG. -/
def execBurnRemap (progOk : Bool) (s : State) : Host.Outcome State Fault Refusal :=
  act .oneTime s fun s => otpRemap s (s.get SYS_OTP_ARG_V) progOk

/-! SPI NOR. -/

/-- Bytes of one of the two NOR banks: half the density (R340). -/
def norBankBytes (s : State) : Nat := 2 ^ (s.get SYS_SPI_CFG_DENSITY) / 16

/-- The bank of a NOR address. -/
def norBank (s : State) (a : Nat) : Nat := if a < norBankBytes s then 0 else 1

/-- Whether a bank is busy, and the mark set or cleared. -/
def bankIsBusy (s : State) (b : Nat) : Bool := if b = 0 then s.on SYS_SPI_STAT_BUSY0 else s.on SYS_SPI_STAT_BUSY1
def setBankBusy (s : State) (b v : Nat) : State := if b = 0 then s.set SYS_SPI_STAT_BUSY0 v else s.set SYS_SPI_STAT_BUSY1 v

/-- The marks of a program or erase addressed to a bank: that bank, or both while RWW is 0 (R355). -/
def markBusy (s : State) (b v : Nat) : State :=
  if s.on SYS_SPI_CFG_RWW then setBankBusy s b v else setBankBusy (setBankBusy s 0 v) 1 v

/-- An SPI command complete (R357). -/
def spiDone (s : State) (result : Nat) : State :=
  (((s.set SYS_SPI_CMD_RESULT result).set SYS_SPI_CMD_DONE 1).set SYS_SPI_CMD_GO 0).set SYS_STATUS_SPI_DONE 1

/-- The bytes of SYS_SPI_DATA, and the first of them replaced. -/
def spiData (s : State) : List Byte := (List.range 32).flatMap fun i => natLe (s.get SYS_SPI_DATA_V i) 8
def setSpiData (s : State) (d : List Byte) : State :=
  let all := d ++ (spiData s).drop d.length
  (List.range 32).foldl (fun s i => s.set SYS_SPI_DATA_V (leAt all (8 * i) 8) i) s

/-- The command of SYS_SPI_CMD sent to the NOR, with the busy mark of a program and the data of a read (R355). -/
def spiSend (s : State) (norData : List Byte) : State :=
  let n := s.get SYS_SPI_CMD_LEN
  let addr := if s.on SYS_SPI_CMD_ADDR_EN then some (s.get SYS_SPI_ADDR_V) else none
  let s := s.emit (.nor (s.get SYS_SPI_CMD_OPCODE) addr (if s.on SYS_SPI_CMD_DIR then (spiData s).take n else []))
  let s := if s.on SYS_SPI_CMD_PROG then markBusy s (norBank s (s.get SYS_SPI_ADDR_V)) 1 else s
  let s := if s.on SYS_SPI_CMD_DIR then s else setSpiData s (fit norData n)
  spiDone s 0

/-- SPI_CMD: GO written. `norData` is what the NOR answers to a read. -/
def execSpiCmd (norData : List Byte) (s : State) : Host.Outcome State Fault Refusal := act .nor s fun s =>
  let bank := norBank s (s.get SYS_SPI_ADDR_V)
  if s.on SYS_SPI_CMD_PROG ∧ !s.on SYS_SPI_CMD_ADDR_EN then spiDone s 4
  else if s.on SYS_SPI_CMD_PROG ∧ bank = s.get SYS_SPI_STAT_BOOT_BANK then spiDone (s.set SYS_STATUS_SPI_PROTECTED 1) 2
  else if !s.on SYS_SPI_CMD_PROG ∧ !s.on SYS_SPI_CMD_DIR ∧ s.on SYS_SPI_CMD_ADDR_EN ∧ bankIsBusy s bank then spiDone s 1
  else spiSend s norData

/-- SPI_STATUS_POLL: Read Status of the device while a bank is busy; WIP 0 clears the mark (R355). -/
def execSpiStatusPoll (bank status : Nat) (s : State) : Host.Outcome State Fault Refusal := act .nor s fun s =>
  if !bankIsBusy s bank then s
  else
    let s := s.emit (.nor 5 none [])
    if bits status 0 1 = 1 then s else markBusy s bank 0

/-! The channels that hold no Sett die. -/

/-- SETT_ONLY_CLEAR: SETT_ONLY written 0; the remaining channels of the enabled dens train (R346). -/
def execSettOnlyClear (s : State) : Host.Outcome State Fault Refusal := act .training s fun s =>
  let t := s.set SYS_CTRL_SETT_ONLY 0
  if !s.on SYS_CTRL_SETT_ONLY ∨ !s.on FCH_GCTRL_ENABLE then t
  else (List.range 16).foldl (fun t den => if s.on FCH_DEN_CFG_ENABLE den then beginTraining t den else t) t

end Sys2Proof.Machine
end

