-- ==== Sys2Proof/Machine/TrkCmd.lean ====
section
/-! DEFINITION. The commands of the tracking engine: enables, frames, bank swaps, the command slots (R118, R123, R125,
R127, R129, R130). -/

namespace Sys2Proof.Machine

/-- The first frame begun when frames start to run (R118). -/
def startFrames (s : State) (ran : Bool) : State := if ran then s else runFrame (s.set TRK_FRAME_FRAME 0)

/-- TRK_ENABLE: sixteen pool 3 buffers for the records; without them ENABLE stays 0 (R129). The records start with
VALID = 0 (log entry 18). -/
def execTrkEnable (s : State) : Host.Outcome State Fault Refusal :=
  act .tracking s fun s =>
    if s.on TRK_CTRL_ENABLE then s
    else
      match claim s 3 16 with
      | none => s.set TRK_STATUS_NO_BUFFER 1
      | some (l, t) =>
        let t := { t with trk := { t.trk with bufs := l, cells := [] } }
        startFrames (t.set TRK_CTRL_ENABLE 1) (s.on TRK_CTRL_TH_ENABLE)

/-- TH_ENABLE (R118, R127). -/
def execThEnable (s : State) : Host.Outcome State Fault Refusal :=
  act .tracking s fun s =>
    if s.on TRK_CTRL_TH_ENABLE then s else startFrames (s.set TRK_CTRL_TH_ENABLE 1) (s.on TRK_CTRL_ENABLE)

/-- A thermal cell at its fixed start (R127). -/
def startThermal (s : State) (n : Nat) : State :=
  let k := s.get TRK_BANK_ACTIVE
  let s := (((s.set TRK_THn_STATE_LEVEL 0 n).set TRK_THn_STATE_OUT 0 n).set TRK_THn_STATE_HYST 0 n).set TRK_THn_STATE_RAMP 0 n
  let s := (s.set TRK_THn_STATE_SAT 0 n).set TRK_THn_STATE_BANK k n
  let s := s.set TRK_THn_STATE_SP (s.get TRK_THCOEFb_g_W0_TARGET k (thSet n)) n
  { s with trk := { s.trk with readings := tdel s.trk.readings n } }

/-- THERMAL_CELL_ENABLE (R127). -/
def execThermalCellEnable (n : Nat) (s : State) : Host.Outcome State Fault Refusal :=
  act .tracking s fun s =>
    if 20 ≤ n ∨ s.on TRK_THn_CFG_ENABLE n then s
    else updThrottle (startThermal (s.set TRK_THn_CFG_ENABLE 1 n) n)

/-- FRAME_START: every 50 µs the frame advances, a swap is taken, and the due cells are evaluated (R118, R123). -/
def execFrameStart (s : State) : Host.Outcome State Fault Refusal :=
  act .tracking s fun s =>
    if s.on TRK_CTRL_ENABLE ∨ s.on TRK_CTRL_TH_ENABLE then
      runFrame (takeSwap (s.set TRK_FRAME_FRAME (s.get TRK_FRAME_FRAME + 1)))
    else s

/-- SWAP: taken at the next frame boundary; ignored while PENDING is 1 (R123). -/
def execSwap (s : State) : Host.Outcome State Fault Refusal :=
  act .tracking s fun s => if s.on TRK_BANK_PENDING then s.set TRK_STATUS_BANK_WR_IGN 1 else s.set TRK_BANK_SWAP 1

/-! Command slots (R130). -/

/-- A slot of TRK completed with a result: 0 OK, 4 BAD_ARG. -/
def trkDone (s : State) (n result : Nat) : State :=
  ((s.set TRK_CMDn_CTL_RESULT result n).set TRK_CMDn_CTL_DONE 1 n).set TRK_CMDn_CTL_GO 0 n

/-- A list of Booleans as a bit mask, first element bit 0. -/
def maskOf : List Bool → Nat
  | [] => 0
  | b :: r => b2n b + 2 * maskOf r

/-- The 64 bytes of a record (Table 5.3), as one number. -/
def cellWord (x : TCell) : Nat :=
  let lv := (List.range 15).foldl (fun v k => v + unsigned 8 (intAt x.lv k) * 2 ^ (8 * k)) 0
  let fl := b2n x.valid + 2 * b2n x.sat + 4 * b2n x.miss + 8 * x.bank + 16 * x.mode
  let sp := (List.range 4).foldl (fun v k => v + unsigned 16 (intAt x.sp k) * 2 ^ (16 * k)) 0
  let acc := (List.range 4).foldl (fun v k =>
    let a := x.acc.getD k acc0
    v + (a.n + unsigned 24 a.si * 2 ^ 8 + a.sc % 2 ^ 24 * 2 ^ 32) * 2 ^ (56 * k)) 0
  lv + fl * 2 ^ 120 + (maskOf x.hyst + maskOf x.ramp * 16) * 2 ^ 128 + x.set * 2 ^ 136 + x.stepCnt * 2 ^ 144
    + sp * 2 ^ 160 + acc * 2 ^ 224 + x.missCnt * 2 ^ 448 + x.stepTotal * 2 ^ 464 + x.lastEval * 2 ^ 480

/-- CELL_READ. -/
def cellRead (s : State) (n c : Nat) : State :=
  (List.range 8).foldl (fun s k => s.set TRK_CMDn_OUT_V (bits (cellWord (cellOf s c)) (64 * k) 64) n k) s

/-- The targets of the active bank for a set. -/
def activeTargets (s : State) (set : Nat) : List Int := (List.range 4).map fun t => target s (s.get TRK_BANK_ACTIVE) set t

/-- CELL_INIT: a whole record (R125). -/
def cellInit (s : State) (c mode set : Nat) (lv : List Int) : State :=
  let x : TCell := { cell0 with
    lv := lv, valid := true, mode := mode, set := set, bank := s.get TRK_BANK_ACTIVE
    sp := activeTargets s set, stepCnt := ((cellOf s c).stepCnt + 1) % 256 }
  pendingCheck (setCell s c x)

/-- VALID := 0 with the accumulators cleared. -/
def cellOff (s : State) (c : Nat) : State :=
  setCell s c { cellOf s c with valid := false, late := false, acc := List.replicate 4 acc0 }

/-- AGE_SET: HBM and the cache in one operation (R115). Where the byte cannot be read, its three other bands become 0: the spec does not
say what the operation does on a data error (DESIGN CHOICE, log entry 104). -/
def ageSet (s : State) (die block band : Nat) : State :=
  let a := ageAddr s die block
  let old := ((readByte s a).getD 0).toNat
  let v : Byte := BitVec.ofNat 8 (setBits old (2 * (block % 4)) 2 band)
  let s := writeBytes (noteLine s (a / 64 * 64)) a [v]
  { s with trk := { s.trk with ageCache := s.trk.ageCache.map fun x =>
      if x.1 = a / 64 then (x.1, x.2.set (a % 64) v) else x } }

/-- The command in a slot, by its OP (Table 5.4). -/
def trkBody (s : State) (n : Nat) : State :=
  let op := s.get TRK_CMDn_CTL_OP n
  let a := s.get TRK_CMDn_ARG0_V n
  let c := bits a 0 16
  if op = 0x01 then trkDone (cellRead s n c) n 0
  else if op = 0x02 then
    if bits a 16 2 = 3 then trkDone s n 4
    else
      let v := s.get TRK_CMDn_ARG1_V n + bits (s.get TRK_CMDn_ARG2_V n) 0 56 * 2 ^ 64
      trkDone (cellInit s c (bits a 16 2) (bits a 18 4) ((List.range 15).map (packedOff v))) n 0
  else if op = 0x03 then trkDone (setCell s c { cellOf s c with sat := false, miss := false }) n 0
  else if op = 0x04 then trkDone (pendingCheck (cellOff s c)) n 0
  else if op = 0x05 then trkDone (ageSet s (bits a 0 11) (bits a 11 14) (bits a 25 2)) n 0
  else if op = 0x06 then
    let (b, s) := ageBand s (bits a 0 11) (bits a 11 14)
    match b with
    | some v => trkDone (s.set TRK_CMDn_OUT_V v n 0) n 0
    | none =>
      let (v, s) := s.fresh
      trkDone (s.set TRK_CMDn_OUT_V v n 0) n 0
  else if op = 0x07 then trkDone (pendingCheck (dieCellsOff s (bits a 0 11))) n 0
  else trkDone s n 4

/-- A GO write of a TRK slot with command code `op`; a slot that runs a command takes no other, and none starts while
TRK_CTRL.ENABLE is 0 (log entry 15). -/
def trkGo (s : State) (n op : Nat) : State :=
  if 16 ≤ n ∨ s.on TRK_CMDn_CTL_GO n ∨ !s.on TRK_CTRL_ENABLE then s
  else trkBody ((s.set TRK_CMDn_CTL_OP op n).set TRK_CMDn_CTL_GO 1 n) n

def execCellRead (slot : Nat) (s : State) : Host.Outcome State Fault Refusal := act .trackSlots s fun s => trkGo s slot 0x01
def execCellInit (slot : Nat) (s : State) : Host.Outcome State Fault Refusal := act .trackSlots s fun s => trkGo s slot 0x02
def execCellClear (slot : Nat) (s : State) : Host.Outcome State Fault Refusal := act .trackSlots s fun s => trkGo s slot 0x03
def execCellDisable (slot : Nat) (s : State) : Host.Outcome State Fault Refusal := act .trackSlots s fun s => trkGo s slot 0x04
def execAgeSet (slot : Nat) (s : State) : Host.Outcome State Fault Refusal := act .trackSlots s fun s => trkGo s slot 0x05
def execAgeGet (slot : Nat) (s : State) : Host.Outcome State Fault Refusal := act .trackSlots s fun s => trkGo s slot 0x06
def execDieDisable (slot : Nat) (s : State) : Host.Outcome State Fault Refusal := act .trackSlots s fun s => trkGo s slot 0x07

end Sys2Proof.Machine
end

