-- ==== Sys2Proof/Machine/UdmOps.lean ====
section
/-! DEFINITION. The channels and engines of the utility DMA, and the writes that start and stop them (R306, R307, R311). -/

namespace Sys2Proof.Machine

/-! Channels and engines. -/

/-- STATE of a channel: 0 idle, 1 waiting, 2 running, 3 halted. -/
def udmState (s : State) (c : Nat) : Nat := s.get UDM_CHc_STATUS_STATE c
def setUdmState (s : State) (c v : Nat) : State := s.set UDM_CHc_STATUS_STATE v c

/-- The channels that wait on an engine, oldest GO first, by channel-in-engine. -/
def udmWaiting (s : State) (e : Nat) : List Nat := tgetD s.udm.waiting e []
def setUdmWaiting (s : State) (e : Nat) (l : List Nat) : State :=
  let t := if l = [] then tdel s.udm.waiting e else tput s.udm.waiting e l
  ({ s with udm := { s.udm with waiting := t } }).set UDM_ENGe_STATE_WAITING l.length e

/-- An idle engine takes its first waiting channel (R307). -/
def udmTake (s : State) (e : Nat) : State :=
  match udmWaiting s e with
  | [] => s
  | k :: r =>
    if s.on UDM_ENGe_STATE_BUSY e then s
    else
      let s := setUdmWaiting s e r
      let s := (s.set UDM_ENGe_STATE_BUSY 1 e).set UDM_ENGe_STATE_CHANNEL k e
      setUdmState (s.set UDM_CHc_CTL_GO 0 (e * 16 + k)) (e * 16 + k) 2

/-- An engine released: it passes to its next waiting channel. -/
def udmRelease (s : State) (e : Nat) : State := udmTake ((s.set UDM_ENGe_STATE_BUSY 0 e).set UDM_ENGe_STATE_CHANNEL 0 e) e

/-- UDM_GO (R307, R311). -/
def execUdmGo (c : Nat) (s : State) : Host.Outcome State Fault Refusal := act .dma s fun s =>
  if 128 ≤ c ∨ !s.on UDM_CTRL_ENABLE ∨ udmState s c = 1 ∨ udmState s c = 2 then s
  else
    let s := setUdmState (s.set UDM_CHc_CTL_GO 1 c) c 1
    udmTake (setUdmWaiting s (c / 16) (udmWaiting s (c / 16) ++ [c % 16])) (c / 16)

/-- A channel idle with STOPPED (R311). -/
def udmStopped (s : State) (c : Nat) : State :=
  setUdmState ((s.set UDM_CHc_CTL_STOP 0 c).set UDM_CHc_STATUS_STOPPED 1 c) c 0

/-- UDM_STOP: a waiting channel stops at once, a running one at its next descriptor boundary (R311). -/
def execUdmStop (c : Nat) (s : State) : Host.Outcome State Fault Refusal := act .dma s fun s =>
  if 128 ≤ c then s
  else if udmState s c = 1 then
    udmStopped (setUdmWaiting (s.set UDM_CHc_CTL_GO 0 c) (c / 16) ((udmWaiting s (c / 16)).filter (· ≠ c % 16))) c
  else if udmState s c = 2 then s.set UDM_CHc_CTL_STOP 1 c
  else s

/-- UDM_RING_BASE_WRITE: the base, and INDEX 0; ignored while the channel waits or runs (R311). -/
def execUdmRingBaseWrite (c value : Nat) (s : State) : Host.Outcome State Fault Refusal := act .dma s fun s =>
  if 128 ≤ c ∨ udmState s c = 1 ∨ udmState s c = 2 then s
  else (s.set UDM_CHc_RING_BASE_BASE (value / 32) c).set UDM_CHc_INDEX_INDEX 0 c

end Sys2Proof.Machine
end

