-- ==== Sys2Proof/Machine/OwnOps.lean ====
section
/-! DEFINITION. The fields whose write has a row of its own in the opcode table, written by a bus write (R3, Table 0.3): the write runs the
meaning of that row. What the row's operands give of the world outside the block is free here (log entry 107). -/

namespace Sys2Proof.Machine

/-- The state that a command's meaning leaves. -/
def ran (s : State) (m : State → Host.Outcome State Fault Refusal) : State := match m s with | .next t => t | _ => s

/-- A write within one copy of a register: the master, the register and its indices, the bits that the write covers, and the values. -/
structure RegWr where
  master : Nat
  reg : Reg
  i : Nat
  j : Nat
  mask : Nat
  val : Nat
  deriving DecidableEq, Repr

/-- Whether the write covers some of the bits [lo+n-1:lo], writes a 1 to bit `k`, or a 0. -/
def RegWr.covers (w : RegWr) (lo n : Nat) : Bool := bits w.mask lo n ≠ 0
def RegWr.one (w : RegWr) (k : Nat) : Bool := bits (w.mask &&& w.val) k 1 = 1
def RegWr.zero (w : RegWr) (k : Nat) : Bool := w.covers k 1 && bits w.val k 1 = 0

/-- Bits of `a` that `m` does not have. -/
def andNot (a m : Nat) : Nat := a - (a &&& m)

/-- The register as the write leaves it, were all its bits stored, and bits [lo+n-1:lo] of that. -/
def RegWr.word (w : RegWr) (s : State) : Nat := andNot (regValue s w.reg w.i w.j) w.mask ||| (w.mask &&& w.val)
def RegWr.field (w : RegWr) (s : State) (lo n : Nat) : Nat := bits (w.word s) lo n

/-- A meaning run where a condition holds. -/
def ranIf (b : Bool) (m : State → Host.Outcome State Fault Refusal) (s : State) : State := if b then ran s m else s

/-! What the world outside the block gives. -/

/-- Whether a program of OTP verifies. -/
def freeBit (s : State) : Bool × State := let (v, s) := s.fresh; (v % 2 = 1, s)

/-- What a continuity check finds. -/
def freeFault (s : State) : Option ContFault × State :=
  let (v, s) := s.fresh
  (if v % 2 = 0 then none else some ⟨v / 2 % 4, v / 8 % 32, v / 256 % 256, v / 65536 % 32⟩, s)

/-- What a mark scan reads, block by block from plane `k / 16384`, block `k % 16384` on. -/
def marksOf (l : List Byte) (k : Nat) : List MarkRead :=
  match l with
  | a :: b :: r => ⟨k / 16384, k % 16384, a.toNat, b.toNat⟩ :: marksOf r (k + 1)
  | _ => []

/-! The blocks. `s0` is the state before the write, `s` the one with the register's other fields written. -/

def ownSys (s0 s : State) (w : RegWr) : State :=
  let a := w.reg.addr
  if a = SYS_CTRLReg.addr then ranIf (w.zero 1 && s0.on SYS_CTRL_SETT_ONLY) execSettOnlyClear s
  else if a = SYS_OTP_CMDReg.addr then
    if w.one 4 ∧ !s0.on SYS_OTP_CMD_GO then
      let (ok, t) := freeBit s
      match s.get SYS_OTP_CMD_OP with
      | 1 => ran t (execAdvanceSecver ok)
      | 2 => ran t (execRevokeKey ok)
      | 3 => ran t (execBurnRemap ok)
      | _ => s
    else s
  else if a = SYS_SPI_CMDReg.addr then
    if w.one 20 ∧ !s0.on SYS_SPI_CMD_GO then
      let (d, t) := s.freshBytes (s.get SYS_SPI_CMD_LEN)
      ran t (execSpiCmd d)
    else s
  else s

def ownCmd (s0 s : State) (w : RegWr) : State :=
  let a := w.reg.addr
  if a = HIF_CTRLReg.addr then ranIf (w.one 0) execHifEnable s
  else if a = CMD_CTRLReg.addr then ranIf (w.one 0) execCmdEnable s
  else if a = CMD_ACT_CTLReg.addr then ranIf (w.one 1) execResume (ranIf (w.one 0) execPause s)
  else if a = CMD_FWCPL_CTLReg.addr then ranIf (w.one 19) execFwcplGo s
  else if a = CMD_LKn_CTLReg.addr then
    let s := ranIf (w.one 3) (execCancel w.i) s
    if w.one 2 ∧ !s0.on CMD_LKn_CTL_GO w.i then
      match s.get CMD_LKn_CTL_OP w.i with
      | 1 => ran s (execAcquire w.i)
      | 2 => ran s (execRelease w.i)
      | _ => s
    else s
  else if a = CMD_FWQ_HEADReg.addr then ranIf (w.covers 0 16) (execFirmwareRingTake (w.field s0 0 16)) s
  else s

def ownMbx (s0 s : State) (w : RegWr) : State :=
  let a := w.reg.addr
  if a = MBX_COREn_CTLReg.addr then
    let s := ranIf (w.zero 0 && s0.on MBX_COREn_CTL_HOLD w.i) (execCoreHoldClear w.i) s
    ranIf (w.one 4) (execCoreRetire w.i) (ranIf (w.one 1) (execCoreRestart w.i) s)
  else if a = MBX_COREn_WDOGReg.addr then ranIf (w.one 31) (execKick w.i) s
  else if a = MBX_CHc_MSGReg.addr then ranIf (w.covers 0 32) (execMessageWrite w.master w.i (w.field s0 0 32)) s
  else if a = MBX_CHc_ACKReg.addr then ranIf (w.covers 0 16) (execMessageAck w.master w.i (w.field s0 0 16)) s
  else s

def ownMap (s0 s : State) (w : RegWr) : State :=
  let a := w.reg.addr
  if a = MAP_CTRLReg.addr then ranIf (w.one 0) execMapEnable s
  else if a = MAP_CKPT_BEGINReg.addr then ran s (execMapCkptBeginWrite (w.field s0 0 64))
  else if a = MAP_JNL_SYNCReg.addr then ranIf (w.one 1) execMapJnlSyncShutdown (ranIf (w.one 0) execMapJnlSyncSync s)
  else if a = MAP_REPLAY_CTLReg.addr then ranIf (w.one 3) execMapReplaySweep (ranIf (w.one 0) execMapReplayGo s)
  else if a = MAP_CMDn_CTLReg.addr then if w.one 8 then mapGo s w.i (s.get MAP_CMDn_CTL_OP w.i) else s
  else if a = MAP_NSnReg.addr then ran s (execMapNsWrite w.i (w.word s0))
  else s

/-- The die commands by code (Table of FCH_DIEd_CMD). -/
def dieCmd (die op : Nat) (s : State) : State :=
  match op with
  | 1 => ran s (execDieFence die)
  | 2 => ran s (execRetire die)
  | 3 => ran s (execRequalify die)
  | 4 => ran s (execActivate die)
  | _ => s

def ownFch (s0 s : State) (w : RegWr) : State :=
  let a := w.reg.addr
  if a = FCH_GCTRLReg.addr then ranIf (w.one 0) execFchEnable s
  else if a = FCH_DEN_CFGReg.addr then ranIf (w.one 8) (execDenEnable w.i) s
  else if a = FCH_DEN_RING_CFGReg.addr then ranIf (w.one 4 && !s0.on FCH_DEN_RING_CFG_ENABLE w.i) (execRingEnable w.i) s
  else if a = FCH_DEN_RING_TAILReg.addr then ranIf (w.covers 0 15) (execRingTailWrite w.i (w.field s0 0 15)) s
  else if a = FCH_CH_CTRLReg.addr then
    let s := ranIf (w.one 0) (execChannelFence w.i) s
    let s := if w.one 1 then (let (f, t) := freeFault s; ran t (execContCheck w.i f)) else s
    ranIf (w.one 2) (execRetrain w.i) s
  else if a = FCH_DIEdReg.addr then ranIf (w.covers 0 3) (execDieStateRestore (8 * w.i + w.j) (w.field s0 0 3)) s
  else if a = FCH_DIEd_CMDReg.addr then if w.covers 0 3 then dieCmd (8 * w.i + w.j) (w.field s0 0 3) s else s
  else s

def ownCdc (s0 s : State) (w : RegWr) : State :=
  let a := w.reg.addr
  if a = CDC_CTRLReg.addr then ranIf (w.one 0) execCdcEnable s
  else if a = CDC_RBn_CTLReg.addr then ranIf (w.one 1) (execRebuildAbort w.i) (ranIf (w.one 0) (execRebuildGo w.i) s)
  else if a = CDC_CPn_CTLReg.addr then
    let s :=
      if w.one 0 ∧ !s0.on CDC_CPn_CTL_GO w.i then
        match s.get CDC_CPn_CTL_KIND w.i with
        | 0 => ran s (execPackedRowCopy w.i)
        | 1 => ran s (execRunRowCopy w.i)
        | _ => let (d, t) := s.freshBytes 131072; ran t (execMarkScan w.i (marksOf d 0))
      else s
    ranIf (w.one 1) (execCopySlotAbort w.i) s
  else s

def ownTrk (s : State) (w : RegWr) : State :=
  let a := w.reg.addr
  if a = TRK_CTRLReg.addr then ranIf (w.one 3) execThEnable (ranIf (w.one 0) execTrkEnable s)
  else if a = TRK_BANKReg.addr then ranIf (w.one 1) execSwap s
  else if a = TRK_THn_CFGReg.addr then ranIf (w.one 0) (execThermalCellEnable w.i) s
  else if a = TRK_CMDn_CTLReg.addr then if w.one 8 then trkGo s w.i (s.get TRK_CMDn_CTL_OP w.i) else s
  else s

/-- The Burrow commands by code (Table 7.6). -/
def burCmd (n op : Nat) (s : State) : State :=
  match op with
  | 1 => ran s (execPrefetch n)
  | 2 => ran s (execPin n)
  | 3 => ran s (execUnpin n)
  | 4 => ran s (execCool n)
  | 5 => ran s (execBoost n)
  | 6 => ran s (execInval n)
  | 7 => ran s (execEstimate n)
  | _ => s

def ownHbm (s : State) (w : RegWr) : State :=
  let a := w.reg.addr
  if a = HBM_CTRLReg.addr then ranIf (w.one 0) execHbmEnable s
  else if a = HBM_WINw_BASEReg.addr then ranIf (w.one 63) (execHbmWindowEnable w.i) s
  else if a = BUR_CTRLReg.addr then ranIf (w.one 0) execBurEnable s
  else if a = BUR_CMDn_CTLReg.addr then if w.one 8 then burCmd w.i (s.get BUR_CMDn_CTL_OP w.i) s else s
  else s

def ownBpm (s0 s : State) (w : RegWr) : State :=
  let a := w.reg.addr
  if a = BPM_CTRLReg.addr then ranIf (w.one 2) execBpmRebuild (ranIf (w.one 0) execBpmEnable s)
  else if a = BPM_FREEReg.addr then ran s (execBpmFree (w.field s0 0 48))
  else if a = UDM_CHc_CTLReg.addr then ranIf (w.one 1) (execUdmStop w.i) (ranIf (w.one 0) (execUdmGo w.i) s)
  else if a = UDM_CHc_RING_BASEReg.addr then ran s (execUdmRingBaseWrite w.i (w.field s0 0 48))
  else s

/-- The key commands by code (Table 11.2). -/
def keyCmd (n op : Nat) (s : State) : State :=
  match op with
  | 1 => ran s (execGenKey n)
  | 2 => ran s (execEraseKey n)
  | 3 => ran s (execRetireOld n)
  | 4 => ran s (execExportKey n)
  | 5 => ran s (execImportKey n)
  | 6 => ran s (execDeriveKey n)
  | 7 => ran s (execDkClear n)
  | _ => s

def ownCry (s0 s : State) (w : RegWr) : State :=
  let a := w.reg.addr
  if a = CRY_KCMDn_CTLReg.addr then if w.one 8 then keyCmd w.i (s.get CRY_KCMDn_CTL_OP w.i) s else s
  else if a = CRY_GCMn_CTLReg.addr then
    if w.one 2 then
      match s.get CRY_GCMn_CTL_OP w.i with
      | 1 => ran s (execSealJob w.i)
      | 2 => ran s (execOpenJob w.i)
      | _ => s
    else s
  else if a = CPR_JOBn_CTLReg.addr then
    if w.one 2 ∧ !s0.on CPR_JOBn_CTL_GO w.i then
      match s.get CPR_JOBn_CTL_OP w.i with
      | 1 => ran s (execCompressJob w.i)
      | 2 => ran s (execDecompressJob w.i)
      | _ => s
    else s
  else s

def ownFlt (s0 s : State) (w : RegWr) : State :=
  let a := w.reg.addr
  if a = PWR_FLUSH_CTLReg.addr then ranIf (w.one 0) execFlushDone s
  else if a = PWR_HOLDUP_MEASReg.addr then ran s (execHoldupMeasurement (w.word s0))
  else if a = OOB_CTRLReg.addr then ranIf (w.covers 0 1) (execFwReadyWrite (w.one 0)) s
  else if a = FLT_CTRLReg.addr then ranIf (w.one 1) execFltRestart s
  else if a = FLT_CLEARReg.addr then ranIf (w.covers 0 16) (execFltClear (w.field s0 0 16)) s
  else if a = FLT_APPENDReg.addr then ran s (execFltAppend (w.field s0 0 16) (w.field s0 16 16))
  else s

/-- What the write of a register starts, by the block of its window (R316). -/
def ownWrite (s0 s : State) (w : RegWr) : State :=
  match (w.reg.addr - 0x00F000000000) / 0x01000000 with
  | 0 => ownSys s0 s w
  | 1 | 2 => ownCmd s0 s w
  | 3 => ownMap s0 s w
  | 4 => ownFch s0 s w
  | 5 => ownCdc s0 s w
  | 6 => ownTrk s w
  | 7 => ownHbm s w
  | 8 | 9 => ownBpm s0 s w
  | 10 | 11 => ownCry s0 s w
  | 12 => ownMbx s0 s w
  | _ => ownFlt s0 s w

/-! The host's side. -/

/-- A doorbell written (R215): even words of the range are submission queue tails, odd ones completion queue heads. -/
def doorbell (s : State) (f off v : Nat) : State :=
  let q := (off - 0x1000) / 8
  if off % 8 = 0 then ran s (execSqTailDoorbell f q (bits v 0 16)) else ran s (execCqHeadDoorbell f q (bits v 0 16))

/-- CC written while EN is 1: IOSQES and IOCQES change; EN 0 resets the controller, SHN shuts it down (R213). -/
def ccWrite (s : State) (f v : Nat) : State :=
  let s := (s.set NVME_CC_IOSQES (bits v 16 4) f).set NVME_CC_IOCQES (bits v 20 4) f
  if bits v 0 1 = 0 then ran s (execControllerReset f)
  else
    match bits v 14 2 with
    | 0 => s.set NVME_CC_SHN 0 f
    | 1 => ran s (execNormalShutdown f)
    | 2 => ran s (execAbruptShutdown f)
    | _ => s

/-- What the write of a register of configuration space starts (R192, R193, R195, R210). -/
def ownCfg (s0 s : State) (w : RegWr) : State :=
  let a := w.reg.addr
  let f := w.i
  if a = CFG_COMMANDReg.addr then
    ranIf (w.zero 2 && bme s0 f) (execBusMasterEnableClear f) (ranIf (w.one 2 && !bme s0 f) (execBusMasterEnableSet f) s)
  else if a = CFG_PMCSRReg.addr then
    if w.covers 0 2 then
      match bits w.val 0 2 with
      | 0 => if s0.on HIF_FNf_STATE_D3HOT f then ran s (execD0Return f) else s
      | 3 => ran s (execD3hotEntry f)
      | _ => s
    else s
  else if a = CFG_DEVCTLReg.addr then ranIf (w.one 15) (execInitiateFunctionLevelReset f) s
  else if a = CFG_SRIOV_CTLReg.addr then
    ranIf (w.zero 0 && s0.on CFG_SRIOV_CTL_VFE f) (execVfEnableClear (linkOf s f))
      (ranIf (w.one 0 && !s0.on CFG_SRIOV_CTL_VFE f) (execVfEnableSet (linkOf s f)) s)
  else s

end Sys2Proof.Machine
end

