-- ==== Sys2Proof/Machine/RegCmd.lean ====
section
/-! DEFINITION. The write of a register or of memory by a bus master or by a host (R2 to R7, R197, R198, R315 to R319, R325). A
write that covers a field with a row of its own in the opcode table runs that row's meaning (OwnOps). -/

namespace Sys2Proof.Machine

/-! Which values a field accepts (R7). -/

/-- The checks that depend on other fields, on a multiple, or on a set of values. The other fields are taken as they stand
before the write. -/
def specialOk (s : State) (f : Fld) (i j v : Nat) : Bool :=
  if f = MAP_EXC_TOTAL_TOTAL then decide (2 ^ s.get MAP_EXC_CFG_PRIM_LOG2 ≤ v) && decide (v ≤ 2 ^ 27)
  else if f = TRK_GAIN_CFG_TB2 then decide (s.get TRK_GAIN_CFG_TB1 < v)
  else if f = TRK_GAIN_CFG_TB3 then decide (s.get TRK_GAIN_CFG_TB2 < v)
  else if f = TRK_COEFb_s_W0_BAND_IN then decide (v ≤ s.get TRK_COEFb_s_W0_BAND_OUT i j)
  else if f = TRK_THCOEFb_g_W0_BAND_IN then decide (v ≤ s.get TRK_THCOEFb_g_W0_BAND_OUT i j)
  else if f = BUR_FRAMES_COUNT then v % 64 = 0 && decide (v ≤ 786432)
  else if f = CRY_KCMDn_ARG1_ADDR then v % 32 = 0
  else if f = CFG_SRIOV_NUM_NUMVFS then decide (v ≤ s.get HIF_LINKl_CFG_TOTAL_VFS (linkOf s i))
  else if f = CFG_SRIOV_PGSZ_SIZE then [1, 2, 4, 8, 16].contains v
  else true

/-- Whether a field accepts a value. -/
def chkOk (s : State) (c : Col) (i j v : Nat) : Bool :=
  match c.chk with
  | .any => true
  | .range lo hi => decide (lo ≤ v) && decide (v ≤ hi)
  | .special => specialOk s c.fld i j v

/-- Whether the LOCK of a register's block is 1. -/
def locked (s : State) (r : Reg) : Bool := match r.lock with | some f => s.on f | none => false


/-- One field written (Table 0.3): `m` are the bits of the field that the write covers, `x` their values. -/
def colWrite (s : State) (r : Reg) (i j : Nat) (c : Col) (m x : Nat) : State :=
  let old := s.get c.fld i j
  let new := andNot old m ||| x
  let put (v : Nat) : State := if chkOk s c i j v then s.set c.fld v i j else s
  match c.acc with
  | .ro => s
  | .rw => put new
  | .rwl => if locked s r then s else put new
  | .w1c => s.set c.fld (andNot old x) i j
  | .w1s => s.set c.fld (old ||| x) i j
  | .rc => s
  | .own => s
  | .rowSet => put (old &&& new)
  | .rowSetL => if locked s r then s else put (old &&& new)
  | .rowClr => put (old ||| new)
  | .bank => put new
  | .ltab => if c.fld = CPR_LTABt_W4_VALID then put (old &&& new) else put new

/-! Writes that are ignored as a whole, and those with an outcome of their own. -/

/-- Whether a write of a coefficient is ignored: the bank is active, or a swap is pending (R123). -/
def bankBusy (s : State) (r : Reg) (i : Nat) : Bool :=
  s.on TRK_BANK_PENDING || s.get TRK_BANK_ACTIVE = (if r.addr = TRK_FFReg.addr then i / 4096 else i)


/-- Whether a register has a bank field, or is of a loadable table. -/
def isBank (r : Reg) : Bool := r.cols.any fun c => c.acc = .bank
def isLtab (r : Reg) : Bool := r.cols.any fun c => c.acc = .ltab

/-- The fields of MBX_CHc_STATE that a master may clear (R325): the sender ACK_VALID, TIMEOUT and REJECT, the receiver
ACK_IGN. Bits of the other party, and any write by a master that the binding does not name, are a violation. -/
def chStateWrite (s : State) (master c x : Nat) : State :=
  let bit (s : State) (ok : Bool) (f : Fld) (k : Nat) : State := if ok ∧ bits x k 1 = 1 then s.set f 0 c else s
  let snd := s.on MBX_BINDc_VALID c && chSender s c = master
  let rcv := s.on MBX_BINDc_VALID c && chReceiver s c = master
  let bad := (!snd && bits x 1 3 ≠ 0) || (!rcv && bits x 4 1 ≠ 0) || (!snd && !rcv)
  let s := bit (bit (bit s snd MBX_CHc_STATE_ACK_VALID 1) snd MBX_CHc_STATE_TIMEOUT 2) snd MBX_CHc_STATE_REJECT 3
  let s := bit s rcv MBX_CHc_STATE_ACK_IGN 4
  if bad then bindViol s master else s

/-! What a write leads to beside the fields. -/

/-- A GO bit written with a command code of no row: RESULT BAD_ARG and DONE at once, where the block is enabled. -/
def badOp (s : State) (go op res done : Fld) (en : Bool) (ops : List Nat) (n goBit mask x : Nat) : State :=
  if bits (mask &&& x) goBit 1 = 1 ∧ !s.on go n ∧ en ∧ !ops.contains (s.get op n) then (s.set res 4 n).set done 1 n else s

/-- A write of GO with a code that names no command (Tables 7.6, 11.2 and their like); MAP and TRK answer it as any other. -/
def badOps (s : State) (r : Reg) (n mask x : Nat) : State :=
  let a := r.addr
  if a = BUR_CMDn_CTLReg.addr then
    (let t := badOp s BUR_CMDn_CTL_GO BUR_CMDn_CTL_OP BUR_CMDn_CTL_RESULT BUR_CMDn_CTL_DONE true [1, 2, 3, 4, 5, 6, 7] n 8 mask x
     if t = s ∨ s.on BUR_CTRL_ENABLE then t else t.set BUR_CMDn_CTL_RESULT 6 n)
  else if a = CRY_KCMDn_CTLReg.addr then
    badOp s CRY_KCMDn_CTL_GO CRY_KCMDn_CTL_OP CRY_KCMDn_CTL_RESULT CRY_KCMDn_CTL_DONE (s.on CRY_CTRL_ENABLE) [1, 2, 3, 4, 5, 6, 7] n 8 mask x
  else if a = CRY_GCMn_CTLReg.addr then
    badOp s CRY_GCMn_CTL_GO CRY_GCMn_CTL_OP CRY_GCMn_CTL_RESULT CRY_GCMn_CTL_DONE (s.on CRY_CTRL_ENABLE) [1, 2] n 2 mask x
  else if a = CPR_JOBn_CTLReg.addr then
    badOp s CPR_JOBn_CTL_GO CPR_JOBn_CTL_OP CPR_JOBn_CTL_RESULT CPR_JOBn_CTL_DONE (s.on CPR_CTRL_ENABLE) [1, 2] n 2 mask x
  else if a = CMD_LKn_CTLReg.addr then
    badOp s CMD_LKn_CTL_GO CMD_LKn_CTL_OP CMD_LKn_CTL_RESULT CMD_LKn_CTL_DONE (s.on CMD_CTRL_ENABLE) [1, 2] n 2 mask x
  else if a = SYS_OTP_CMDReg.addr then
    badOp s SYS_OTP_CMD_GO SYS_OTP_CMD_OP SYS_OTP_CMD_RESULT SYS_OTP_CMD_DONE true [1, 2, 3] n 4 mask x
  else s

/-- HOLD set holds a core that is not retired (R334). -/
def holdCore (s : State) (n : Nat) : State :=
  if s.on MBX_COREn_CTL_HOLD n ∧ coreState s n = 2 then s.set MBX_COREn_CTL_STATE 0 n else s

/-- UDM_PENDi of a channel: one of its status bits is 1 with its enable (R314). -/
def udmPending (s : State) (c : Nat) : Bool :=
  (s.on UDM_CHc_STATUS_HALF c && s.on UDM_CHc_CTL_HALF_EN c) || (s.on UDM_CHc_STATUS_FULL c && s.on UDM_CHc_CTL_FULL_EN c)
    || (s.on UDM_CHc_STATUS_DONE c && s.on UDM_CHc_CTL_DONE_EN c)
    || ((s.on UDM_CHc_STATUS_BAD c || s.on UDM_CHc_STATUS_HALTED c || s.on UDM_CHc_STATUS_OVERRUN c) && s.on UDM_CHc_CTL_ERR_EN c)
def updUdmPend (s : State) (c : Nat) : State :=
  s.set UDM_PENDi_PEND (setBits (s.get UDM_PENDi_PEND (c / 32)) (c % 32) 1 (b2n (udmPending s c))) (c / 32)

/-- What follows the write of a block's register. `s0` is the state before it. -/
def afterWrite (s0 s : State) (r : Reg) (i mask x : Nat) : State :=
  let a := r.addr
  if a = MBX_DBrReg.addr ∨ a = MBX_DBMASKrReg.addr then updDb s i
  else if a = MBX_COREn_CTLReg.addr then holdCore s i
  else if a = CMD_FWQ_CFGReg.addr then
    if s.on CMD_FWQ_CFG_ENABLE ∧ !s0.on CMD_FWQ_CFG_ENABLE then (s.set CMD_FWQ_HEAD_INDEX 0).set CMD_FWQ_TAIL_INDEX 0 else s
  else if a = CDC_RA_BUDGETReg.addr then setLevel s s.cdc.level
  else if a = MAP_CTRLReg.addr then ifRecovered s0 (updReady s)
  else if a = PWR_CTRLReg.addr then updThrottle s
  else if a = FCH_DEN_CFGReg.addr then if s0.on FCH_DEN_CFG_ENABLE i ∧ !s.on FCH_DEN_CFG_ENABLE i then stopDen s i else s
  else if a = TRK_CTRLReg.addr ∨ a = TRK_THn_CFGReg.addr then updThrottle (pendingCheck s)
  else if a = UDM_CHc_CTLReg.addr ∨ a = UDM_CHc_STATUSReg.addr then updUdmPend s i
  else if a = OOB_HEALTHReg.addr then raiseFlags s (s0.get OOB_HEALTH_CW ^^^ s.get OOB_HEALTH_CW)
  else badOps s r i mask x

/-- A register written: every field that the write covers, then what follows (R3, R7, R123, R212, R291, R314, R325). -/
def regFields (s : State) (master : Nat) (r : Reg) (i j mask x : Nat) : State :=
  if linkAbsent s r i then s
  else if isBank r && bankBusy s r i then s.set TRK_STATUS_BANK_WR_IGN 1
  else if (isLtab r || r.addr = CPR_TABSETReg.addr) && (List.range 16).any fun n => s.on CPR_JOBn_CTL_GO n then
    s.set CPR_STATUS_LTAB_IGN 1
  else if r.addr = UDM_CHc_RING_CFGReg.addr ∧ (s.get UDM_CHc_STATUS_STATE i = 1 ∨ s.get UDM_CHc_STATUS_STATE i = 2) then s
  else if r.addr = MBX_CHc_STATEReg.addr then chStateWrite s master i (mask &&& x)
  else
    let t := r.cols.foldl (fun t c =>
      let m := bits mask c.lo c.fld.width
      if m = 0 then t
      else
        let u := colWrite s r i j c m (bits x c.lo c.fld.width &&& m)
        t.set c.fld (u.get c.fld i j) i j) s
    ownWrite s (afterWrite s t r i mask x) ⟨master, r, i, j, mask, x⟩

/-- One access of `n` bytes within a register: byte `b` of it on. A 128-bit register takes effect at its high half (R317). -/
def regPart (s : State) (master : Nat) (r : Reg) (i j b n v : Nat) : State :=
  let mask := (2 ^ (8 * n) - 1) * 2 ^ (8 * b)
  if r.bytes = 16 then
    let key := (r.addr * 65536 + i) * 4096 + j
    if n ≠ 8 then s
    else if b = 0 then { s with latch := some (key, v) }
    else
      match s.latch with
      | some (k, low) =>
        if k = key then regFields { s with latch := none } master r i j (2 ^ 128 - 1) (low + v * 2 ^ 64)
        else regFields s master r i j mask (v * 2 ^ 64)
      | none => regFields s master r i j mask (v * 2 ^ 64)
  else regFields s master r i j mask (v * 2 ^ (8 * b))

/-- A write of 4 or 8 aligned bytes in a block window: a register of 8 B or more takes them whole, two registers of 4 B their
halves; the second one not if the first began a hold (R391, R417). An offset that holds nothing ignores it (R7). -/
def regWrite (s : State) (master a n v : Nat) : State :=
  match regAt a with
  | some (r, i, j, b) =>
    if n ≤ r.bytes - b then regPart s master r i j b n (v % 2 ^ (8 * n))
    else
      let t := regPart s master r i j b 4 (v % 2 ^ 32)
      match regAt (a + 4) with
      | some (r, i, j, b) => if n = 8 ∧ (t.live || !s.live) then regPart t master r i j b 4 (v / 2 ^ 32 % 2 ^ 32) else t
      | none => t
  | none =>
    if n = 8 then
      match regAt (a + 4) with
      | some (r, i, j, b) => regPart s master r i j b 4 (v / 2 ^ 32 % 2 ^ 32)
      | none => s
    else s

/-! The internal bus. -/

/-- The memory of a core that holds an address of the cluster windows: core, whether it is the ITCM (R316). -/
def tcmAt (a : Nat) : Option (Nat × Bool) :=
  if a < 0x00F010000000 ∨ 0x00F018000000 ≤ a then none
  else
    let o := a - 0x00F010000000
    let off := o % 0x100000
    let core := o / 0x01000000 * 8 + o % 0x01000000 / 0x100000
    if 8 ≤ o % 0x01000000 / 0x100000 then none
    else if off < 0x40000 then some (core, true)
    else if off < 0x80000 then some (core, false)
    else none

/-- Whether an address is HBM, buffer SRAM, or in a window of Table 14.2. -/
def isWindow (a : Nat) : Bool := decide (winBase 0 ≤ a) && decide (a < winBase 16)
def isCluster (a : Nat) : Bool := decide (0x00F010000000 ≤ a) && decide (a < 0x00F018000000)
def isMem (a n : Nat) : Bool := decide (a + n ≤ hbmEnd) || (decide (sramBase ≤ a) && decide (a + n ≤ sramEnd))

/-- Whether a master reaches an address (R317): cores and the boot ROM everything, the out-of-band endpoint its own block and
the mailbox channels, host functions nothing on the internal bus. -/
def mayReach (master a : Nat) : Bool :=
  if 0x100 ≤ master ∧ master < 0x140 ∨ master = 0x1C0 then true
  else master = 0x180 && ((decide (winBase 14 ≤ a) && decide (a < winBase 15)) || (decide (winBase 12 + 0x8000 ≤ a) && decide (a < winBase 12 + 0x9000)))

/-- A write on the internal bus: the state after it, or none for a bus fault (R7, R317, R318). -/
def busStore (s : State) (master a n v : Nat) : Option State :=
  if !mayReach master a then none
  else if isMem a n then some (storeBytes s a (natLe v n))
  else if isWindow a then
    if (n = 4 ∨ n = 8) ∧ a % n = 0 then some (regWrite s master a n v) else none
  else if isCluster a then
    match tcmAt a, tcmAt (a + n - 1) with
    | some (c, true), some (d, true) => if c = d ∧ coreState s c ≠ 2 then some (writeBytes s a (natLe v n)) else none
    | some (c, false), some (d, false) => if c = d then some (writeBytes s a (natLe v n)) else none
    | none, none => some s
    | _, _ => none
  else none

/-- A bus fault of a master (R319): a core records it, and a second one before its handler has returned is a double fault. -/
def busFault (s : State) (master a : Nat) (inHandler : Bool) : State :=
  let s := { s with bus := .fault a }
  if 0x100 ≤ master ∧ master < 0x140 then
    let n := master - 0x100
    if coreState s n ≠ 2 then s
    else if inHandler then coreFault s n 4 a
    else busFaultRecord s n a
  else s

/-- A write by a bus master. -/
def busWrite (s : State) (master a n v : Nat) (inHandler : Bool) : State :=
  match busStore s master a n v with
  | some t => { t with bus := .idle }
  | none => busFault s master a inHandler

/-! The BARs and configuration space of a function (R194 to R198, R213, R333). -/

/-- Whether a write of the BARs is of an accepted size, at an accepted place (R198). -/
def barSizeOk (off n : Nat) : Bool := (n = 4 || n = 8) && off % n = 0

/-- Whether a function takes memory requests at all. -/
def memOn (s : State) (f : Nat) : Bool := memOk s f 0

/-- The channels that are bound to function `f`, in ascending channel number (R333), and the `k`-th of them. -/
def pageChannels (s : State) (f : Nat) : List Nat :=
  (List.range 256).filter fun c => s.on MBX_BINDc_VALID c && (chSender s c = f || chReceiver s c = f)
def pageChannel (s : State) (f k : Nat) : Option Nat := (pageChannels s f)[k]?

/-- The fields of a host-facing register written, 4 B at a time; `a` is the offset within its list. -/
def hostReg4 (s : State) (l : List Reg) (f a v : Nat) : State :=
  match findReg (l.map fun r => { r with count1 := 1 }) a with
  | some (r, _, j, b) => regPart s f r f j b 4 v
  | none => s

/-- A write of 4 B in BAR0: INTMS and INTMC set and clear the mask of INTx; of CC, the fields that have no row change while EN
is 0 (R213). A doorbell, EN and SHN run their rows. -/
def bar0Write (s : State) (f off v : Nat) : State :=
  if off = 0x0C then updInta (if isPf s f && bits v 0 1 = 1 then s.set NVME_INTM_BIT 1 f else s) f
  else if off = 0x10 then updInta (if isPf s f && bits v 0 1 = 1 then s.set NVME_INTM_BIT 0 f else s) f
  else if off = 0x14 then
    if s.on NVME_CC_EN f then ccWrite s f v else ranIf (bits v 0 1 = 1) (execCcEnable f v) (hostReg4 s regsBar0 f off v)
  else if 0x1000 ≤ off then doorbell s f off v
  else hostReg4 s regsBar0 f off v

/-- Doorbell bits that a write of MBX_HDBMASK unmasked fire their vector (R331). -/
def unmaskFire (s0 s : State) (f : Nat) : State :=
  (List.range 32).foldl (fun s b =>
    if bits (s0.get HOST_HDBMASK_MASK f) b 1 = 1 ∧ bits (s.get HOST_HDB_DB f) b 1 = 1 then hostDbFire s f b else s) s

/-- A write of 4 B in BAR2: the mailbox page, each bound channel as its counterpart in MBX (R333). The telemetry window is read-only
(R251). -/
def bar2Write (s : State) (f off v : Nat) : State :=
  if off < 0x100 then
    let t := hostReg4 s regsBar2 f off v
    if off = 4 then unmaskFire s t f else t
  else if off < 0x8000 then
    match pageChannel s f ((off - 0x100) / 16) with
    | none => s
    | some c =>
      if off % 16 = 0 then ran s (execMessageWrite f c v)
      else if off % 16 = 4 then ran s (execMessageAck f c (bits v 0 16))
      else if off % 16 = 8 then chStateWrite s f c v
      else s
  else s

/-- A write of 4 B in BAR4: the MSI-X table; a mask bit cleared runs its row. -/
def bar4Write (s : State) (f off v : Nat) : State :=
  if off < 0x8000 ∧ off / 16 < vecCount s f then
    let t := hostReg4 s regsBar4 f off v
    ranIf (off % 16 = 12 && bits v 0 1 = 0 && s.on VEC_CTRL_MASK f (off / 16)) (execMsixUnmask f (off / 16)) t
  else s

/-- `n` successive writes of 4 B in ascending address order. -/
def barWords (g : State → Nat → Nat → Nat → State) (f off v n : Nat) (s : State) : State :=
  match n with
  | 0 => s
  | m + 1 => barWords g f (off + 4) (v / 2 ^ 32) m (g s f off (v % 2 ^ 32))

/-- A posted write to a BAR: 4 B at a time; dropped with Unsupported Request where memory space is off or the size is not accepted
(R198). -/
def barWrite (s : State) (f off n v limit : Nat) (g : State → Nat → Nat → Nat → State) : State :=
  if 256 ≤ f ∨ limit < off + n then s
  else if !memOn s f ∨ !barSizeOk off n then urPosted s f
  else barWords g f off v (n / 4) s

/-- A write to BAR0: up to 64 B within one aligned 64 B block of the doorbell range too (R198). -/
def bar0Burst (s : State) (f off n v : Nat) : State :=
  if 256 ≤ f ∨ bar0Bytes s f < off + n then s
  else if memOn s f ∧ 8 < n ∧ n % 4 = 0 ∧ off % 4 = 0 ∧ 0x1000 ≤ off ∧ off / 64 = (off + n - 1) / 64 then
    barWords bar0Write f off v (n / 4) s
  else barWrite s f off n v (bar0Bytes s f) bar0Write

/-- Offsets that a virtual function does not have as writable: its BARs, power management, SR-IOV (Tables 8.4, 8.5). -/
def vfLacks (off : Nat) : Bool :=
  (decide (0x10 ≤ off) && decide (off < 0x28)) || (decide (0x40 ≤ off) && decide (off < 0x50)) || (decide (0x1A0 ≤ off) && decide (off < 0x210))

/-- The writable address bits of BAR0 and of VF BAR0, [63:14] in the field, cut to the BAR's size (R197). -/
def barMask (s : State) (f v : Nat) : Nat := let k := s.get HIF_LINKl_CFG_BAR0_SIZE (linkOf s f) - 4; v / 2 ^ k * 2 ^ k

/-- What a configuration write of some registers leads to: Memory Space Enable, Interrupt Disable, the MSI-X enable, the Function Mask
and the SR-IOV capability take effect with it, a BAR keeps the address bits above its size. -/
def afterCfg (s t : State) (r : Reg) (f : Nat) : State :=
  if r.addr = CFG_COMMANDReg.addr then
    if isPf s f then updInta (t.set HIF_FNf_STATE_MSE (t.get CFG_COMMAND_MSE f) f) f else t.set CFG_COMMAND_MSE 0 f
  else if r.addr = CFG_MSIXReg.addr then
    let t := updInta t f
    if s.on CFG_MSIX_FMASK f ∧ !t.on CFG_MSIX_FMASK f then pbaSendAll t f else t
  else if r.addr = CFG_SRIOV_CTLReg.addr ∨ r.addr = CFG_SRIOV_NUMReg.addr then
    if isPf s f then updVfs t (linkOf s f) else t
  else if r.addr = CFG_BAR0Reg.addr then t.set CFG_BAR0_ADDR (barMask t f (t.get CFG_BAR0_ADDR f)) f
  else if r.addr = CFG_VFBAR0Reg.addr then t.set CFG_VFBAR0_ADDR (barMask t f (t.get CFG_VFBAR0_ADDR f)) f
  else t

/-- The fields of configuration space that a write of up to 4 B covers. -/
def cfgFields (s : State) (f off n v : Nat) : State :=
  if !isPf s f && vfLacks off then s
  else
    match findReg (regsCfg.map fun r => { r with count1 := 1 }) off with
    | none => s
    | some (r, _, j, b) =>
      let k := min n (r.bytes - b)
      ownCfg s (afterCfg s (regPart s f r f j b k (v % 2 ^ (8 * k))) r f) ⟨f, r, f, j, (2 ^ (8 * k) - 1) * 2 ^ (8 * b), v % 2 ^ (8 * k) * 2 ^ (8 * b)⟩

/-- A configuration write of up to 4 B with its completion (R191, R193 to R197, R210): Unsupported Request from a function that is not
there, Request Retry Status while the port or the function is not back from its reset. -/
def cfgWrite (s : State) (f off n v : Nat) : State :=
  if 256 ≤ f ∨ 4 < n ∨ !s.on HIF_LINKl_STATUS_UP (linkOf s f) then s
  else if !fnPresent s f then urAnswered s f
  else if s.on HIF_FNf_STATE_FLR_BUSY f ∨ s.timeUs < tgetD s.hif.perstUs (f / 64) 0 then s.emit (.cfgCpl f 2)
  else (cfgFields s f off n v).emit (.cfgCpl f 0)

/-- REGISTER_WRITE (R3): by a bus master, or by a host to a BAR or to configuration space. -/
def regTarget (s : State) (t : WriteTarget) (v : Nat) : State :=
  match t with
  | .bus master a n inHandler => busWrite s master a n v inHandler
  | .bar0 f off n => bar0Burst s f off n v
  | .bar2 f off n => barWrite s f off n v 65536 bar2Write
  | .bar4 f off n => barWrite s f off n v 65536 bar4Write
  | .config f off n => cfgWrite s f off n v

def execRegisterWrite (t : WriteTarget) (value : Nat) (s : State) : Host.Outcome State Fault Refusal :=
  act .registers s fun s => regTarget s t value

end Sys2Proof.Machine
end

