-- ==== Sys2Proof/Machine/BootOps.lean ====
section
/-! DEFINITION. The boot ROM (R335 to R354, R368), and what device firmware does before it recovers (R56, R161, R352, R393). -/

namespace Sys2Proof.Machine

/-- STAGE of SYS_BOOT: the last step of Table 15.1 that has completed. -/
def stage (s : State) (n : Nat) : State := s.set SYS_BOOT_STAGE n

/-- The ROM halts with a cause (R338): the SPI pins and the trained channels are released, and functions that are present report CFS. -/
def bootHalt (s : State) (err : Nat) : State :=
  let s := (List.range 256).foldl (fun s f => if fnPresent s f then s.set NVME_CSTS_CFS 1 f else s) s
  let s := (List.range 256).foldl (fun s ch => if s.on FCH_CH_STATUS_TRAINED ch then releaseLines s ch else s) s
  { (s.set SYS_BOOT_ERR err).emit (.pin .spi none) with phase := .halted }

/-! Steps 2 and 3: straps and OTP (R336, R349, R397). -/

def bootStraps (s : State) (b : BootInputs) : State :=
  let s := (s.set SYS_STRAP_SMBA b.straps).set SYS_STRAP_SPI_HIZ (bits b.straps 3 1)
  let s := s.set OOB_ADDR_SMB_ADDR (0x18 + b.straps % 8)
  stage { s with fch := { s.fch with vccq := (b.vccq.zip (List.range 16)).foldl (fun t x => tput t x.2 x.1) s.fch.vccq } } 2

/-- What OTP holds made visible: identities, key hashes, security version, and the remap fuses (R301, R350). -/
def bootOtp (s : State) : State :=
  let s := (List.range 2).foldl (fun s j => s.set SYS_UNIT_ID_V (Config.unitIdWord j) 0 j) s
  let s := s.set SYS_HWTYPE_V 0x88400001
  let s := (List.range 4).foldl (fun s k => (List.range 6).foldl (fun s j => s.set SYS_KEYHASHk_V (Config.keyHashWord k j) k j) s) s
  let s := s.sys.otp.remaps.foldl (fun s x =>
    (s.set BPM_REMAPg_e_WORD x.2 (x.1 / 8) (x.1 % 8)).set BPM_REMAPg_e_VALID 1 (x.1 / 8) (x.1 % 8)) s
  otpState s

/-! Steps 4 and 5: the two image copies (R340, R344). -/

/-- The copy that boots: its number (0 A, 1 B), its bytes, and whether the copy read first failed. -/
def pickCopy (s : State) (b : BootInputs) : Option (Nat × List Byte × Bool) :=
  let first := if imgSeq b.copyA < imgSeq b.copyB then 1 else 0
  let img (n : Nat) : List Byte := if n = 0 then b.copyA else b.copyB
  if imageOk s (img first) then some (first, img first, false)
  else if imageOk s (img (1 - first)) then some (1 - first, img (1 - first), true)
  else none

/-! Step 6: the option area (R345, Table 15.4). -/

/-- The protection level (R351, R354). -/
def bootLevel (s : State) (p : List Byte) : State :=
  let confirmed := leAt p 0 1 = 2 ∧ leAt p 1 1 = 0xA5
  let s := if confirmed then { s with sys := { s.sys with otp := { s.sys.otp with level2 := true } } } else s
  s.set SYS_PROT_IMAGE_LEVEL (if confirmed then 2 else min 1 (leAt p 0 1))

/-- The dies of the two Sett copies, and their channels. -/
def bootSett (s : State) (p : List Byte) : State :=
  let l := settCopies p
  let a := match l with | x :: _ => x.1 | [] => []
  let c := match l with | _ :: x :: _ => x.1 | _ => []
  let s := { s with sys := { s.sys with settA := a, settB := c } }
  (a ++ c).foldl (fun s d =>
    s.set SYS_SETT_CHi_MASK (setBits (s.get SYS_SETT_CHi_MASK (chOf d / 64)) (chOf d % 64) 1 1) (chOf d / 64)) s

/-- The identity values. -/
def bootIdent (s : State) (p : List Byte) : State :=
  { s with sys := { s.sys with image := { s.sys.image with
    ssvid := leAt p 0 2, ssid := leAt p 2 2, oui := leAt p 4 3, tnvmcap := leAt p 8 16, psid := sliceAt p 24 48 } } }

/-- An entry of the mailbox binding table as it is loaded: VALID is 0 where a reserved identity is named (R324). -/
def bindEntry (v : Nat) : Nat := if idValid (bits v 0 10) ∧ idValid (bits v 10 10) then v else setBits v 31 1 0

/-- One record of the option area applied. -/
def bootRecord (s : State) (r : Nat × List Byte) : State :=
  let p := r.2
  if r.1 = 1 then (regLoads p).foldl (fun s e => regWrite s 0x1C0 e.1 e.2.1 e.2.2) s
  else if r.1 = 2 then bootLevel s p
  else if r.1 = 3 then bootSett s p
  else if r.1 = 4 then bootIdent s p
  else if r.1 = 5 then (List.range (p.length / 8)).foldl (fun s c => regWrite s 0x1C0 (winBase 12 + 0x4000 + 8 * c) 8 (bindEntry (leAt p (8 * c) 8))) s
  else if r.1 = 6 then (List.range 256).foldl (fun s c => setChan s c { chanOf s c with present := leAt p c 1 }) s
  else if r.1 = 7 then (s.set SYS_SPI_CFG_RWW (leAt p 0 1 % 2)).set SYS_SPI_CFG_CLK_DIV (leAt p 1 1)
  else if r.1 = 8 then
    { s with sys := { s.sys with image := { s.sys.image with bootPkgOff := leAt p 0 4, bootPkgLen := leAt p 4 4 } } }
  else s

/-- A declared value in its stated range; outside it the default stays (R131). -/
def declIn (lo hi v dflt : Nat) : Nat := if lo ≤ v ∧ v ≤ hi then v else dflt

/-- The declared values in force: those in their ranges, else the defaults of R131, R134, R140, R142, R143, R148, R149, R366. -/
def imageDecl (d : ImageDecl) : ImageDecl :=
  { d with
    fdpHandles := declIn 1 128 d.fdpHandles 16
    reserve := declIn 16 1024 d.reserve 64
    spareThresh := declIn 1 50 d.spareThresh 10
    confirmHours := declIn 1 720 d.confirmHours 72
    pslcPct := declIn 1 20 d.pslcPct 4
    directMin := declIn 2 1024 d.directMin 8
    wlDelta := declIn 20 1000 d.wlDelta 150
    scrubDays := declIn 1 90 d.scrubDays 7
    refreshC := if d.refreshC = 0 then 160 else d.refreshC
    refreshDays := if d.refreshDays = 0 then 90 else d.refreshDays
    padMs := declIn 1 1000 d.padMs 50 }

/-- What firmware records of the image declare, which the spec gives no form (log entry 7). -/
def bootDeclared (s : State) (b : BootInputs) : State :=
  { s with sys := { s.sys with image := { s.sys.image with toImageDecl := imageDecl b.decl } } }

/-- Step 6: the records in image order, the locks, and HIF. -/
def bootOptions (s : State) (b : BootInputs) (copy : Nat) (img : List Byte) (fell : Bool) : State :=
  let s := ((s.set SYS_BOOT_COPY copy).set SYS_BOOT_COPY_FALLBACK (b2n fell)).set SYS_SPI_STAT_BOOT_BANK copy
  let s := s.set SYS_IMG_SEQ_V (imgSeq img)
  let s := { s with sys := { s.sys with image := { s.sys.image with bootKey := sigKey img (imgLen img), bootPkgOff := 0, bootPkgLen := 0 } } }
  let s := ((imgRecords img).getD []).foldl bootRecord (bootDeclared s b)
  let fuse := b2n s.sys.otp.level2
  let s := (s.set SYS_PROT_FUSE_L2 fuse).set SYS_PROT_LEVEL (max (s.get SYS_PROT_IMAGE_LEVEL) (2 * fuse))
  let s := (((s.set SYS_CTRL_LOCK 1).set HIF_CTRL_LOCK 1).set CMD_CTRL_LOCK 1).set MBX_CTRL_LOCK 1
  stage (hifEnable s) 6

/-! Step 7: the Sett channels (R346). -/

/-- The dens that hold a Sett die. -/
def settDens (s : State) : List Nat := uniq ((s.sys.settA ++ s.sys.settB).map denOf)

/-- One training step of every channel that the start describes. -/
def trainAll (s : State) (l : List ChanTrain) (o : ChanTrain → TrainOutcome) : State := l.foldl (fun s c => trainStep s c.ch (o c)) s

/-- The dens enabled and their Sett channels trained. A failed step 5 or 6 is tried again as R71 says, at most twenty times. -/
def bootTrain (s : State) (b : BootInputs) : State :=
  let s := (settDens s).foldl startDen (s.set FCH_GCTRL_ENABLE 1)
  let s := trainAll s b.chans fun c => .cont c.fault
  let s := trainAll s b.chans fun _ => .ready
  let s := trainAll s b.chans fun c => .order c.passes c.drives
  let s := trainAll s b.chans fun c => .ids c.ids
  (List.range 20).foldl (fun s _ => trainAll s b.chans fun c => .result c.pass) s

/-- Whether a Sett copy is complete: all its channels are trained. -/
def settComplete (s : State) (l : List Nat) : Bool := l ≠ [] && l.all fun d => s.on FCH_CH_STATUS_TRAINED (chOf d)

/-! Steps 8 and 9. -/

/-- HBM trained: a pseudo-channel that fails is failed (R183); the booted copy is placed in HBM (R344). -/
def bootHbm (s : State) (b : BootInputs) (img : List Byte) : State :=
  let s := b.pcFail.foldl (fun s p => if p < 64 then pcEvent s p 3 0 true else s) s
  let s := { s with media := { s.media with backupFailed := false } }
  stage (writeBytes (s.set HBM_STATUS_READY 1) 0x0011FFFE0000 (img.take (imgLen img))) 8

/-- Whether the ROM performs a regression erase (R352). -/
def regresses (s : State) : Bool := !s.sys.sett.blank && s.sys.sett.levelMark = 1 && s.get SYS_PROT_LEVEL = 0

/-- A regression erase (R353): both Sett copies and every key slot are lost. -/
def regress (s : State) : State :=
  let r := State.reset
  let s := { s with
    nvm := { r.nvm with everNs := s.nvm.everNs, errCount := s.nvm.errCount }
    media := { r.media with pe := s.media.pe, progUs := s.media.progUs, readOnly := s.media.readOnly }
    fw := r.fw
    cry := { s.cry with opal := [], opalPins := [], opalStore := [] }
    oob := { s.oob with vpd := [] }
    sys := { s.sys with sett := r.sys.sett, keyArea := [], keyCount := [] } }
  s.set SYS_BOOT_REGRESSED 1

/-- A regression erase that fails: whether the key area was erased before the block that failed is free (R353). -/
def brokenErase (s : State) : State :=
  let (v, s) := s.fresh
  if v % 2 = 0 then s else { s with sys := { s.sys with keyArea := [], keyCount := [] } }

/-! Steps 10 and 11 (R348, R368). -/

/-- ORDER up to its end. -/
def orderList (t : FwTable) : List Nat := t.order.takeWhile (· ≠ 0)

/-- Whether the attempts of an unconfirmed package are used up (R368). -/
def attemptsSpent (s : State) : Bool := s.fw.table.confirmPending && decide (3 ≤ s.fw.attempts) && s.fw.table.previous ≠ 0

/-- The slots that the ROM tries. -/
def bootOrder (s : State) : List Nat :=
  if s.sys.sett.blank then []
  else if attemptsSpent s then s.fw.table.previous :: (orderList s.fw.table).filter (· ≠ s.fw.table.previous)
  else orderList s.fw.table

/-- The attempt counted while a confirmation is pending. -/
def countAttempt (s : State) : State :=
  if s.fw.table.confirmPending ∧ !attemptsSpent s ∧ !s.sys.sett.blank then { s with fw := { s.fw with attempts := s.fw.attempts + 1 } } else s

/-- Whether a slot's package passes. -/
def slotPasses (s : State) (n : Nat) : Bool := (fwSlot s.fw.table n).valid && pkgOk s (fwSlot s.fw.table n).pkg

/-- Skipped slots: SLOT_FALLBACK, and device firmware marks them failed in its next table. -/
def skipSlots (s : State) (l : List Nat) : State :=
  if l = [] then s
  else
    let mark (t : FwTable) (n : Nat) : FwTable := let x := fwSlot t n; if x.valid then putSlot t n { x with valid := false, failed := true } else t
    { s.set SYS_BOOT_SLOT_FALLBACK 1 with fw := { s.fw with table := l.foldl mark s.fw.table } }

/-- The package that starts: its slot, 0 for the one of BOOT_PKG, and its bytes. -/
def pickPackage (s : State) (b : BootInputs) : Option (Nat × List Byte) :=
  match (bootOrder s).find? (slotPasses s) with
  | some n => some (n, (fwSlot s.fw.table n).pkg)
  | none => if s.sys.image.bootPkgLen ≠ 0 ∧ pkgOk s b.bootPkg then some (0, b.bootPkg) else none

/-- Step 11: the cores loaded and released (R321, R337). -/
def bootCores (s : State) (pkg : List Byte) (ms : Nat) : State :=
  let (page, s) := packagePage s pkg
  let s := nameImages (writeBytes s (page * 4096) pkg) pkg page
  let s := (List.range 64).foldl (fun s n =>
    kickCore ((loadImage (s.set MBX_COREn_CTL_HOLD 0 n) n).set MBX_COREn_CTL_STATE 2 n) n) s
  s.set SYS_BOOT_BOOT_MS ms

/-! Device firmware, before it recovers. -/

/-- Whether the ceiling that the image's energy allows is at least 4 units (R169). -/
def holdupAdequate (s : State) : Bool := decide (4 ≤ energyUnits (s.get HBM_HOLDUP_ENERGY_MJ))

/-- The unexpected path: an unsafe shutdown is counted and made durable, and with adequate holdup energy the absence of a
SHUTDOWN page is a holdup failure (R56, R161, R419). -/
def unsafeStart (s : State) : State :=
  if s.sys.sett.blank ∨ s.sys.sett.clean then s
  else
    let add (h : Health) : Health := { h with unsafeStops := h.unsafeStops + 1 }
    let s := { s with media := { s.media with health := add s.media.health, saved := add s.media.saved } }
    if holdupAdequate s then
      errAdd { fltLog s 4 0xFFFF 0xFF 0x0101 0 with media := { s.media with backupFailed := true } } 0 0xFFFF 0xFFFF stInternal 0
    else s

/-- A blank Sett begins a new life: a drawn instance (R347). LEVEL_MARK is brought to the level in force (R352). -/
def settStart (s : State) : State :=
  let level := s.get SYS_PROT_LEVEL
  let s :=
    if s.sys.sett.blank then
      let (v, s) := s.fresh
      writeAnchor { s with sys := { s.sys with sett := { s.sys.sett with blank := false, instance_ := v % 2 ^ 64 } } }
    else s
  if s.sys.sett.levelMark < level then
    writeAnchor { s with sys := { s.sys with sett := { s.sys.sett with levelMark := level } } }
  else s

/-- The slot table of a package that starts in another slot than the one that ran, that migrates at its first start, or that
completes a fallback (R365, R366, R368). A slot activated by the start brings its Ploette image (R369). -/
def tableStart (s : State) (n : Nat) : State :=
  let t := s.fw.table
  let back := t.confirmPending && n = t.previous
  if n = 0 ∨ (n = t.active ∧ !back ∧ (fwSlot t n).fmt ≤ t.s) then s
  else putTable (if back ∨ n = t.active then s else writeImage s (fwSlot t n).pkg) (startTable s t n)

/-- Holdup measurements are kept until the image declares another energy (R393). -/
def holdupStart (s : State) : State :=
  let e := s.get HBM_HOLDUP_ENERGY_MJ
  let s := if s.sys.image.holdupMj ≠ e then { s with media := { s.media with holdupMin := 0 } } else s
  { s with sys := { s.sys with image := { s.sys.image with holdupMj := e } } }

/-- The recovery that begins once MAP is enabled with REPLAY = 1; a blank Sett has no map to recover (R52, R53). -/
def recovStart (s : State) (ckptBad : Bool) : State :=
  if s.sys.sett.blank then s
  else { s with map := { s.map with recov := some ⟨false, ckptBad, [], s.sys.sett.clean, [], none⟩ } }

/-- EPOCH and STATE of every die restored from the die tables of the Sett (R75). -/
def restoreDies (s : State) : State :=
  let rows := s.media.dieTab.foldl (fun t x => tput t x.die x) []
  rows.foldl (fun s x =>
    let s := s.set FCH_DIEd_EPOCH x.2.epoch (x.1 / 8) (x.1 % 8)
    if x.2.state = 2 ∨ x.2.state = 3 then restoreDie s x.1 x.2.state else s) s

/-- What device firmware has done when recovery begins. -/
def firmwareStart (s : State) (n : Nat) (ckptBad : Bool) : State := restoreDies (holdupStart (settStart (recovStart (unsafeStart (tableStart s n)) ckptBad)))

/-! The whole sequence. -/

/-- Steps 9 to 11. -/
def bootFirmware (s : State) (b : BootInputs) : State :=
  if regresses s && !b.eraseOk then bootHalt (brokenErase s) 6
  else
    let s := stage (countAttempt (if regresses s then regress s else s)) 9
    let spent := attemptsSpent s
    match pickPackage s b with
    | none => bootHalt (skipSlots s (bootOrder s)) 5
    | some (n, pkg) =>
      let skipped := if n = 0 then bootOrder s else (bootOrder s).takeWhile (· ≠ n)
      let s := if spent then s.set SYS_BOOT_SLOT_FALLBACK 1 else s
      let s := skipSlots s skipped
      let s := if n = 0 then s.set SYS_BOOT_RECOVERY_PKG 1 else s.set SYS_BOOT_SLOT (n - 1)
      { stage (firmwareStart (bootCores (stage s 10) pkg b.bootMs) n b.ckptBad) 11 with phase := .running }

/-- Configuration requests on a port whose PERST_N is high are answered at a free time within 20 ms of the reference (R337, R409). -/
def cfgFrom (s : State) : State :=
  (List.range 4).foldl (fun s p =>
    if s.hif.perst.contains p then s
    else
      let (v, s) := s.fresh
      { s with hif := { s.hif with perstUs := tput s.hif.perstUs p (s.timeUs + v % 20001) } }) s

/-- The ROM from step 1 (Table 15.1). The start-up test of the entropy source passes (R274). Step 4 resets the NOR, polls its status and
reads SFDP (R339). -/
def boot (s : State) (b : BootInputs) : State :=
  let s := bootStraps { cfgFrom (s.set CRY_ENT_OK 1) with flt := { s.flt with resetUs := s.timeUs } } b
  if !b.otpOk then bootHalt s 1
  else
    let s := stage (bootOtp s) 3
    if s.on SYS_STRAP_SPI_HIZ then bootHalt s 7
    else
      let s := ((s.emit (.nor 0x66 none [])).emit (.nor 0x99 none [])).emit (.nor 0x05 none [])
      let s := (s.emit (.nor 0x5A (some 0) [])).set SYS_SPI_CFG_ADDR4 (b2n b.addr4)
      let s := stage (s.set SYS_SPI_CFG_DENSITY b.density) 4
      match pickCopy s b with
      | none => bootHalt s 2
      | some (copy, img, fell) =>
        let s := bootTrain (bootOptions (stage s 5) b copy img fell) b
        let a := settComplete s s.sys.settA
        let c := settComplete s s.sys.settB
        if !a && !c then bootHalt s 3
        else
          let s := stage (s.set SYS_BOOT_SETT_DEGRADED (b2n (!(a && c)))) 7
          if !b.hbmOk then bootHalt s 4 else bootFirmware (bootHbm s b img) b

/-! Start and warm start (R335, R391, R407, R409). -/

/-- Opal ranges with LockOnReset at a power cycle (R277). -/
def lockRanges (s : State) : State :=
  { s with cry := { s.cry with opal := s.cry.opal.map fun r =>
    if r.lockOnReset then { r with readLocked := true, writeLocked := true } else r } }

/-- A start: one more power cycle (Table 6.5). -/
def coldStart (s : State) (b : BootInputs) : State :=
  let add (h : Health) : Health := { h with powerCycles := h.powerCycles + 1 }
  boot { lockRanges s with media := { s.media with health := add s.media.health, saved := add s.media.saved } } b

/-- A warm start: SYS is reset but for CLK_LOSS, PWR keeps its state (R408). -/
def warmStart (s : State) (b : BootInputs) : State :=
  let loss := s.get SYS_STATUS_CLK_LOSS
  boot ((s.resetRegs (winBase 0) (winBase 1)).set SYS_STATUS_CLK_LOSS loss) b

end Sys2Proof.Machine
end

