-- ==== Sys2Proof/Machine/BootCmd.lean ====
section
/-! DEFINITION. The commands that start the device and hold it in reset (R20, R335, R391, R407 to R409, R417). -/

namespace Sys2Proof.Machine

/-- A rail leaves its range: every block is in reset (R335). -/
def execRailOutOfRange (s : State) : Host.Outcome State Fault Refusal := .next (confine .reset s (powerOff s))

/-- Every rail has been in range for 2 ms: the boot sequence runs (R335, R337). -/
def execStart (b : BootInputs) (s : State) : Host.Outcome State Fault Refusal :=
  if s.phase = .off then .next (confine .reset s (coldStart s b)) else .next s

/-- The hold is released: the boot sequence runs. A thermal shutdown is left only by a start (R388, R391, R409). -/
def execWarmStart (b : BootInputs) (s : State) : Host.Outcome State Fault Refusal :=
  if s.phase = .held ∧ !s.pwr.tripped then .next (confine .reset s (warmStart s b)) else .next s

/-- Whether AUTO_S seconds have passed since the fatal controller fault (R417). -/
def autoDue (s : State) : Bool :=
  match s.flt.fatalUs with
  | some t => s.get FLT_FATAL_AUTO_S ≠ 0 && decide (t + 1000000 * s.get FLT_FATAL_AUTO_S ≤ s.timeUs)
  | none => false

/-- AUTO_S seconds after a fatal controller fault without a warm start, FLT starts one (R417). -/
def execAutoWarmStart (s : State) : Host.Outcome State Fault Refusal :=
  if s.live && !s.on PWR_STATE_FLUSH_ACTIVE && s.phase ≠ .halted && s.on FLT_FATAL_ACTIVE && autoDue s then
    .next (confine .reset s (updPs (holdBlocks s)))
  else .next s

end Sys2Proof.Machine
end

