-- ==== Sys2Proof/Machine/Irq.lean ====
section
/-! DEFINITION. The interrupt sources as the cores see them (R320, Table 14.3). A source is the level of its status bits, so it
is computed and never stored. -/

namespace Sys2Proof.Machine

/-- Whether a status register has a bit set with the same bit of its enable register. -/
def pendingBits (s : State) (status en : Reg) (i j : Nat) : Bool := decide (regValue s status i j &&& regValue s en i j ≠ 0)

/-- Source `4 + den`: the den's own status, and the status of its 16 channels. -/
def denAsserted (s : State) (den : Nat) : Bool :=
  pendingBits s FCH_DEN_STATUSReg FCH_DEN_INT_ENReg den 0
    || (List.range 16).any fun c => pendingBits s FCH_CH_STATUSReg FCH_CH_INT_ENReg (den * 16 + c) 0

/-- Whether a UDM engine has a channel with its UDM_PENDi bit set. -/
def udmAsserted (s : State) (e : Nat) : Bool := bits (s.get UDM_PENDi_PEND (e / 2)) (e % 2 * 16) 16 ≠ 0

/-- Whether an interrupt source is asserted. -/
def sourceAsserted (s : State) (i : Nat) : Bool :=
  if 4 ≤ i ∧ i < 20 then denAsserted s (i - 4)
  else if 25 ≤ i ∧ i < 33 then udmAsserted s (i - 25)
  else
    match i with
    | 0 => pendingBits s SYS_STATUSReg SYS_INT_ENReg 0 0
    | 1 => pendingBits s HIF_STATUSReg HIF_INT_ENReg 0 0
    | 2 => pendingBits s CMD_STATUSReg CMD_INT_ENReg 0 0
    | 3 => pendingBits s MAP_STATUSReg MAP_INT_ENReg 0 0
    | 20 => pendingBits s CDC_STATUSReg CDC_INT_ENReg 0 0 || pendingBits s CDC_CP_DONEReg CDC_CP_INT_ENReg 0 0
    | 21 => pendingBits s TRK_STATUSReg TRK_INT_ENReg 0 0
    | 22 => pendingBits s HBM_STATUSReg HBM_INT_ENReg 0 0
    | 23 => pendingBits s BUR_STATUSReg BUR_INT_ENReg 0 0
    | 24 => pendingBits s BPM_STATUSReg BPM_INT_ENReg 0 0
    | 33 => pendingBits s CRY_STATUSReg CRY_INT_ENReg 0 0
    | 34 => pendingBits s CPR_STATUSReg CPR_INT_ENReg 0 0
    | 35 => pendingBits s MBX_STATUSReg MBX_INT_ENReg 0 0
    | 36 => pendingBits s PWR_STATUSReg PWR_INT_ENReg 0 0
    | 37 => pendingBits s OOB_STATUSReg OOB_INT_ENReg 0 0
    | 38 => pendingBits s FLT_STATUSReg FLT_INT_ENReg 0 0
    | _ => false

/-- MBX_COREn_PEND: the sources asserted and routed to a core. -/
def corePend (s : State) (n : Nat) : Nat :=
  (List.range 64).foldl (fun v i =>
    if s.on MBX_ROUTEi_EN i && s.get MBX_ROUTEi_CORE i = n && sourceAsserted s i then v + 2 ^ i else v) 0

end Sys2Proof.Machine
end

