-- ==== Sys2Proof/Machine/RegRead.lean ====
section
/-! DEFINITION. Reads of registers and memory on the internal bus, with what a read of an RC field does (R2, R3, R5, R7, R317). -/

namespace Sys2Proof.Machine

/-- A read of PWR_ELEMk_TEMP: its value, after which MAX clears (R3, R395). -/
def elemTempRead (s : State) (k : Nat) : Nat × State :=
  (s.get PWR_ELEMk_TEMP_TEMP k + s.get PWR_ELEMk_TEMP_MAX k * 2 ^ 16, s.set PWR_ELEMk_TEMP_MAX 0 k)

/-- PWR_ELEM_TEMP_MAX_READ. -/
def execPwrElemTempMaxRead (k : Nat) (s : State) : Host.Outcome State Fault Refusal :=
  act .elemMax s fun s => if 32 ≤ k then s else let (v, t) := elemTempRead s k; { t with bus := .data v }

/-- One copy of a register read whole by an engine. No binding names an engine, so its read of a mailbox channel reads 0 and is a
binding violation (R325). -/
def regLoad (s : State) (r : Reg) (i j : Nat) : Nat × State :=
  if r.addr = BPM_POOLn_ALLOCReg.addr then poolAllocRead s i
  else if r.addr = BPM_POOLn_STATEReg.addr then minFreeRead s i
  else if r.addr = MAP_RERUN_POPReg.addr then rerunPop s
  else if r.addr = PWR_ELEMk_TEMPReg.addr then elemTempRead s i
  else if r.addr = MBX_COREn_PENDReg.addr then (corePend s i, s)
  else if linkAbsent s r i then (0, s)
  else if r.addr = MBX_CHc_MSGReg.addr ∨ r.addr = MBX_CHc_ACKReg.addr ∨ r.addr = MBX_CHc_STATEReg.addr then (0, bindViol s udmMaster)
  else if r.addr = FCH_DIEdReg.addr then (dieWord s (8 * i + j) (regValue s r i j), s)
  else if r.addr = HBM_CNTnReg.addr ∧ i = 2 then (min s.hbm.partials (2 ^ 64 - 1), s)
  else if r.addr = CRY_CNTnReg.addr ∧ i = 5 then (min s.cry.misses (2 ^ 64 - 1), s)
  else (regValue s r i j, s)

/-- A read that covers bytes `b` to `b + n` of a register: MIN_FREE, in bits 50 to 32, clears only where it is read. -/
def partLoad (s : State) (r : Reg) (i j b n : Nat) : Nat × State :=
  let (v, t) := regLoad s r i j
  (v, if r.addr = BPM_POOLn_STATEReg.addr ∧ b + n ≤ 4 then s else t)

/-- A read of 4 or 8 aligned bytes in a block window; an offset that holds nothing reads 0 (R7). -/
def winLoad (s : State) (a n : Nat) : Nat × State :=
  let low (s : State) (a n : Nat) : Nat × Nat × State :=
    match regAt a with
    | some (r, i, j, b) =>
      let (v, t) := partLoad s r i j b (min n (r.bytes - b))
      (min n (r.bytes - b), v / 2 ^ (8 * b) % 2 ^ (8 * min n (r.bytes - b)), t)
    | none => (4, 0, s)
  let (k, v, t) := low s a n
  if n ≤ k then (v % 2 ^ (8 * n), t)
  else
    let (_, w, t) := low t (a + 4) 4
    (v % 2 ^ 32 + w % 2 ^ 32 * 2 ^ 32, t)

/-- Base of the NOR window (R355). -/
def norWinBase : Nat := winBase 0 + 0x800000

/-- Whether an address lies in the NOR window, and the NOR address that it shows. -/
def inNorWin (a : Nat) : Bool := decide (norWinBase ≤ a) && decide (a < winBase 1)
def norAddr (s : State) (a : Nat) : Nat := s.get SYS_SPI_WIN_BASE * 0x800000 + (a - norWinBase)

/-- NOR_WINDOW_READ: the NOR's data, or a bus fault while the bank is busy (R317, R319, R355). -/
def execNorWindowRead (master addr size : Nat) (inHandler : Bool) (norData : Nat) (s : State) :
    Host.Outcome State Fault Refusal := act .norWindow s fun s =>
  if !inNorWin addr then s
  else if !mayReach master addr ∨ (size ≠ 4 ∧ size ≠ 8) ∨ addr % size ≠ 0 then busFault s master addr inHandler
  else if bankIsBusy s (norBank s (norAddr s addr)) then busFault (s.set SYS_STATUS_SPI_BUSY_FAULT 1) master addr inHandler
  else { s with bus := .data (norData % 2 ^ (8 * size)) }

/-- What a read on the internal bus gives. -/
inductive BusRead where
  | data (l : List Byte)
  | busErr
  | dataErr
  deriving DecidableEq, Repr

/-- An aligned read of `n` bytes by an engine. `nor` is what the NOR still has to answer. -/
def busLoad (s : State) (a n : Nat) (nor : List Byte) : BusRead × List Byte × State :=
  let bytes : BusRead := match readBytes s a n with | some l => .data l | none => .dataErr
  if isMem a n then (bytes, nor, noteLines s a n)
  else if isWindow a then
    if n ≠ 4 ∧ n ≠ 8 then (.busErr, nor, s)
    else if inNorWin a then
      if bankIsBusy s (norBank s (norAddr s a)) then (.busErr, nor, s.set SYS_STATUS_SPI_BUSY_FAULT 1)
      else (.data (fit nor n), nor.drop n, s)
    else
      let (v, t) := winLoad s a n
      (.data (natLe v n), nor, t)
  else if isCluster a then
    match tcmAt a with
    | some _ => (bytes, nor, s)
    | none => (.data (List.replicate n 0), nor, s)
  else (.busErr, nor, s)

end Sys2Proof.Machine
end

