-- ==== Sys2Proof/Machine/SecCmd.lean ====
section
/-! DEFINITION. Security Send and Receive and the Opal methods (R276 to R278), directives, Service Dump and Requalify Die
(R245, R259, R260). -/

namespace Sys2Proof.Machine

/-! Security (R276). -/

/-- Security protocol and its specific field. -/
def secp (x : Ctx) : Nat := bits x.sqe.cdw10 24 8
def spsp (x : Ctx) : Nat := bits x.sqe.cdw10 8 16

/-- What a payload of the Opal protocols writes of the credentials and of the 128 KiB DataStore table; TCG says what (R276). -/
def opalSend (s : State) (d : List Byte) : State :=
  { s with cry := { s.cry with
    opalPins := Config.opalPins s.cry.opalPins d
    opalStore := fit (Config.opalStore s.cry.opalStore d) 131072 } }

/-- Security Send: a payload of the Opal protocols goes to the subsystem, whose methods take effect as the OPAL rows; no
other protocol takes data. `data` is what the transfer brought. -/
def execSecuritySend (ctx : Nat) (data : List Byte) (s : State) : Host.Outcome State Fault Refusal := act .security s fun s =>
  fwRun s ctx false 0x81 fun s x =>
    if (secp x = 1 ∨ secp x = 2) ∧ (hostData x data).length = dataLen s x then fwPost (opalSend s (hostData x data)) ctx 0 0 0
    else fwPost s ctx stInvalidField 0 0

/-- The list of supported security protocols: 00h, 01h and 02h. -/
def secProtocols : List Byte := List.replicate 6 0 ++ natBe 3 2 ++ [0, 1, 2]

/-- Security Receive: the protocol list, or a response of the Opal protocols, whose bytes the spec leaves to TCG. -/
def execSecurityReceive (ctx : Nat) (s : State) : Host.Outcome State Fault Refusal := act .security s fun s =>
  fwRun s ctx false 0x82 fun s x =>
    if secp x = 0 ∧ spsp x = 0 then fwPost (fwData s x ctx 0 (fit secProtocols (dataLen s x))) ctx 0 0 0
    else if secp x = 1 ∨ secp x = 2 then
      let (d, s) := s.freshBytes (dataLen s x)
      fwPost (fwData s x ctx 0 (fit d (dataLen s x))) ctx 0 0 0
    else fwPost s ctx stInvalidField 0 0

/-! Opal methods (R277, R278). -/

/-- The Security Send that carries a method: the oldest that firmware has taken. -/
def opalCtx (s : State) : Option Nat :=
  (s.cmd.ctxs.filter fun y => isAdmin y.2 0x81 && y.2.stage = .taken).foldl (fun r y =>
    match r with
    | some c => if (match ctxOf s c with | some x => decide (x.seq ≤ y.2.seq) | none => false) then some c else some y.1
    | none => some y.1) none

/-- Namespaces that a range touches. -/
def rangeNs (s : State) (r : OpalRange) : List Nat :=
  if r.kind = 0 then (s.nvm.ns.map Prod.fst).filter fun n => !ownGlobal s n else [r.ns]

/-- Whether a range has the alignment and the place that R276 gives it: a non-global one is whole runs of its namespace, at most 64 of
them exist. -/
def rangeOk (s : State) (r : OpalRange) : Bool :=
  r.kind < 2 || (decide (r.kind = 2) && decide (r.first % 512 = 0) && decide (r.count % 512 = 0) && decide (0 < r.count)
    && (nsInfo s r.ns).isSome && decide (r.first + r.count ≤ nsRuns s r.ns * 512)
    && ((s.cry.opal.any fun x => decide (x.kind = 2) && decide (x.num = r.num))
      || decide ((s.cry.opal.filter fun x => x.kind = 2).length < 64)))

/-- A range with its lock state put in place; one that becomes locked takes its namespaces out of the Burrow (R179, R277). -/
def putRange (s : State) (r : OpalRange) : State :=
  let s := if r.readLocked ∨ r.writeLocked then (rangeNs s r).foldl (fun s n => invalRuns s (nsBase s n) (nsRuns s n)) s else s
  { s with cry := { s.cry with opal := (s.cry.opal.filter fun x => x.kind ≠ r.kind || x.num ≠ r.num || x.ns ≠ r.ns) ++ [r] } }

/-- Work done under the whole-namespace records of some namespaces, one after another, for the Send that carries the method;
at once when none does. -/
def underNs (s : State) (l : List Nat) (g : State → State) : State :=
  match opalCtx s with
  | none => g s
  | some c =>
    let step (s : State) (_ : Nat) : State × PieceStep := (s, .done)
    let fin (s : State) : State := g (updCtx s c fun x => { x with dw1 := 0 })
    let done := match ctxOf s c with | some x => x.dw1 | none => 0
    pieceLoop step .now fin s c ((l.map fun n => (some (wholeRec n), none, n)).drop done)

/-- A change of lock state. -/
def execOpalLockStateChange (r : OpalRange) (s : State) : Host.Outcome State Fault Refusal := act .opal s fun s =>
  if rangeOk s r then underNs s (rangeNs s r) fun s => putRange s r else s

/-- Completion record of an Opal crypto-erase: a firmware-defined type, KEY the slot (R278, log entry 33). -/
def opalRec (slot : Nat) : JRec := ⟨0x82, 0, slot, 0⟩

/-- Slots crypto-erased with their completion records; nothing without entropy. -/
def opalErase (s : State) (slots : List Nat) : State :=
  if !mayJournal s slots.length then s
  else
    match slots.foldlM (fun s k => (cryptoErase s k).map fun s => appendFw s (opalRec k)) s with
    | some t => t
    | none => s

/-- A request for the secure deallocation of a range recorded (R155, R278). -/
def secRequest (s : State) (ns : Nat) (runs : List Nat) : State :=
  let l := signedStripes s runs
  let r : SecReq := ⟨s.nvm.secNext, ns, 0, l, l.length, 0, 0, pohHours s⟩
  { s with nvm := { s.nvm with secReqs := r :: s.nvm.secReqs, secNext := s.nvm.secNext + 1 } }

/-- Phase 1 of a Secure Deallocate of a non-global range. -/
def genkeyRange (s : State) (r : OpalRange) : State :=
  let spans := nsSpans s r.ns r.first (r.first + r.count)
  let runs := rangeRuns s r.ns [(r.first, r.first + r.count)]
  match opalCtx s with
  | none => (let (t, ok) := markSpans s .secure spans; if ok then secRequest t r.ns runs else t)
  | some c =>
    let step (s : State) (y : Nat × Nat × Nat) : State × PieceStep :=
      let (s, ok) := markSpan s y.1 y.2.1 y.2.2 .secure
      (s, if ok then .done else .wait)
    let fin (s : State) : State := secRequest (updCtx s c fun x => { x with dw1 := 0 }) r.ns runs
    let done := match ctxOf s c with | some x => x.dw1 | none => 0
    pieceLoop step .always fin s c
      ((spans.map fun y => (some (rangeRec r.ns ((y.1 - nsBase s r.ns) * 512 + y.2.1) y.2.2 true), none, y)).drop done)

/-- In read-only mode a method that would remove data does nothing: the Security Send that carries it completes with Namespace is
Write Protected (R158). -/
def opalReadOnly (s : State) : State := match opalCtx s with | some c => fwPost s c stWpDnr 0 0 | none => s

/-- GenKey on a range: new keys for a global range's slots, a secure deallocation for a non-global one (R278). -/
def execOpalGenkey (range : Nat) (s : State) : Host.Outcome State Fault Refusal := act .opal s fun s =>
  match s.cry.opal.find? fun r => r.num = range with
  | none => s
  | some r => if s.media.readOnly then opalReadOnly s else if r.kind = 2 then genkeyRange s r else opalErase s (uniq ((rangeNs s r).map (nsSlot s)))

/-- Revert and PSID revert: every slot crypto-erased, no range locked (R278). -/
def execOpalRevert (psid : Bool) (s : State) : Host.Outcome State Fault Refusal := act .opal s fun s =>
  if s.media.readOnly then opalReadOnly s
  else if psid ∨ (opalCtx s).isSome then
    match sanKeys s with
    | some t => if mayJournal t 1 then { (appendFw t (opalRec 0xFFFF)) with cry := { t.cry with opal := [], opalPins := [], opalStore := [] } } else s
    | none => s
  else s

/-! Directives (R245). -/

/-- Directive type and operation. -/
def dirType (x : Ctx) : Nat := bits x.sqe.cdw11 8 8
def dirOp (x : Ctx) : Nat := bits x.sqe.cdw11 0 8

/-- Directive Send: the Identify directive's enable, which can change neither directive (PRESUMED, log entry 29). -/
def execDirectiveSend (ctx : Nat) (_data : List Byte) (s : State) : Host.Outcome State Fault Refusal := act .security s fun s =>
  fwRun s ctx false 0x19 fun s x =>
    if dirType x = 0 ∧ dirOp x = 1 ∧ bits x.sqe.cdw12 8 8 = 0 ∧ bits x.sqe.cdw12 0 1 = 1 then fwPost s ctx 0 0 0
    else fwPost s ctx stInvalidField 0 0

/-- The Return Parameters of the Identify directive: supported, enabled, and persistent directives. -/
def dirParams (s : State) : List Byte :=
  let v := 1 + 4 * b2n s.sys.image.fdp
  fit (natLe v 32 ++ natLe v 32 ++ natLe v 32) 4096

def execDirectiveReceive (ctx : Nat) (s : State) : Host.Outcome State Fault Refusal := act .security s fun s =>
  fwRun s ctx false 0x1A fun s x =>
    if dirType x = 0 ∧ dirOp x = 1 then fwPost (fwData s x ctx 0 (fit (dirParams s) (dataLen s x))) ctx 0 0 0
    else fwPost s ctx stInvalidField 0 0

/-! Service Dump (R260). -/

/-- The dump's bytes: sealed, of a size that the spec does not fix; free values of its draw. -/
def dumpBytes (d : Dump) : List Byte := fit (Config.freeBytes d.draw (d.units * 4096)) (d.units * 4096)

def execServiceDumpCapture (ctx : Nat) (s : State) : Host.Outcome State Fault Refusal := act .security s fun s =>
  fwRun s ctx false 0xC2 fun s x =>
    if x.sqe.cdw10 % 16 ≠ 0 then s
    else
      let (v, s) := s.fresh
      let d : Dump := ⟨v % 65536 + 1, s.freeCount⟩
      let (_, s) := s.fresh
      fwPost { s with nvm := { s.nvm with dump := some d } } ctx 0 d.units 0

/-- Byte offset of a read of the dump. -/
def dumpOff (x : Ctx) : Nat := x.sqe.cdw12 + x.sqe.cdw13 * 2 ^ 32

def execServiceDumpRead (ctx : Nat) (s : State) : Host.Outcome State Fault Refusal := act .security s fun s =>
  fwRun s ctx false 0xC2 fun s x =>
    if x.sqe.cdw10 % 16 ≠ 1 then s
    else
      match s.nvm.dump with
      | none => fwPost s ctx stNoDump 0 0
      | some d =>
        let n := dataLen s x
        if d.units * 4096 < dumpOff x + n then fwPost s ctx stInvalidField 0 0
        else fwPost (fwData s x ctx 0 (((dumpBytes d).drop (dumpOff x)).take n)) ctx 0 0 0

def execServiceDumpRelease (ctx : Nat) (s : State) : Host.Outcome State Fault Refusal := act .security s fun s =>
  fwRun s ctx false 0xC2 fun s x =>
    if x.sqe.cdw10 % 16 ≠ 2 then s
    else if s.nvm.dump.isNone then fwPost s ctx stNoDump 0 0
    else fwPost { s with nvm := { s.nvm with dump := none } } ctx 0 0 0

/-! Requalify Die (R259). -/

/-- Whether a stripe descriptor in use still names a block of a die (R112). -/
def dieNamed (s : State) (die : Nat) : Bool :=
  (stripesInUse s).any fun st => (List.range 34).any fun p => memberDie (memberWord s st p) = die

def setRequal (s : State) (r : Option RequalRun) : State := { s with media := { s.media with requal := r } }

/-- A requalification that failed: the die is fenced again where it had reached the requalifying state. -/
def requalEnd (s : State) (c die st : Nat) : State :=
  let s := setRequal s none
  fwPost (if dieState s die = 4 then fenceDie s die else s) c st 0 0

/-- The checks and REQUALIFY. -/
def requalBegin (s : State) (c die : Nat) : State :=
  let st := dieState s die
  if st ≠ 2 ∧ st ≠ 3 then fwPost s c stDieState 0 0
  else if dieNamed s die then fwPost s c stRebuildPending 0 0
  else
    let t := requalifyDie s die
    if (dieOf t die).requal.isSome then setRequal t (some ⟨c, die, false, [], false⟩)
    else fwPost t c (if t.get FCH_DIEd_CMD_STS_RESULT (chOf die) (die % 8) = 3 then stEpochExhausted else stRequalFailed) 0 0

/-- The erases of every block that will be reused: those without a factory mark whose erase has not failed (R147). A die whose marks
have not been read holds no data, and is not erased (R151). -/
def requalErases (s : State) (die : Nat) : List Nat :=
  let out := markedBlocks s die ++ (s.media.grown.filter fun g => g.die = die && g.reason = 2).map fun g => g.block
  if dieScanned s die then
    ((List.range (s.get FCH_MODELm_GEOM_BLOCKS (dieModel s die))).filter fun b => !out.contains b).map (peKey die)
  else []

/-- The fault monitor's elements cleared after ACTIVATE: the die, and its channel where that was lasting and has passed its check
(R415). -/
def requalCleared (s : State) (die : Nat) : State :=
  let s := fltClear s die
  let e := elemChannel (chOf die)
  if s.on FLT_ELEMe_LASTING e ∧ !s.on FCH_CH_STATUS_FENCED (chOf die) then fltClear s e else s

/-- A running requalification: REQUALIFY waited for, then the erases, then ACTIVATE. -/
def requalTurn (s : State) (c : Nat) (r : RequalRun) : State :=
  let die := r.die
  if (dieOf s die).requal.isSome then s
  else if dieState s die ≠ 4 then requalEnd s c die (if dieEpoch s die = 0xFFFF then stEpochExhausted else stRequalFailed)
  else if !r.erasing then
    let keys := requalErases s die
    if mayJournal s keys.length then keys.foldl eraseBlock (setRequal s (some { r with erasing := true, left := keys })) else s
  else if r.failed then requalEnd s c die stRequalFailed
  else if r.left ≠ [] then s
  else
    let s := requalCleared (setRequal (activateDie s die) none) die
    fwPost s c 0 (dieEpoch s die) 0

def execRequalifyDie (ctx : Nat) (s : State) : Host.Outcome State Fault Refusal := actTurn .requalifyDie s fun s =>
  fwRun s ctx false 0xC4 fun s x =>
    match s.media.requal with
    | some r => if r.ctx = ctx then requalTurn s ctx r else fwPost s ctx stSequence 0 0
    | none => requalBegin s ctx (bits x.sqe.cdw10 0 11)

end Sys2Proof.Machine
end

