-- ==== Sys2Proof/Machine/TapCmd.lean ====
section
/-! DEFINITION. The test access port and its boundary register (R434 to R437, R448). No reset of the device reaches it, and it
works in every phase (R337, R351). -/

namespace Sys2Proof.Machine

/-! The scannable balls (R434 to R437, R448). -/

/-- What a cell of the boundary register serves. -/
inductive ScanCell where
  /-- The control cell of the system outputs and WP_N. -/
  | systemControl
  | channelControl (ch : Nat)
  /-- Signal of a flash channel: row of the tile and place in it (Table 21.4). -/
  | flash (ch j m : Nat)
  | wpN (den : Nat)
  /-- A PCIe lane: port, whether it is TX, lane, whether it is the N ball. -/
  | lane (port : Nat) (tx : Bool) (lane : Nat) (neg : Bool)
  | perstN (port : Nat)
  | spi (k : Nat)
  /-- Another system ball of Table 21.5: row, side, place. -/
  | system (r side m : Nat)
  deriving DecidableEq, Repr

/-- Place of column `c` of row `r` in the band with base `b` (R434). -/
def ballM (r c b : Nat) : Nat := (c + r % 2 - 2 - b) / 2

/-- The cells of a den-tile ball (R435): a channel's first ball follows the control cell of the channel. -/
def denCells (r c : Nat) : List ScanCell :=
  let g := if c ≤ 32 then 0 else if c ≤ 64 then 1 else if c ≤ 160 then 2 else 3
  let base := if c ≤ 32 then 0 else if c ≤ 64 then 32 else if c ≤ 160 then 128 else 160
  let m := ballM r c base
  let o := (r - 1) % 24
  let ch := 16 * (4 * g + (r - 1) / 24) + 2 * (o / 3) + m / 8
  let j := o % 3
  let p := m % 8
  let signal := if j = 0 then true else if j = 1 then [1, 2, 4, 5].contains p else decide (p ≤ 4)
  if !signal then [] else if j = 0 && p = 0 then [.channelControl ch, .flash ch j p] else [.flash ch j p]

/-- The cells of a PCIe-tile ball (R436). -/
def portCells (r c : Nat) : List ScanCell :=
  let top : Bool := decide (r ≤ 12)
  let right := if c ≤ 96 then 0 else 1
  let port := (if top then 0 else 2) + right
  let t := if top then r - 1 else 96 - r
  let m := ballM r c (64 + 32 * right)
  let pair := m ≤ 11 && m % 3 ≠ 0
  if 1 ≤ t && t ≤ 4 && pair then [.lane port false (4 * (t - 1) + m / 3) (m % 3 = 2)]
  else if 6 ≤ t && t ≤ 9 && pair then [.lane port true (4 * (t - 6) + m / 3) (m % 3 = 2)]
  else if t = 10 && m = 4 then [.perstN port] else []

/-- The cells of a system ball (R437, Table 21.5), JTAG and REFCLK_MAIN left out (R448). -/
def systemCells (r c : Nat) : List ScanCell :=
  let side := if c ≤ 80 then 0 else 1
  let m := ballM r c (if c ≤ 80 then 64 else 112)
  match r, side with
  | 49, _ => [.wpN (8 * side + m)]
  | 56, 0 => if [3, 4, 6, 7].contains m then [.system r side m] else []
  | 56, _ => if m ≤ 5 then [.spi m] else []
  | 58, 0 => if m ≤ 1 then [.system r side m] else []
  | 58, _ => if [2, 3, 4].contains m then [.system r side m] else []
  | _, _ => []

/-- The cells of the ball at row `r` and half-step column `c`, none for a ball that is not scannable. -/
def ballCells (r c : Nat) : List ScanCell :=
  if (r + c) % 2 ≠ 0 then []
  else if c ≤ 64 || 129 ≤ c then denCells r c
  else if r ≤ 12 || 85 ≤ r then portCells r c
  else if 49 ≤ r && r ≤ 64 && (c ≤ 80 || 113 ≤ c) then systemCells r c
  else []

/-- The boundary register, first cell nearest TDI: the balls in ascending row and then column (R448). -/
def boundaryCells : List ScanCell :=
  .systemControl :: (List.range 96).flatMap fun r => (List.range 192).flatMap fun c => ballCells (r + 1) (c + 1)

/-! Instructions and the data registers that they select (R448). -/

/-- Whether an instruction selects the boundary register: EXTEST, SAMPLE/PRELOAD, EXTEST_PULSE, EXTEST_TRAIN. -/
def tapScans (ir : Nat) : Bool := [0x00, 0x02, 0x08, 0x09].contains ir

/-- Whether an instruction drives the balls from the boundary register: EXTEST, CLAMP, EXTEST_PULSE, EXTEST_TRAIN. -/
def tapDrives (ir : Nat) : Bool := [0x00, 0x06, 0x08, 0x09].contains ir

/-- Whether an instruction takes the balls from the device: those that drive, and HIGHZ. -/
def tapTest (ir : Nat) : Bool := tapDrives ir || ir = 0x07

/-- IDCODE: version 1, part number 0x8840, manufacturer 0x153, and the one of bit 0. -/
def tapIdcode : Nat := 0x188402A7

/-- Number as bits, most significant first: the order from TDI to TDO of a register that shifts its bit 0 out first. -/
def tapBits (w n : Nat) : List Bool := (List.range w).map fun k => n.testBit (w - 1 - k)

/-- What an instruction's data register captures: the levels that the cells sense, the IDCODE, or the zero of the bypass
register. -/
def tapCapture (ir : Nat) (pins : List Bool) : List Bool :=
  if tapScans ir then (List.range 4900).map fun k => pins.getD k false
  else if ir = 0x01 then tapBits 32 tapIdcode
  else [false]

/-- One shift of a data register: TDI enters the first cell, and the last one leaves on TDO. -/
def tapShift (l : List Bool) (tdi : Bool) : List Bool := tdi :: l.dropLast

/-- What the boundary register drives under an instruction; at protection levels 1 and 2, the SPI cells capture only
(R351, R448). -/
def scanDrive (s : State) (ir : Nat) (bound : List Bool) : List (Option Bool) :=
  if !tapDrives ir then []
  else (List.range 4900).zip boundaryCells |>.map fun x => match x.2 with
    | .spi _ => if s.get SYS_PROT_LEVEL = 0 then some (bound.getD x.1 false) else none
    | _ => some (bound.getD x.1 false)

/-- The next state of the TAP controller (IEEE 1149.1). -/
def tapNext (t : TapState) (tms : Bool) : TapState :=
  match t with
  | .reset => if tms then .reset else .idle
  | .idle => if tms then .selectDr else .idle
  | .selectDr => if tms then .selectIr else .captureDr
  | .captureDr => if tms then .exit1Dr else .shiftDr
  | .shiftDr => if tms then .exit1Dr else .shiftDr
  | .exit1Dr => if tms then .updateDr else .pauseDr
  | .pauseDr => if tms then .exit2Dr else .pauseDr
  | .exit2Dr => if tms then .updateDr else .shiftDr
  | .updateDr => if tms then .selectDr else .idle
  | .selectIr => if tms then .reset else .captureIr
  | .captureIr => if tms then .exit1Ir else .shiftIr
  | .shiftIr => if tms then .exit1Ir else .shiftIr
  | .exit1Ir => if tms then .updateIr else .pauseIr
  | .pauseIr => if tms then .exit2Ir else .pauseIr
  | .exit2Ir => if tms then .updateIr else .shiftIr
  | .updateIr => if tms then .selectDr else .idle

/-- A new instruction or a new update latch: the balls follow where the instruction tests, or cease to (R448). -/
def tapApply (s : State) (ir : Nat) (bound : List Bool) : State :=
  let t : TapSt := { s.tap with ir := ir, bound := bound }
  let drive := scanDrive s ir bound
  let s := if tapTest ir || tapTest s.tap.ir then s.emit (.scan ir drive) else s
  { s with tap := t }

/-- TDO, high-impedance outside Shift-DR and Shift-IR. -/
def setTdo (s : State) (v : Option Bool) : State :=
  if s.tap.tdo = v then s else { s.emit (.pin .tdo v) with tap := { s.tap with tdo := v } }

/-- What the state left at a rising edge does: capture or shift. The capture of the instruction register loads the bits 01
of IEEE 1149.1 below six free bits. -/
def tapEdge (s : State) (tdi : Bool) (pins : List Bool) : State :=
  match s.tap.st with
  | .captureDr => { s with tap := { s.tap with drShift := tapCapture s.tap.ir pins } }
  | .shiftDr => { s with tap := { s.tap with drShift := tapShift s.tap.drShift tdi } }
  | .captureIr =>
    let (v, s) := s.fresh
    { s with tap := { s.tap with irShift := v % 64 * 4 + 1 } }
  | .shiftIr => { s with tap := { s.tap with irShift := s.tap.irShift / 2 + if tdi then 0x80 else 0 } }
  | _ => s

/-- What the state entered does at the falling edge that follows: an update, Test-Logic-Reset's choice of IDCODE, TDO. -/
def tapEnter (s : State) : State :=
  match s.tap.st with
  | .updateIr => setTdo (tapApply s s.tap.irShift s.tap.bound) none
  | .updateDr => setTdo (if tapScans s.tap.ir then tapApply s s.tap.ir s.tap.drShift else s) none
  | .reset => setTdo (tapApply s 0x01 s.tap.bound) none
  | .shiftDr => setTdo s (some (s.tap.drShift.getLastD false))
  | .shiftIr => setTdo s (some (s.tap.irShift.testBit 0))
  | _ => setTdo s none

/-- TCK_RISING_EDGE (R448): TMS and TDI are sampled, and the falling edge that follows completes the cycle. -/
def execTckRisingEdge (tms tdi : Bool) (pins : List Bool) (s : State) : Host.Outcome State Fault Refusal :=
  let t := tapEdge s tdi pins
  .next (confine .tap s (tapEnter { t with tap := { t.tap with st := tapNext s.tap.st tms } }))

/-- TRST_N_ASSERT (R448). -/
def execTrstNAssert (s : State) : Host.Outcome State Fault Refusal :=
  .next (confine .tap s (tapEnter { s with tap := { s.tap with st := .reset } }))

end Sys2Proof.Machine
end

