-- ==== Sys2Proof/Machine/UdmCmd.lean ====
section
/-! DEFINITION. The transfers of the utility DMA (R307 to R312, R314). -/

namespace Sys2Proof.Machine

/-! The transfer of one descriptor. -/

/-- A descriptor of Table 13.3. -/
structure UdmDesc where
  src : Nat
  dst : Nat
  len : Nat
  srcW : Nat
  dstW : Nat
  srcFix : Bool
  dstFix : Bool
  deriving DecidableEq, Repr

/-- A descriptor read from its 32 B. -/
def udmDesc (b : List Byte) : UdmDesc :=
  ⟨leAt b 0 6, leAt b 8 6, leAt b 16 3, bits (leAt b 20 1) 0 3, bits (leAt b 20 1) 3 3, bits (leAt b 20 1) 6 1 = 1, bits (leAt b 20 1) 7 1 = 1⟩

/-- Beat bytes of a width code. -/
def beatBytes (w : Nat) : Nat := 2 ^ w

/-- Whether a descriptor passes the checks of R308. -/
def udmDescOk (d : UdmDesc) : Bool :=
  decide (d.srcW < 7) && decide (d.dstW < 7) && d.len ≠ 0 && d.src % beatBytes d.srcW = 0 && d.dst % beatBytes d.dstW = 0
    && d.len % max (beatBytes d.srcW) (beatBytes d.dstW) = 0


/-- A beat written by UDM: the state after it, or none for a bus error (R309, R318). -/
def udmStore (s : State) (a : Nat) (l : List Byte) : Option State :=
  if isMem a l.length then some (storeBytes s a l)
  else if isWindow a then
    if l.length = 4 ∨ l.length = 8 then some (regWrite s udmMaster a l.length (leNat l)) else none
  else if isCluster a then
    match tcmAt a with
    | some (c, true) => if coreState s c ≠ 2 then some (writeBytes s a l) else none
    | some (_, false) => some (writeBytes s a l)
    | none => some s
  else none

/-- A transfer under way: the state, what the NOR still answers, the bytes of source and destination done, destination beats
performed, and how it ended: 1 running or done, 2 bus error, 4 data error, with the faulting address, 0 by a hold that a beat
began. -/
structure UdmRun where
  s : State
  nor : List Byte
  read : Nat
  wrote : Nat
  status : Nat
  addr : Nat
  deriving DecidableEq, Repr

/-- Address of a beat at byte offset `o`. -/
def beatAddr (base o : Nat) (fix : Bool) : Nat := if fix then base else base + o

/-- `n` source beats read: their bytes, in order. -/
def udmRead (d : UdmDesc) (n : Nat) (x : UdmRun) : List Byte × UdmRun :=
  match n with
  | 0 => ([], x)
  | m + 1 =>
    if x.status ≠ 1 then ([], x)
    else
      let w := beatBytes d.srcW
      let a := beatAddr d.src x.read d.srcFix
      let (r, nor, s) := busLoad x.s a w x.nor
      match r with
      | .data l =>
        let (rest, y) := udmRead d m { x with s := s, nor := nor, read := x.read + w }
        (l ++ rest, y)
      | .busErr => ([], { x with s := s, nor := nor, status := 2, addr := a })
      | .dataErr => ([], { x with s := s, nor := nor, status := 4, addr := a })

/-- `n` destination beats written from `l`; beats from byte `lim` on are not performed. -/
def udmWrite (d : UdmDesc) (lim : Nat) (n : Nat) (l : List Byte) (x : UdmRun) : UdmRun :=
  match n with
  | 0 => x
  | m + 1 =>
    if x.status ≠ 1 then x
    else
      let w := beatBytes d.dstW
      let a := beatAddr d.dst x.wrote d.dstFix
      if lim ≤ x.wrote then udmWrite d lim m (l.drop w) { x with wrote := x.wrote + w }
      else
        match udmStore x.s a (l.take w) with
        | some s => udmWrite d lim m (l.drop w) { x with s := s, wrote := x.wrote + w, status := b2n s.live }
        | none => { x with status := 2, addr := a }

/-- `n` pieces of the larger beat: each is read whole, then written (R308). -/
def udmPieces (d : UdmDesc) (lim n : Nat) (x : UdmRun) : UdmRun :=
  match n with
  | 0 => x
  | m + 1 =>
    if x.status ≠ 1 then x
    else
      let b := max (beatBytes d.srcW) (beatBytes d.dstW)
      let (l, y) := udmRead d (b / beatBytes d.srcW) x
      udmPieces d lim m (udmWrite d lim (b / beatBytes d.dstW) l y)

/-- A whole transfer, of which destination bytes from `lim` on are not performed. -/
def udmTransfer (s : State) (nor : List Byte) (d : UdmDesc) (lim : Nat) : UdmRun :=
  udmPieces d lim (d.len / max (beatBytes d.srcW) (beatBytes d.dstW)) ⟨s, nor, 0, 0, 1, 0⟩

/-- A transfer as UDM performs it. At a bus error, how many of the beats before the faulting one were written is free (R309,
log entry 6). -/
def udmMove (s : State) (nor : List Byte) (d : UdmDesc) : UdmRun :=
  let x := udmTransfer s nor d d.len
  if x.status ≠ 2 then x
  else
    let (v, s) := s.fresh
    let w := beatBytes d.dstW
    let k := v % (x.wrote / w + 1) * w
    let y := udmTransfer s nor d k
    { y with status := 2, addr := x.addr, wrote := k }

/-! The end of a descriptor. -/

/-- A ring mark raised; it sets OVERRUN where it is still 1 (R312). -/
def udmMark (s : State) (c : Nat) (f : Fld) : State :=
  (if s.on f c then s.set UDM_CHc_STATUS_OVERRUN 1 c else s).set f 1 c

/-- HALF and FULL of the descriptor at `i` (R312). -/
def udmMarks (s : State) (c i : Nat) : State :=
  let n := s.get UDM_CHc_RING_CFG_COUNT c
  let s := if 2 ≤ n ∧ i = n / 2 - 1 then udmMark s c UDM_CHc_STATUS_HALF else s
  if i = n - 1 then udmMark s c UDM_CHc_STATUS_FULL else s

/-- The boundary after the descriptor at `i`: the ring ends or wraps, and STOP is applied (R307, R311). -/
def udmBoundary (s : State) (c i : Nat) : State :=
  let last := i = s.get UDM_CHc_RING_CFG_COUNT c - 1
  let s := s.set UDM_CHc_INDEX_INDEX (if last then 0 else i + 1) c
  let ended := last ∧ !s.on UDM_CHc_CTL_CIRC c
  let s := if ended then setUdmState (s.set UDM_CHc_STATUS_DONE 1 c) c 0 else s
  if s.on UDM_CHc_CTL_STOP c then udmRelease (udmStopped s c) (c / 16)
  else if ended then udmRelease s (c / 16)
  else s

/-- A descriptor completed with a status (R307 to R309). -/
def udmComplete (s : State) (c i status : Nat) : State :=
  let s := s.bump UDM_CNTn_COUNT 0
  let s := if status = 1 then s else (s.set UDM_CHc_STATUS_BAD 1 c).bump UDM_CNTn_COUNT 2
  udmBoundary (udmMarks s c i) c i

/-- A channel halted; a STOP that waits is cleared (R310, R311). -/
def udmHalt (s : State) (c addr : Nat) : State :=
  let s := (s.set UDM_CHc_ERR_ADDR_ADDR addr c).bump UDM_CNTn_COUNT 3
  let s := setUdmState ((s.set UDM_CHc_STATUS_HALTED 1 c).set UDM_CHc_CTL_STOP 0 c) c 3
  udmRelease s (c / 16)

/-- The STATUS byte of a descriptor at `a` written. -/
def udmStatus (s : State) (a v : Nat) : State := storeBytes s (a + 21) (natLe v 1)

/-- What follows a transfer by how it ended; nothing does where the blocks went into reset. -/
def udmEnd (x : UdmRun) (c i a : Nat) : State :=
  if !x.s.live then x.s else
  let s := x.s.bump UDM_CNTn_COUNT 1 x.wrote
  let s := udmStatus s a x.status
  if x.status = 1 then udmComplete s c i 1
  else if x.status = 2 then udmComplete (s.set UDM_CHc_ERR_ADDR_ADDR x.addr c) c i 2
  else
    let s := match tcmAt x.addr with
      | some (n, _) => coreEvent s n 6 x.addr
      | none => s
    udmHalt s c x.addr

/-- The descriptor at INDEX of a running channel. -/
def udmDescriptor (s : State) (c : Nat) (nor : List Byte) : State :=
  let i := s.get UDM_CHc_INDEX_INDEX c
  let a := s.get UDM_CHc_RING_BASE_BASE c * 32 + 32 * i
  if !isMem a 32 then udmHalt s c a
  else
    let t := noteLines s a 32
    match readBytes s a 32, t with
    | none, s => udmHalt s c a
    | some b, s =>
      if udmDescOk (udmDesc b) then udmEnd (udmMove s nor (udmDesc b)) c i a
      else udmComplete (udmStatus s a 3) c i 3

/-- UDM_DESCRIPTOR: the next descriptor of a running channel. `norData` is what the NOR answers where the source is its
window. -/
def execUdmDescriptor (c : Nat) (norData : List Byte) (s : State) : Host.Outcome State Fault Refusal := act .registers s fun s =>
  if 128 ≤ c ∨ !s.on UDM_CTRL_ENABLE ∨ udmState s c ≠ 2 then s
  else
    let t := udmDescriptor s c norData
    if t.live then updUdmPend t c else t

end Sys2Proof.Machine
end

