-- ==== Sys2Proof/Machine/Dispatch.lean ====
section
/-! DEFINITION. One arm for every command of the opcode table, each a direct call of that command's meaning. -/

namespace Sys2Proof.Machine

def exec (i : Instr) (s : State) : Host.Outcome State Fault Refusal :=
  match i with
  | .registerWrite t value => Sys2Proof.Machine.execRegisterWrite t value s
  | .clockLoss => Sys2Proof.Machine.execClockLoss s
  | .holdoverEnd => Sys2Proof.Machine.execHoldoverEnd s
  | .refclkPLoss port => Sys2Proof.Machine.execRefclkPLoss port s
  | .railOutOfRange => Sys2Proof.Machine.execRailOutOfRange s
  | .start b => Sys2Proof.Machine.execStart b s
  | .warmStart b => Sys2Proof.Machine.execWarmStart b s
  | .fltRestart => Sys2Proof.Machine.execFltRestart s
  | .autoWarmStart => Sys2Proof.Machine.execAutoWarmStart s
  | .settOnlyClear => Sys2Proof.Machine.execSettOnlyClear s
  | .advanceSecver progOk => Sys2Proof.Machine.execAdvanceSecver progOk s
  | .revokeKey progOk => Sys2Proof.Machine.execRevokeKey progOk s
  | .burnRemap progOk => Sys2Proof.Machine.execBurnRemap progOk s
  | .spiCmd norData => Sys2Proof.Machine.execSpiCmd norData s
  | .spiStatusPoll bank status => Sys2Proof.Machine.execSpiStatusPoll bank status s
  | .norWindowRead master addr size inHandler norData => Sys2Proof.Machine.execNorWindowRead master addr size inHandler norData s
  | .hifEnable => Sys2Proof.Machine.execHifEnable s
  | .linkUp link p => Sys2Proof.Machine.execLinkUp link p s
  | .perstNAssert port => Sys2Proof.Machine.execPerstNAssert port s
  | .perstNDeassert port => Sys2Proof.Machine.execPerstNDeassert port s
  | .hotReset link => Sys2Proof.Machine.execHotReset link s
  | .linkDown link => Sys2Proof.Machine.execLinkDown link s
  | .busMasterEnableClear f => Sys2Proof.Machine.execBusMasterEnableClear f s
  | .busMasterEnableSet f => Sys2Proof.Machine.execBusMasterEnableSet f s
  | .initiateFunctionLevelReset f => Sys2Proof.Machine.execInitiateFunctionLevelReset f s
  | .functionLevelResetDone f => Sys2Proof.Machine.execFunctionLevelResetDone f s
  | .vfEnableSet link => Sys2Proof.Machine.execVfEnableSet link s
  | .vfEnableClear link => Sys2Proof.Machine.execVfEnableClear link s
  | .d3hotEntry f => Sys2Proof.Machine.execD3hotEntry f s
  | .d0Return f => Sys2Proof.Machine.execD0Return f s
  | .msixUnmask f vector => Sys2Proof.Machine.execMsixUnmask f vector s
  | .completionReceived c => Sys2Proof.Machine.execCompletionReceived c s
  | .completionTimeout link tag => Sys2Proof.Machine.execCompletionTimeout link tag s
  | .quarantineEnd link tag => Sys2Proof.Machine.execQuarantineEnd link tag s
  | .ccEnable f cc => Sys2Proof.Machine.execCcEnable f cc s
  | .controllerReset f => Sys2Proof.Machine.execControllerReset f s
  | .normalShutdown f => Sys2Proof.Machine.execNormalShutdown f s
  | .abruptShutdown f => Sys2Proof.Machine.execAbruptShutdown f s
  | .shutdownComplete f => Sys2Proof.Machine.execShutdownComplete f s
  | .sqTailDoorbell f q v => Sys2Proof.Machine.execSqTailDoorbell f q v s
  | .cqHeadDoorbell f q v => Sys2Proof.Machine.execCqHeadDoorbell f q v s
  | .submissionFetch => Sys2Proof.Machine.execSubmissionFetch s
  | .submissionEntriesArrive link tag entries => Sys2Proof.Machine.execSubmissionEntriesArrive link tag entries s
  | .lockGrant ctx recB => Sys2Proof.Machine.execLockGrant ctx recB s
  | .commit ctx => Sys2Proof.Machine.execCommit ctx s
  | .completionPost f cq => Sys2Proof.Machine.execCompletionPost f cq s
  | .interruptCoalescingTimer f cq => Sys2Proof.Machine.execInterruptCoalescingTimer f cq s
  | .firmwareRingTake head => Sys2Proof.Machine.execFirmwareRingTake head s
  | .fwcplGo => Sys2Proof.Machine.execFwcplGo s
  | .acquire slot => Sys2Proof.Machine.execAcquire slot s
  | .release slot => Sys2Proof.Machine.execRelease slot s
  | .cancel slot => Sys2Proof.Machine.execCancel slot s
  | .cmdEnable => Sys2Proof.Machine.execCmdEnable s
  | .pause => Sys2Proof.Machine.execPause s
  | .drained => Sys2Proof.Machine.execDrained s
  | .resume => Sys2Proof.Machine.execResume s
  | .read ctx => Sys2Proof.Machine.execRead ctx s
  | .write ctx => Sys2Proof.Machine.execWrite ctx s
  | .writeAdmission => Sys2Proof.Machine.execWriteAdmission s
  | .partialSectorMerge ctx sector => Sys2Proof.Machine.execPartialSectorMerge ctx sector s
  | .stagingRelease sector => Sys2Proof.Machine.execStagingRelease sector s
  | .flush ctx => Sys2Proof.Machine.execFlush ctx s
  | .compare ctx => Sys2Proof.Machine.execCompare ctx s
  | .verify ctx => Sys2Proof.Machine.execVerify ctx s
  | .writeZeroes ctx => Sys2Proof.Machine.execWriteZeroes ctx s
  | .writeUncorrectable ctx => Sys2Proof.Machine.execWriteUncorrectable ctx s
  | .datasetManagement ctx ranges => Sys2Proof.Machine.execDatasetManagement ctx ranges s
  | .copy ctx descs => Sys2Proof.Machine.execCopy ctx descs s
  | .ioManagementSend ctx phs => Sys2Proof.Machine.execIoManagementSend ctx phs s
  | .ioManagementReceive ctx => Sys2Proof.Machine.execIoManagementReceive ctx s
  | .fence ctx => Sys2Proof.Machine.execFence ctx s
  | .fenceCommit ctx => Sys2Proof.Machine.execFenceCommit ctx s
  | .burrowAdvisePrefetch ctx => Sys2Proof.Machine.execBurrowAdvisePrefetch ctx s
  | .burrowAdvisePin ctx => Sys2Proof.Machine.execBurrowAdvisePin ctx s
  | .burrowAdviseUnpin ctx => Sys2Proof.Machine.execBurrowAdviseUnpin ctx s
  | .secureDeallocate ctx ranges => Sys2Proof.Machine.execSecureDeallocate ctx ranges s
  | .compress ctx src verifyOk => Sys2Proof.Machine.execCompress ctx src verifyOk s
  | .decompress ctx src => Sys2Proof.Machine.execDecompress ctx src s
  | .createIoCompletionQueue ctx => Sys2Proof.Machine.execCreateIoCompletionQueue ctx s
  | .createIoSubmissionQueue ctx => Sys2Proof.Machine.execCreateIoSubmissionQueue ctx s
  | .deleteIoCompletionQueue ctx => Sys2Proof.Machine.execDeleteIoCompletionQueue ctx s
  | .deleteIoSubmissionQueue ctx => Sys2Proof.Machine.execDeleteIoSubmissionQueue ctx s
  | .identify ctx => Sys2Proof.Machine.execIdentify ctx s
  | .getLogPage ctx => Sys2Proof.Machine.execGetLogPage ctx s
  | .abort ctx => Sys2Proof.Machine.execAbort ctx s
  | .setFeatures ctx data => Sys2Proof.Machine.execSetFeatures ctx data s
  | .setFeaturesNumberOfQueues ctx => Sys2Proof.Machine.execSetFeaturesNumberOfQueues ctx s
  | .setFeaturesPowerManagement ctx => Sys2Proof.Machine.execSetFeaturesPowerManagement ctx s
  | .setFeaturesVolatileWriteCache ctx => Sys2Proof.Machine.execSetFeaturesVolatileWriteCache ctx s
  | .setFeaturesTemperatureThreshold ctx => Sys2Proof.Machine.execSetFeaturesTemperatureThreshold ctx s
  | .setFeaturesHctm ctx => Sys2Proof.Machine.execSetFeaturesHctm ctx s
  | .getFeatures ctx => Sys2Proof.Machine.execGetFeatures ctx s
  | .asynchronousEventRequest ctx => Sys2Proof.Machine.execAsynchronousEventRequest ctx s
  | .asyncEventPost f => Sys2Proof.Machine.execAsyncEventPost f s
  | .namespaceCreate ctx d => Sys2Proof.Machine.execNamespaceCreate ctx d s
  | .namespaceDelete ctx => Sys2Proof.Machine.execNamespaceDelete ctx s
  | .namespaceAttach ctx ctrls => Sys2Proof.Machine.execNamespaceAttach ctx ctrls s
  | .namespaceDetach ctx ctrls => Sys2Proof.Machine.execNamespaceDetach ctx ctrls s
  | .firmwareImageDownload ctx data => Sys2Proof.Machine.execFirmwareImageDownload ctx data s
  | .firmwareCommitReplace ctx => Sys2Proof.Machine.execFirmwareCommitReplace ctx s
  | .firmwareCommitReplaceActivateReset ctx => Sys2Proof.Machine.execFirmwareCommitReplaceActivateReset ctx s
  | .firmwareCommitActivateReset ctx => Sys2Proof.Machine.execFirmwareCommitActivateReset ctx s
  | .firmwareCommitActivateNow ctx => Sys2Proof.Machine.execFirmwareCommitActivateNow ctx s
  | .directiveSend ctx data => Sys2Proof.Machine.execDirectiveSend ctx data s
  | .directiveReceive ctx => Sys2Proof.Machine.execDirectiveReceive ctx s
  | .nvmeMiSend ctx m => Sys2Proof.Machine.execNvmeMiSend ctx m s
  | .nvmeMiReceive ctx => Sys2Proof.Machine.execNvmeMiReceive ctx s
  | .formatNvm ctx => Sys2Proof.Machine.execFormatNvm ctx s
  | .formatNvmBlockErase ctx => Sys2Proof.Machine.execFormatNvmBlockErase ctx s
  | .formatNvmCryptoErase ctx => Sys2Proof.Machine.execFormatNvmCryptoErase ctx s
  | .securitySend ctx data => Sys2Proof.Machine.execSecuritySend ctx data s
  | .securityReceive ctx => Sys2Proof.Machine.execSecurityReceive ctx s
  | .opalLockStateChange r => Sys2Proof.Machine.execOpalLockStateChange r s
  | .opalGenkey range => Sys2Proof.Machine.execOpalGenkey range s
  | .opalRevert psid => Sys2Proof.Machine.execOpalRevert psid s
  | .sanitizeBlockErase ctx => Sys2Proof.Machine.execSanitizeBlockErase ctx s
  | .sanitizeCryptoErase ctx => Sys2Proof.Machine.execSanitizeCryptoErase ctx s
  | .sanitizeExitFailureMode ctx => Sys2Proof.Machine.execSanitizeExitFailureMode ctx s
  | .sanitizeDestructivePhases => Sys2Proof.Machine.execSanitizeDestructivePhases s
  | .sanitizeEntropyFailure => Sys2Proof.Machine.execSanitizeEntropyFailure s
  | .confirmFirmware ctx => Sys2Proof.Machine.execConfirmFirmware ctx s
  | .autoConfirmation => Sys2Proof.Machine.execAutoConfirmation s
  | .serviceDumpCapture ctx => Sys2Proof.Machine.execServiceDumpCapture ctx s
  | .serviceDumpRead ctx => Sys2Proof.Machine.execServiceDumpRead ctx s
  | .serviceDumpRelease ctx => Sys2Proof.Machine.execServiceDumpRelease ctx s
  | .requalifyDie ctx => Sys2Proof.Machine.execRequalifyDie ctx s
  | .readOnlyEntry => Sys2Proof.Machine.execReadOnlyEntry s
  | .spareBelowThreshold => Sys2Proof.Machine.execSpareBelowThreshold s
  | .telemetryRefresh => Sys2Proof.Machine.execTelemetryRefresh s
  | .healthCounterSave => Sys2Proof.Machine.execHealthCounterSave s
  | .mapEnable => Sys2Proof.Machine.execMapEnable s
  | .walkerLookup ns sector => Sys2Proof.Machine.execWalkerLookup ns sector s
  | .rowRetire stripe row => Sys2Proof.Machine.execRowRetire stripe row s
  | .mapRerunPop => Sys2Proof.Machine.execMapRerunPop s
  | .runRead slot => Sys2Proof.Machine.execRunRead slot s
  | .runCas slot => Sys2Proof.Machine.execRunCas slot s
  | .excCas slot => Sys2Proof.Machine.execExcCas slot s
  | .excDealloc slot => Sys2Proof.Machine.execExcDealloc slot s
  | .excMarkLost slot => Sys2Proof.Machine.execExcMarkLost slot s
  | .runClear slot => Sys2Proof.Machine.execRunClear slot s
  | .rerunOpen slot => Sys2Proof.Machine.execRerunOpen slot s
  | .rerunCommit slot => Sys2Proof.Machine.execRerunCommit slot s
  | .stripeHdr slot => Sys2Proof.Machine.execStripeHdr slot s
  | .stripeMember slot => Sys2Proof.Machine.execStripeMember slot s
  | .lookup slot => Sys2Proof.Machine.execLookup slot s
  | .jnlAppend slot => Sys2Proof.Machine.execJnlAppend slot s
  | .jnlSync slot => Sys2Proof.Machine.execJnlSync slot s
  | .journalFlushTimer => Sys2Proof.Machine.execJournalFlushTimer s
  | .mapJnlSyncSync => Sys2Proof.Machine.execMapJnlSyncSync s
  | .mapJnlSyncShutdown => Sys2Proof.Machine.execMapJnlSyncShutdown s
  | .journalPageProgramDone seq copyB media pass => Sys2Proof.Machine.execJournalPageProgramDone seq copyB media pass s
  | .mapCkptBeginWrite seq => Sys2Proof.Machine.execMapCkptBeginWrite seq s
  | .mapReplayGo => Sys2Proof.Machine.execMapReplayGo s
  | .mapReplaySweep => Sys2Proof.Machine.execMapReplaySweep s
  | .mapNsWrite n value => Sys2Proof.Machine.execMapNsWrite n value s
  | .fchEnable => Sys2Proof.Machine.execFchEnable s
  | .denEnable den => Sys2Proof.Machine.execDenEnable den s
  | .trainingStepComplete ch o => Sys2Proof.Machine.execTrainingStepComplete ch o s
  | .channelFence ch => Sys2Proof.Machine.execChannelFence ch s
  | .contCheck ch fault => Sys2Proof.Machine.execContCheck ch fault s
  | .retrain ch => Sys2Proof.Machine.execRetrain ch s
  | .scheduledRetrain ch => Sys2Proof.Machine.execScheduledRetrain ch s
  | .dqsTimeout die => Sys2Proof.Machine.execDqsTimeout die s
  | .dieFence die => Sys2Proof.Machine.execDieFence die s
  | .retire die => Sys2Proof.Machine.execRetire die s
  | .requalify die => Sys2Proof.Machine.execRequalify die s
  | .requalifyDone die fault id pass => Sys2Proof.Machine.execRequalifyDone die fault id pass s
  | .activate die => Sys2Proof.Machine.execActivate die s
  | .dieStateRestore die state => Sys2Proof.Machine.execDieStateRestore die state s
  | .ringEnable den => Sys2Proof.Machine.execRingEnable den s
  | .ringTailWrite den tail => Sys2Proof.Machine.execRingTailWrite den tail s
  | .mediaOperationIssue die => Sys2Proof.Machine.execMediaOperationIssue die s
  | .statusPoll die status => Sys2Proof.Machine.execStatusPoll die status s
  | .pollTimeout die => Sys2Proof.Machine.execPollTimeout die s
  | .mediaOperationComplete die r => Sys2Proof.Machine.execMediaOperationComplete die r s
  | .mediaSuspend die => Sys2Proof.Machine.execMediaSuspend die s
  | .mediaResume die => Sys2Proof.Machine.execMediaResume die s
  | .agingPromotion die op => Sys2Proof.Machine.execAgingPromotion die op s
  | .cdcEnable => Sys2Proof.Machine.execCdcEnable s
  | .reconstruction id => Sys2Proof.Machine.execReconstruction id s
  | .readAroundRecheck => Sys2Proof.Machine.execReadAroundRecheck s
  | .raBudgetTick => Sys2Proof.Machine.execRaBudgetTick s
  | .rowEncode stripe row => Sys2Proof.Machine.execRowEncode stripe row s
  | .rebuildGo slot => Sys2Proof.Machine.execRebuildGo slot s
  | .rebuildRow slot => Sys2Proof.Machine.execRebuildRow slot s
  | .rebuildAbort slot => Sys2Proof.Machine.execRebuildAbort slot s
  | .packedRowCopy slot => Sys2Proof.Machine.execPackedRowCopy slot s
  | .runRowCopy slot => Sys2Proof.Machine.execRunRowCopy slot s
  | .markScan slot marks => Sys2Proof.Machine.execMarkScan slot marks s
  | .copySlotAbort slot => Sys2Proof.Machine.execCopySlotAbort slot s
  | .trkEnable => Sys2Proof.Machine.execTrkEnable s
  | .thEnable => Sys2Proof.Machine.execThEnable s
  | .thermalCellEnable n => Sys2Proof.Machine.execThermalCellEnable n s
  | .frameStart => Sys2Proof.Machine.execFrameStart s
  | .swap => Sys2Proof.Machine.execSwap s
  | .cellRead slot => Sys2Proof.Machine.execCellRead slot s
  | .cellInit slot => Sys2Proof.Machine.execCellInit slot s
  | .cellClear slot => Sys2Proof.Machine.execCellClear slot s
  | .cellDisable slot => Sys2Proof.Machine.execCellDisable slot s
  | .ageSet slot => Sys2Proof.Machine.execAgeSet slot s
  | .ageGet slot => Sys2Proof.Machine.execAgeGet slot s
  | .dieDisable slot => Sys2Proof.Machine.execDieDisable slot s
  | .garbageCollection stripe => Sys2Proof.Machine.execGarbageCollection stripe s
  | .fold stripe => Sys2Proof.Machine.execFold stripe s
  | .scrubPass => Sys2Proof.Machine.execScrubPass s
  | .keygenMigration key => Sys2Proof.Machine.execKeygenMigration key s
  | .secureDeallocationPhase2 id => Sys2Proof.Machine.execSecureDeallocationPhase2 id s
  | .fdpPadTimer handle => Sys2Proof.Machine.execFdpPadTimer handle s
  | .hbmEnable => Sys2Proof.Machine.execHbmEnable s
  | .holdupMeasurement mj => Sys2Proof.Machine.execHoldupMeasurement mj s
  | .hbmWindowEnable w => Sys2Proof.Machine.execHbmWindowEnable w s
  | .pseudoChannelTimeout p => Sys2Proof.Machine.execPseudoChannelTimeout p s
  | .burEnable => Sys2Proof.Machine.execBurEnable s
  | .sketchAging => Sys2Proof.Machine.execSketchAging s
  | .burrowFillComplete frame => Sys2Proof.Machine.execBurrowFillComplete frame s
  | .burrowReadDone frame => Sys2Proof.Machine.execBurrowReadDone frame s
  | .prefetch slot => Sys2Proof.Machine.execPrefetch slot s
  | .pin slot => Sys2Proof.Machine.execPin slot s
  | .unpin slot => Sys2Proof.Machine.execUnpin slot s
  | .cool slot => Sys2Proof.Machine.execCool slot s
  | .boost slot => Sys2Proof.Machine.execBoost slot s
  | .inval slot => Sys2Proof.Machine.execInval slot s
  | .estimate slot => Sys2Proof.Machine.execEstimate slot s
  | .bpmEnable => Sys2Proof.Machine.execBpmEnable s
  | .bufferRequest size requester => Sys2Proof.Machine.execBufferRequest size requester s
  | .bpmPoolAllocRead pool => Sys2Proof.Machine.execBpmPoolAllocRead pool s
  | .bpmFree addr => Sys2Proof.Machine.execBpmFree addr s
  | .bpmRebuild => Sys2Proof.Machine.execBpmRebuild s
  | .freeListRebuildDone pool => Sys2Proof.Machine.execFreeListRebuildDone pool s
  | .minFreeRead pool => Sys2Proof.Machine.execMinFreeRead pool s
  | .correctedWordWriteback => Sys2Proof.Machine.execCorrectedWordWriteback s
  | .mergeEntryWriteback sram => Sys2Proof.Machine.execMergeEntryWriteback sram s
  | .laneSweepDone group => Sys2Proof.Machine.execLaneSweepDone group s
  | .udmGo c => Sys2Proof.Machine.execUdmGo c s
  | .udmDescriptor c norData => Sys2Proof.Machine.execUdmDescriptor c norData s
  | .udmStop c => Sys2Proof.Machine.execUdmStop c s
  | .udmRingBaseWrite c value => Sys2Proof.Machine.execUdmRingBaseWrite c value s
  | .genKey reg => Sys2Proof.Machine.execGenKey reg s
  | .eraseKey reg => Sys2Proof.Machine.execEraseKey reg s
  | .retireOld reg => Sys2Proof.Machine.execRetireOld reg s
  | .exportKey reg => Sys2Proof.Machine.execExportKey reg s
  | .importKey reg => Sys2Proof.Machine.execImportKey reg s
  | .deriveKey reg => Sys2Proof.Machine.execDeriveKey reg s
  | .dkClear reg => Sys2Proof.Machine.execDkClear reg s
  | .changeoverInstall slot => Sys2Proof.Machine.execChangeoverInstall slot s
  | .sealJob job => Sys2Proof.Machine.execSealJob job s
  | .openJob job => Sys2Proof.Machine.execOpenJob job s
  | .entropyHealthFail test => Sys2Proof.Machine.execEntropyHealthFail test s
  | .entropyRecovery => Sys2Proof.Machine.execEntropyRecovery s
  | .drbgReseed => Sys2Proof.Machine.execDrbgReseed s
  | .compressJob slot => Sys2Proof.Machine.execCompressJob slot s
  | .decompressJob slot => Sys2Proof.Machine.execDecompressJob slot s
  | .cprJobStart engine => Sys2Proof.Machine.execCprJobStart engine s
  | .cprJobEnd engine verifyOk => Sys2Proof.Machine.execCprJobEnd engine verifyOk s
  | .loadableTableValid t => Sys2Proof.Machine.execLoadableTableValid t s
  | .messageWrite master c word => Sys2Proof.Machine.execMessageWrite master c word s
  | .messageAck master c rcode => Sys2Proof.Machine.execMessageAck master c rcode s
  | .mailboxTimeout c => Sys2Proof.Machine.execMailboxTimeout c s
  | .watchdogWarn core => Sys2Proof.Machine.execWatchdogWarn core s
  | .watchdogExpiry core => Sys2Proof.Machine.execWatchdogExpiry core s
  | .kick core => Sys2Proof.Machine.execKick core s
  | .coreFault core cause addr => Sys2Proof.Machine.execCoreFault core cause addr s
  | .coreImageLoaded core => Sys2Proof.Machine.execCoreImageLoaded core s
  | .coreRestart core => Sys2Proof.Machine.execCoreRestart core s
  | .coreRetire core => Sys2Proof.Machine.execCoreRetire core s
  | .coreHoldClear core => Sys2Proof.Machine.execCoreHoldClear core s
  | .powerSample mw => Sys2Proof.Machine.execPowerSample mw s
  | .sensorFrame readings => Sys2Proof.Machine.execSensorFrame readings s
  | .analogThermalTrip => Sys2Proof.Machine.execAnalogThermalTrip s
  | .pfailAssert => Sys2Proof.Machine.execPfailAssert s
  | .flushMark => Sys2Proof.Machine.execFlushMark s
  | .flushDone => Sys2Proof.Machine.execFlushDone s
  | .flushLimit => Sys2Proof.Machine.execFlushLimit s
  | .smbusPacket bytes => Sys2Proof.Machine.execSmbusPacket bytes s
  | .vdmMessage p => Sys2Proof.Machine.execVdmMessage p s
  | .nvmeMiMessage port => Sys2Proof.Machine.execNvmeMiMessage port s
  | .setEndpointId port => Sys2Proof.Machine.execSetEndpointId port s
  | .getEndpointId port => Sys2Proof.Machine.execGetEndpointId port s
  | .getMctpVersionSupport port => Sys2Proof.Machine.execGetMctpVersionSupport port s
  | .getMessageTypeSupport port => Sys2Proof.Machine.execGetMessageTypeSupport port s
  | .readNvmeMiDataStructure slot => Sys2Proof.Machine.execReadNvmeMiDataStructure slot s
  | .nvmSubsystemHealthStatusPoll slot => Sys2Proof.Machine.execNvmSubsystemHealthStatusPoll slot s
  | .controllerHealthStatusPoll slot => Sys2Proof.Machine.execControllerHealthStatusPoll slot s
  | .configurationGet slot => Sys2Proof.Machine.execConfigurationGet slot s
  | .configurationSet slot => Sys2Proof.Machine.execConfigurationSet slot s
  | .vpdRead slot => Sys2Proof.Machine.execVpdRead slot s
  | .vpdWrite slot => Sys2Proof.Machine.execVpdWrite slot s
  | .nvmeMiReset slot => Sys2Proof.Machine.execNvmeMiReset slot s
  | .tunnelledAdminCommand slot => Sys2Proof.Machine.execTunnelledAdminCommand slot s
  | .basicManagementRead start => Sys2Proof.Machine.execBasicManagementRead start s
  | .alertResponseAddressRead won => Sys2Proof.Machine.execAlertResponseAddressRead won s
  | .smbusClockLowTimeout => Sys2Proof.Machine.execSmbusClockLowTimeout s
  | .smbSwapDetect => Sys2Proof.Machine.execSmbSwapDetect s
  | .smbSwapResume => Sys2Proof.Machine.execSmbSwapResume s
  | .fwReadyWrite value => Sys2Proof.Machine.execFwReadyWrite value s
  | .fltEvent elem code data => Sys2Proof.Machine.execFltEvent elem code data s
  | .fltClear elem => Sys2Proof.Machine.execFltClear elem s
  | .fltAppend cause elem => Sys2Proof.Machine.execFltAppend cause elem s
  | .pwrElemTempMaxRead k => Sys2Proof.Machine.execPwrElemTempMaxRead k s
  | .tckRisingEdge tms tdi pins => Sys2Proof.Machine.execTckRisingEdge tms tdi pins s
  | .trstNAssert => Sys2Proof.Machine.execTrstNAssert s
  | .malformedTlp link err header => Sys2Proof.Machine.execMalformedTlp link err header s

end Sys2Proof.Machine
end

