-- ==== Sys2Proof/Machine/CfgSpace.lean ====
section
/-! DEFINITION. Configuration space as a host reads it: what Tables 8.3 to 8.6 report, beside the fields that a write sets (R193 to R197).
The capability numbers, and the places of fields within a capability, are the base specification's (PRESUMED, log entry 16). -/

namespace Sys2Proof.Machine

/-- A capability header of the first 256 bytes, and an extended one: number, version, offset of the next (R195). -/
def capHdr (id next : Nat) : Nat := id + next * 256
def extHdr (id ver next : Nat) : Nat := id + ver * 2 ^ 16 + next * 2 ^ 20

/-- The header of Table 8.4 without its BARs. -/
def hdrDword (s : State) (f off : Nat) : Nat :=
  if off = 0x00 then (if isPf s f then 0x88401EE9 else 0xFFFFFFFF)
  else if off = 0x04 then 2 ^ 20 + b2n (s.hif.inta.contains f) * 2 ^ 19
  else if off = 0x08 then 0x01080201
  else if off = 0x2C then s.sys.image.ssvid + s.sys.image.ssid * 2 ^ 16
  else if off = 0x34 then (if isPf s f then 0x40 else 0x50)
  else if off = 0x3C then (if isPf s f then 0x0100 else 0)
  else 0

/-- The memory BARs, 64-bit and non-prefetchable: their type bits (R197). -/
def barDword (off : Nat) : Nat := if off = 0x10 ∨ off = 0x18 ∨ off = 0x20 ∨ off = 0x1C4 ∨ off = 0x1CC ∨ off = 0x1D4 then 4 else 0

/-- The three capabilities of the first 256 bytes (Tables 8.5, 8.6): power management with No_Soft_Reset, MSI-X with its table and PBA
in BAR4, PCI Express. -/
def capDword (s : State) (f off : Nat) : Nat :=
  let l := linkOf s f
  if off = 0x40 then capHdr 0x01 0x50 + 3 * 2 ^ 16
  else if off = 0x44 then 8
  else if off = 0x50 then capHdr 0x11 0x60 + (vecCount s f - 1) * 2 ^ 16
  else if off = 0x54 then 0x0004
  else if off = 0x58 then 0x8004
  else if off = 0x60 then capHdr 0x10 0 + 2 * 2 ^ 16 + 2 ^ 31
  else if off = 0x64 then 2 + 2 ^ 5 + 2 ^ 15 + 2 ^ 28
  else if off = 0x6C then 7 + (if s.on HIF_PORTp_CFG_BIFURCATE (f / 64) then 8 else 16) * 2 ^ 4 + 2 ^ 22
  else if off = 0x70 then (s.get HIF_LINKl_STATUS_RATE l + b2n (s.on HIF_LINKl_STATUS_UP l)) * 2 ^ 16 + s.get HIF_LINKl_STATUS_WIDTH l * 2 ^ 20
  else if off = 0x84 then 15 + 2 ^ 4 + 2 ^ 16 + 2 ^ 17
  else if off = 0x8C then 0x7F * 2
  else if off = 0x90 then s.get HIF_LINKl_STATUS_FLIT l * 2 ^ 26
  else 0

/-- The values of the SR-IOV capability (Table 8.3). -/
def sriovDword (s : State) (f off : Nat) : Nat :=
  let n := s.get HIF_LINKl_CFG_TOTAL_VFS (linkOf s f)
  if off = 0x1A0 then extHdr 0x0010 1 0x1E0
  else if off = 0x1AC then n + n * 2 ^ 16
  else if off = 0x1B4 then 1 + 2 ^ 16
  else if off = 0x1B8 then 0x8841 * 2 ^ 16
  else if off = 0x1BC then 0x0000001F
  else 0

/-- The extended capabilities of Table 8.5, in their chain: a virtual function skips those that it lacks. -/
def extDword (s : State) (f off : Nat) : Nat :=
  if off = 0x100 then extHdr 0x0001 2 0x180
  else if off = 0x118 then 2 ^ 5 + 2 ^ 7
  else if off = 0x180 then extHdr 0x0003 1 0x190
  else if off = 0x184 then s.get SYS_UNIT_ID_V 0 0 % 2 ^ 32
  else if off = 0x188 then s.get SYS_UNIT_ID_V 0 0 / 2 ^ 32
  else if off = 0x190 then extHdr 0x000E 1 (if isPf s f then 0x1A0 else 0x370)
  else if off = 0x1E0 then extHdr 0x0019 1 0x210
  else if off = 0x210 then extHdr 0x0025 1 0x220
  else if off = 0x214 then 1 + 2 ^ 31
  else if off = 0x220 then extHdr 0x0026 1 0x260
  else if off = 0x260 then extHdr 0x002A 1 0x2A0
  else if off = 0x2A0 then extHdr 0x0031 1 0x2E0
  else if off = 0x2E0 then extHdr Config.capId128 1 0x320
  else if off = 0x320 then extHdr 0x0027 1 0x370
  else if off = 0x370 then extHdr 0x002F 1 (if isPf s f then 0x380 else 0)
  else if off = 0x374 then 2 ^ 1 + 2 ^ 2
  else if off = 0x380 then extHdr 0x0032 1 0
  else sriovDword s f off

/-- Whether an offset lies in a capability that a virtual function does not have (Table 8.5). -/
def vfSkips (off : Nat) : Bool :=
  vfLacks off || (decide (0x1E0 ≤ off) && decide (off < 0x370)) || (decide (0x380 ≤ off) && decide (off < 0x400))

/-- The fields of configuration space that a write sets, within the four bytes at `off`. -/
def cfgStored (s : State) (f off : Nat) : Nat :=
  match findReg (regsCfg.map fun r => { r with count1 := 1 }) off with
  | some (r, _, j, b) => regValue s r f j / 2 ^ (8 * b) % 2 ^ 32
  | none => 0

/-- The four bytes at an offset of a function's configuration space, as a host reads them. -/
def cfgRead (s : State) (f off : Nat) : Nat :=
  if !isPf s f && vfSkips off then 0
  else
    let fixed := hdrDword s f off + barDword off + capDword s f off + extDword s f off
    fixed ||| cfgStored s f off

end Sys2Proof.Machine
end

