-- ==== Sys2Proof/Machine/HostRead.lean ====
section
/-! DEFINITION. What a host reads of a function's BARs: the controller registers (R213), the mailbox page (R333), the telemetry window
(R251), the MSI-X table and its pending bits (R197, R200). A read changes nothing (R198). -/

namespace Sys2Proof.Machine

/-- The stored fields of a list of host-facing registers, four bytes of them. -/
def hostStored (s : State) (l : List Reg) (f off : Nat) : Nat :=
  match findReg (l.map fun r => { r with count1 := 1 }) off with
  | some (r, _, j, b) => regValue s r f j / 2 ^ (8 * b) % 2 ^ 32
  | none => 0

/-- Four bytes of BAR0 (Table 9.1): CAP, VS and CRTO are fixed, NSSR and the doorbells read 0, and INTMS and INTMC show the mask of INTx. -/
def bar0Read (s : State) (f off : Nat) : Nat :=
  if off = 0x00 then 0x1203FFFF
  else if off = 0x04 then 0x08400020
  else if off = 0x08 then 0x00020100
  else if off = 0x0C ∨ off = 0x10 then (if isPf s f then s.get NVME_INTM_BIT f else 0)
  else if off = 0x68 then 0x00120012
  else hostStored s regsBar0 f off

/-- The telemetry window of a function (Table 10.10), which reads 0 until it has been filled since the function's reset. -/
def telemetryWindow (s : State) (f : Nat) : List Byte :=
  match tget s.nvm.telFns f with
  | none => []
  | some (hif, cmd) =>
    fit (natLe s.nvm.telSeq 8 ++ natLe s.nvm.telUs 8 ++ natLe 0x7E1A 2 ++ natLe 1 2 ++ natLe (f + 1) 4) 0x100
      ++ fit s.nvm.telBytes 0x500 ++ natLe hif 8 ++ natLe cmd 8


/-- Four bytes of BAR2: the mailbox page (Table 14.5), then the telemetry window. The message word reads 0 to anyone but its receiver,
ACK to everyone (R3, R325). -/
def bar2Read (s : State) (f off : Nat) : Nat :=
  if 0x8000 ≤ off then leAt (fit ((telemetryWindow s f).drop (off - 0x8000)) 4) 0 4
  else if off = 0x0C then (pageChannels s f).length
  else if off < 0x100 then hostStored s regsBar2 f off
  else
    match pageChannel s f ((off - 0x100) / 16) with
    | none => 0
    | some c =>
      match off % 16 with
      | 0 => if chReceiver s c = f then regValue s MBX_CHc_MSGReg c 0 else 0
      | 8 => regValue s MBX_CHc_STATEReg c 0
      | 12 => c + (if chSender s c = f then 0 else 2 ^ 8)
      | _ => 0

/-- Four bytes of BAR4: the MSI-X table of the function's vectors, and from 0x8000 on their pending bits. -/
def bar4Read (s : State) (f off : Nat) : Nat :=
  if off < 0x8000 then (if off / 16 < vecCount s f then hostStored s regsBar4 f off else 0)
  else
    (List.range 32).foldl (fun v b =>
      let k := (off - 0x8000) * 8 + b
      if k < vecCount s f ∧ s.on VEC_PBA_P f k then v + 2 ^ b else v) 0

/-- Bytes of a BAR: its number is 0, 2 or 4 (R197). -/
def barBytes (s : State) (f bar : Nat) : Nat := if bar = 0 then bar0Bytes s f else 65536

/-- A host's read of `n` bytes of a BAR: none where it completes with Unsupported Request (R198). -/
def hostRead (s : State) (f bar off n : Nat) : Option Nat :=
  let w (o : Nat) : Nat := if bar = 0 then bar0Read s f o else if bar = 2 then bar2Read s f o else bar4Read s f o
  if !memOn s f ∨ !barSizeOk off n ∨ barBytes s f bar < off + n then none
  else some (w off + (if n = 8 then w (off + 4) * 2 ^ 32 else 0))

end Sys2Proof.Machine
end

