-- ==== Sys2Proof/Safety.lean ====
section
/-! DEFINITION. What statements about a step speak of: the reach of each command, frames, the commands that a held machine
takes, and the invariant of a held machine. -/

namespace Sys2Proof.Safety

open Sys2Proof.Machine

/-- The reach of each command: what its meaning may change. -/
def reachOf : Instr → Reach
  | .registerWrite _ _ | .udmDescriptor _ _ => Reach.registers
  | .clockLoss | .pfailAssert => Reach.flushStart
  | .holdoverEnd | .railOutOfRange | .start _ | .warmStart _ | .fltRestart | .autoWarmStart | .sensorFrame _ | .flushDone
  | .flushLimit => Reach.reset
  | .refclkPLoss _ | .perstNAssert _ | .hotReset _ | .linkDown _ | .initiateFunctionLevelReset _ | .vfEnableSet _
  | .vfEnableClear _ => Reach.clock
  | .settOnlyClear | .denEnable _ | .retrain _ | .scheduledRetrain _ | .mediaSuspend _ | .mediaResume _ => Reach.training
  | .advanceSecver _ | .revokeKey _ | .burnRemap _ => Reach.oneTime
  | .spiCmd _ | .spiStatusPoll _ _ => Reach.nor
  | .norWindowRead _ _ _ _ _ => Reach.norWindow
  | .hifEnable | .linkUp _ _ | .busMasterEnableClear _ | .d3hotEntry _ | .d0Return _ | .msixUnmask _ _ | .malformedTlp _ _ _ => Reach.ports
  | .perstNDeassert _ | .quarantineEnd _ _ => Reach.pins
  | .busMasterEnableSet _ | .completionReceived _ => Reach.masterEnable
  | .functionLevelResetDone _ => Reach.functionDone
  | .completionTimeout _ _ => Reach.completion
  | .ccEnable _ _ | .controllerReset _ => Reach.controller
  | .normalShutdown _ | .abruptShutdown _ | .shutdownComplete _ => Reach.shutdown
  | .sqTailDoorbell _ _ _ | .cqHeadDoorbell _ _ _ => Reach.doorbells
  | .submissionFetch => Reach.fetch
  | .submissionEntriesArrive _ _ _ => Reach.entries
  | .lockGrant _ _ => Reach.locks
  | .commit _ => Reach.commit
  | .completionPost _ _ | .interruptCoalescingTimer _ _ => Reach.post
  | .firmwareRingTake _ | .fwcplGo | .acquire _ | .release _ | .cancel _ | .cmdEnable | .pause | .drained => Reach.firmwareRing
  | .resume => Reach.resume
  | .read _ | .write _ | .writeAdmission | .compare _ | .verify _ | .writeZeroes _ | .writeUncorrectable _
  | .datasetManagement _ _ | .copy _ _ | .burrowAdvisePrefetch _ | .burrowAdvisePin _ | .secureDeallocate _ _ => Reach.io
  | .partialSectorMerge _ _ | .burrowAdviseUnpin _ => Reach.merge
  | .stagingRelease _ | .hbmEnable | .hbmWindowEnable _ => Reach.staging
  | .flush _ | .fence _ | .fenceCommit _ => Reach.flush
  | .ioManagementSend _ _ | .ioManagementReceive _ => Reach.placement
  | .compress _ _ _ | .decompress _ _ => Reach.hostCompress
  | .createIoCompletionQueue _ | .createIoSubmissionQueue _ | .deleteIoCompletionQueue _ | .identify _ | .getLogPage _
  | .setFeatures _ _ | .setFeaturesNumberOfQueues _ | .setFeaturesVolatileWriteCache _ | .getFeatures _
  | .asynchronousEventRequest _ | .asyncEventPost _ | .namespaceAttach _ _ | .namespaceDetach _ _ => Reach.admin
  | .deleteIoSubmissionQueue _ | .abort _ => Reach.abort
  | .setFeaturesPowerManagement _ | .setFeaturesHctm _ => Reach.powerFeature
  | .setFeaturesTemperatureThreshold _ => Reach.tempFeature
  | .namespaceCreate _ _ | .namespaceDelete _ => Reach.namespaces
  | .firmwareImageDownload _ _ | .firmwareCommitReplace _ | .firmwareCommitReplaceActivateReset _
  | .firmwareCommitActivateReset _ | .firmwareCommitActivateNow _ | .confirmFirmware _ | .autoConfirmation => Reach.image
  | .directiveSend _ _ | .directiveReceive _ | .securitySend _ _ | .securityReceive _ | .sanitizeBlockErase _
  | .sanitizeCryptoErase _ | .sanitizeExitFailureMode _ | .serviceDumpCapture _ | .serviceDumpRead _ | .serviceDumpRelease _ => Reach.security
  | .nvmeMiSend _ _ | .nvmeMiReceive _ => Reach.manage
  | .formatNvm _ | .formatNvmBlockErase _ | .formatNvmCryptoErase _ => Reach.format
  | .opalLockStateChange _ | .opalGenkey _ | .opalRevert _ => Reach.opal
  | .sanitizeDestructivePhases => Reach.sanitize
  | .sanitizeEntropyFailure => Reach.sanitizeState
  | .requalifyDie _ => Reach.requalifyDie
  | .readOnlyEntry | .spareBelowThreshold | .telemetryRefresh | .healthCounterSave => Reach.health
  | .mapEnable | .walkerLookup _ _ => Reach.mapEnable
  | .rowRetire _ _ => Reach.rowRetire
  | .mapRerunPop | .journalFlushTimer | .mapJnlSyncSync | .mapJnlSyncShutdown | .mapCkptBeginWrite _ | .mapNsWrite _ _
  | .flushMark => Reach.journal
  | .runRead _ | .runCas _ | .excCas _ | .excDealloc _ | .excMarkLost _ | .runClear _ | .rerunOpen _ | .rerunCommit _
  | .stripeHdr _ | .stripeMember _ | .lookup _ | .jnlAppend _ | .jnlSync _ => Reach.mapSlots
  | .journalPageProgramDone _ _ _ _ => Reach.pageDone
  | .mapReplayGo | .mapReplaySweep => Reach.replay
  | .fchEnable | .ringEnable _ | .ringTailWrite _ _ => Reach.channels
  | .trainingStepComplete _ _ | .channelFence _ | .contCheck _ _ | .dqsTimeout _ | .dieFence _ | .requalify _
  | .requalifyDone _ _ _ _ | .dieStateRestore _ _ | .statusPoll _ _ | .pollTimeout _ | .mediaOperationComplete _ _ => Reach.media
  | .retire _ | .activate _ | .mediaOperationIssue _ | .agingPromotion _ _ => Reach.dies
  | .cdcEnable | .reconstruction _ | .rowEncode _ _ | .packedRowCopy _ | .runRowCopy _ | .markScan _ _ | .copySlotAbort _ => Reach.codec
  | .readAroundRecheck | .raBudgetTick => Reach.readAround
  | .rebuildGo _ | .rebuildRow _ | .rebuildAbort _ => Reach.rebuild
  | .trkEnable | .thEnable | .thermalCellEnable _ | .frameStart | .swap => Reach.tracking
  | .cellRead _ | .cellInit _ | .cellClear _ | .cellDisable _ | .ageSet _ | .ageGet _ | .dieDisable _ => Reach.trackSlots
  | .garbageCollection _ | .fold _ | .scrubPass | .keygenMigration _ | .secureDeallocationPhase2 _ | .fdpPadTimer _ => Reach.background
  | .holdupMeasurement _ => Reach.holdup
  | .pseudoChannelTimeout _ => Reach.pcTimeout
  | .burEnable | .sketchAging | .burrowFillComplete _ | .unpin _ | .cool _ | .boost _ | .inval _ | .estimate _ => Reach.burrow
  | .burrowReadDone _ | .prefetch _ | .pin _ => Reach.burrowReads
  | .bpmEnable | .bufferRequest _ _ | .bpmPoolAllocRead _ | .bpmFree _ | .bpmRebuild | .freeListRebuildDone _
  | .minFreeRead _ | .correctedWordWriteback | .mergeEntryWriteback _ | .laneSweepDone _ => Reach.buffers
  | .udmGo _ | .udmStop _ | .udmRingBaseWrite _ _ => Reach.dma
  | .genKey _ | .eraseKey _ | .retireOld _ | .exportKey _ | .importKey _ | .deriveKey _ | .dkClear _ | .changeoverInstall _
  | .entropyRecovery | .drbgReseed => Reach.keys
  | .sealJob _ | .openJob _ => Reach.sealing
  | .entropyHealthFail _ => Reach.entropy
  | .compressJob _ | .decompressJob _ | .cprJobStart _ | .loadableTableValid _ => Reach.compression
  | .cprJobEnd _ _ => Reach.compressionEnd
  | .messageWrite _ _ _ | .messageAck _ _ _ | .mailboxTimeout _ | .watchdogWarn _ | .kick _ | .coreImageLoaded _
  | .coreRetire _ | .coreHoldClear _ => Reach.mailbox
  | .watchdogExpiry _ | .coreFault _ _ _ | .coreRestart _ => Reach.coreFault
  | .powerSample _ => Reach.govern
  | .analogThermalTrip => Reach.trip
  | .smbusPacket _ | .vdmMessage _ | .nvmeMiMessage _ | .setEndpointId _ | .getEndpointId _ | .getMctpVersionSupport _
  | .getMessageTypeSupport _ | .readNvmeMiDataStructure _ | .nvmSubsystemHealthStatusPoll _ | .controllerHealthStatusPoll _
  | .configurationGet _ | .configurationSet _ | .vpdRead _ | .vpdWrite _ | .nvmeMiReset _ | .basicManagementRead _
  | .alertResponseAddressRead _ | .smbusClockLowTimeout | .smbSwapDetect | .smbSwapResume | .fwReadyWrite _ => Reach.oob
  | .tunnelledAdminCommand _ => Reach.tunnel
  | .fltEvent _ _ _ => Reach.fltEvent
  | .fltClear _ | .fltAppend _ _ => Reach.fltClear
  | .pwrElemTempMaxRead _ => Reach.elemMax
  | .tckRisingEdge _ _ _ | .trstNAssert => Reach.tap

/-- The commands that the hold of the blocks does not stop: the starts, what PWR and SYS see, and the TAP (R20, R335, R337, R391,
R448). -/
def runsHeld : Instr → Bool
  | .start _ | .warmStart _ | .railOutOfRange | .clockLoss | .holdoverEnd | .pfailAssert
  | .powerSample _ | .sensorFrame _ | .analogThermalTrip | .flushDone | .flushLimit | .tckRisingEdge _ _ _ | .trstNAssert => true
  | _ => false

/-- Nothing beyond a reach has changed: every register field outside its windows reads as before, memory and every other piece
of the state outside it is as before, and so are the timer clock and the queue. -/
structure Within (r : Reach) (s t : State) : Prop where
  regs : ∀ f i j, r.reg f.id = false → t.get f i j = s.get f i j
  phase : r.has .phase = false → t.phase = s.phase
  mem : r.has .mem = false → t.mem = s.mem
  out : r.has .out = false → t.out = s.out
  bus : r.has .bus = false → t.bus = s.bus
  free : r.has .free = false → t.freeCount = s.freeCount
  mbx : r.has .mbx = false → t.mbx = s.mbx
  flt : r.has .flt = false → t.flt = s.flt
  map : r.has .map = false → t.map = s.map
  fch : r.has .fch = false → t.fch = s.fch
  cdc : r.has .cdc = false → t.cdc = s.cdc
  trk : r.has .trk = false → t.trk = s.trk
  hbm : r.has .hbm = false → t.hbm = s.hbm
  bur : r.has .bur = false → t.bur = s.bur
  hif : r.has .hif = false → t.hif = s.hif
  cmd : r.has .cmd = false → t.cmd = s.cmd
  nvm : r.has .nvm = false → t.nvm = s.nvm
  bpm : r.has .bpm = false → t.bpm = s.bpm
  udm : r.has .udm = false → t.udm = s.udm
  cry : r.has .cry = false → t.cry = s.cry
  sys : r.has .sys = false → t.sys = s.sys
  media : r.has .media = false → t.media = s.media
  cpr : r.has .cpr = false → t.cpr = s.cpr
  fw : r.has .fw = false → t.fw = s.fw
  pwr : r.has .pwr = false → t.pwr = s.pwr
  oob : r.has .oob = false → t.oob = s.oob
  tap : r.has .tap = false → t.tap = s.tap
  latch : r.has .latch = false → t.latch = s.latch
  timeUs : t.timeUs = s.timeUs
  pending : t.pending = s.pending

/-- Every register field but those of a list reads as before. -/
def OnlyFields (fs : List Fld) (s t : State) : Prop := ∀ f i j, f.id ∉ fs.map Fld.id → t.get f i j = s.get f i j

/-- Every byte of memory reads as before. -/
def SameMemory (s t : State) : Prop := ∀ a, memGet t.mem a = memGet s.mem a

/-- Firmware has taken the command of an opcode in context `c`, an I/O command (`io`) or an admin one, and may run it: its data
addresses are known, no part of it has failed, and it came from the host, whose function may master the bus (R209, R222). -/
structure Taken (s : State) (c : Nat) (x : Ctx) (io : Bool) (op : Nat) : Prop where
  held : ctxOf s c = some x
  number : c < 2 ^ 19
  stage : x.stage = .taken
  kind : decide (x.sq ≠ 0) = io
  opcode : x.sqe.opcode = op
  addresses : x.dmaNeed = 0
  good : x.err = 0
  host : x.tunnel = none
  master : bme s x.f = true

/-- A command that CMD executes may begin: its records are granted, it has not begun, and its function may master the bus
(R221, R222). -/
structure Ready (s : State) (c : Nat) (x : Ctx) (op : Nat) : Prop where
  held : ctxOf s c = some x
  stage : x.stage = .running
  fresh : x.started = false
  io : x.sq ≠ 0
  opcode : x.sqe.opcode = op
  known : [0x00, 0x01, 0x02, 0x05, 0x0C, 0x80].contains op = true
  master : bme s x.f = true

/-- The status of the command in context `c` is final, with DW0 (R221). -/
def Ended (t : State) (c status dw0 : Nat) : Prop :=
  ∃ y, ctxOf t c = some y ∧ y.stage = .committed ∧ y.err = status ∧ y.dw0 = dw0

/-- Firmware has completed the command in context `c` through CMD_FWCPL_CTL (R222). -/
def Posted (t : State) (c status dw0 : Nat) : Prop :=
  Ended t c status dw0 ∧ t.get CMD_FWCPL_CTL_DONE = 1 ∧ t.get CMD_FWCPL_CTL_RESULT = 0 ∧ t.get CMD_FWCPL_CTL_GO = 0

/-- Nothing that ended on the media waits for device firmware, and no record, full stripe or failed member waits for its turn. -/
def Quiet (s : State) : Prop :=
  (s.media.ends = [] ∧ s.media.rowFails = [] ∧ s.media.lost = []) ∧
  (s.media.growWait = [] ∧ s.media.epochWait = [] ∧ s.media.toClose = [] ∧ s.media.fixes = [])

/-- A MAP slot that takes a command: the blocks run, the slot exists and is idle, and MAP is enabled (R60). -/
def MapReady (s : State) (n : Nat) : Prop :=
  s.live = true ∧ n < 64 ∧ s.on MAP_CMDn_CTL_GO n = false ∧ s.on MAP_CTRL_ENABLE = true

/-- The state in which a MAP slot's command acts: its GO write has set OP and GO (R60). -/
def mapTaken (s : State) (n op : Nat) : State := (s.set MAP_CMDn_CTL_OP op n).set MAP_CMDn_CTL_GO 1 n

/-- A command of a MAP slot that updates the map acts at once: JNL_HARD does not hold, and no command to its run waits for the
journal ring (R45, R60). -/
def MapFree (s : State) (n op : Nat) : Prop := jnlHard s = false ∧ runWaits (mapTaken s n op) n = false

/-- A MAP slot has completed its command with a result (R60). -/
def MapDone (t : State) (n result : Nat) : Prop :=
  t.get MAP_CMDn_CTL_DONE n = 1 ∧ t.get MAP_CMDn_CTL_RESULT n = result ∧ t.get MAP_CMDn_CTL_GO n = 0

/-- A die has no operation queued or issued. -/
def DieIdle (s : State) (die : Nat) : Prop := (dieOf s die).queue = [] ∧ (dieOf s die).run = none ∧ (dieOf s die).reads = []

/-- The dies of a channel have no operation, and nothing waits for the channels to become quiet. -/
def ChannelsRest (s : State) (ch : Nat) : Prop :=
  (∀ d, d < 8 → DieIdle s (ch * 8 + d)) ∧ ∀ x, (chanOf s x).contWait = none ∧ (chanOf s x).retrain = false

/-- No descriptor of a den's ring waits to be read (R86). -/
def RingRests (s : State) (den : Nat) : Prop := s.get FCH_DEN_RING_HEAD_INDEX den = s.get FCH_DEN_RING_TAIL_INDEX den

/-- A die command has completed with a result (R75). -/
def DieCommandDone (t : State) (die result : Nat) : Prop :=
  t.get FCH_DIEd_CMD_STS_RESULT (chOf die) (die % 8) = result ∧ t.get FCH_DIEd_CMD_STS_DONE (chOf die) (die % 8) = 1

/-- A copy slot waits for the codec with its arguments (R137). -/
def CopyWaits (s t : State) (n kind : Nat) : Prop :=
  t.get CDC_CPn_CTL_GO n = 1 ∧ ∃ y, tget t.cdc.copies n = some y ∧ y.kind = kind ∧ y.started = false ∧
    y.stripe = s.get CDC_CPn_DST_STRIPE n ∧ y.row = s.get CDC_CPn_DST_ROW n

/-- A copy slot reads its sources (R135). -/
def CopyReads (t : State) (n kind : Nat) (l : List CopyEnt) : Prop :=
  t.get CDC_CPn_CTL_GO n = 1 ∧ t.get CDC_CPn_CTL_KIND n = kind ∧ ∃ y, tget t.cdc.copies n = some y ∧ y.started = true ∧ y.entries = l

/-- A copy slot has ended with a result (R137). -/
def CopyEnded (t : State) (n result : Nat) : Prop :=
  t.get CDC_CPn_CTL_RESULT n = result ∧ t.get CDC_CPn_CTL_GO n = 0 ∧ tget t.cdc.copies n = none ∧ bits (t.get CDC_CP_DONE_DONE) n 1 = 1

/-- A TRK slot that takes a command (R130). -/
def TrkReady (s : State) (n : Nat) : Prop :=
  s.live = true ∧ n < 16 ∧ s.on TRK_CMDn_CTL_GO n = false ∧ s.on TRK_CTRL_ENABLE = true

/-- A TRK slot has completed its command with a result (R130). -/
def TrkDone (t : State) (n result : Nat) : Prop :=
  t.get TRK_CMDn_CTL_DONE n = 1 ∧ t.get TRK_CMDn_CTL_RESULT n = result ∧ t.get TRK_CMDn_CTL_GO n = 0

/-- A BUR slot has completed its command with a result (R186). -/
def BurDone (t : State) (n result : Nat) : Prop :=
  t.get BUR_CMDn_CTL_DONE n = 1 ∧ t.get BUR_CMDn_CTL_RESULT n = result ∧ t.get BUR_CMDn_CTL_GO n = 0

/-- A key command has ended with a result (R265). -/
def KeyDone (t : State) (n result : Nat) : Prop :=
  t.get CRY_KCMDn_CTL_DONE n = 1 ∧ t.get CRY_KCMDn_CTL_RESULT n = result ∧ t.get CRY_KCMDn_CTL_GO n = 0

/-- A job slot of the compression engines has ended with a result (R289). -/
def JobEnded (t : State) (n result : Nat) : Prop :=
  t.get CPR_JOBn_CTL_RESULT n = result ∧ t.get CPR_JOBn_CTL_DONE n = 1 ∧ t.get CPR_JOBn_CTL_GO n = 0

/-- A job slot waits for an engine, behind the ones that wait (R288). -/
def JobWaits (s t : State) (n op : Nat) : Prop :=
  t.get CPR_JOBn_CTL_GO n = 1 ∧ t.get CPR_JOBn_CTL_OP n = op ∧ t.cpr.waiting = s.cpr.waiting ++ [n] ∧ SameMemory s t ∧
    OnlyFields [CPR_JOBn_CTL_OP, CPR_JOBn_CTL_GO] s t

/-- BPM_FREE of a pointer that is rejected for `reason`: the flag, the pointer, the reason and the count, and no list and no
bitmap bit (R296). -/
def FreeRejected (s : State) (a reason : Nat) : Prop :=
  ∃ t, exec (.bpmFree a) s = .next t ∧ t.get BPM_STATUS_BAD_FREE = 1 ∧ t.get BPM_BAD_FREE_ADDR = a % 2 ^ BPM_BAD_FREE_ADDR.width ∧
    t.get BPM_BAD_FREE_REASON = reason ∧ t.get BPM_CNTn_COUNT 4 = (s.bump BPM_CNTn_COUNT 4).get BPM_CNTn_COUNT 4 ∧
    t.bpm = s.bpm ∧ SameMemory s t ∧
    OnlyFields [BPM_STATUS_BAD_FREE, BPM_BAD_FREE_ADDR, BPM_BAD_FREE_REASON, BPM_CNTn_COUNT] s t

/-- A key command ends with BAD_ARG and changes no key and no memory. -/
def KeyRefused (s t : State) (n : Nat) : Prop := KeyDone t n 4 ∧ t.cry = s.cry ∧ SameMemory s t

/-- Every route of a core has moved to another one, which is told (R322). -/
def FailedOver (s t : State) (n m : Nat) : Prop :=
  (∀ i, i < 64 → t.get MBX_ROUTEi_CORE i =
    if s.get MBX_ROUTEi_CORE i = n then m else s.get MBX_ROUTEi_CORE i) ∧
    t.get MBX_COREn_LOCAL_FAILOVER m = 1 ∧ t.get MBX_COREn_LOCAL_FROM m = n

/-- A running core has failed for a cause at an address: it is recorded and counted, its routes have moved to the next running core or
the controller has a fatal fault, and it loads again or, with a lasting fault, is retired (R321 to R323). -/
def CoreFailed (s t : State) (n cause addr : Nat) : Prop :=
  t.get MBX_COREn_FAULT_CAUSE n = cause ∧ t.get MBX_COREn_FAULT_ADDR n = addr % 2 ^ MBX_COREn_FAULT_ADDR.width ∧
    t.get MBX_STATUS_CORE_FAULT = 1 ∧
    t.get MBX_COREn_CNT_RESTART_CNT n = (s.bump MBX_COREn_CNT_RESTART_CNT n).get MBX_COREn_CNT_RESTART_CNT n ∧
    coreState t n = (if (fltCount s (elemCore n) cause addr false).2 then 3 else 1) ∧
    (∀ m, nextRunning s n = some m → FailedOver s t n m) ∧
    (nextRunning s n = none → t.get MBX_STATUS_ROUTE_NONE = 1 ∧ t.get FLT_FATAL_ACTIVE = 1 ∧
      ∀ i, t.get MBX_ROUTEi_CORE i = s.get MBX_ROUTEi_CORE i)

/-- A slot's request has been answered with a status, three bytes and data, and the slot is free (R398). -/
def SlotAnswered (s t : State) (k : Nat) (r : OobReq) (st : Nat) (resp d : List Byte) : Prop :=
  tget t.oob.slots k = none ∧ t.out = (miAnswer s (k / 2) r st resp d).out

/-- A core, or the boot ROM. -/
def FullMaster (m : Nat) : Prop := (0x100 ≤ m ∧ m < 0x140) ∨ m = 0x1C0

/-- The invariant of a machine that is held or without power: every register outside the SYS and PWR windows is at its reset
value (R8, R20, R335, R391). -/
def HeldReset (s : State) : Prop := s.live = false → ∀ c ∈ s.regs, keptCell c = true

end Sys2Proof.Safety
end

