-- ==== Sys2Proof/Certificates/Slice0/Obligations.lean ====
section
/-! DEFINITION. The statements for the provers. Each says what the spec's rules say of one family of commands; the frame of every
command is `CommandsStayInReach`, and a statement adds what finer its rules give. -/

open Sys2Proof Sys2Proof.Machine Sys2Proof.Safety

/-! ## The machine as a whole -/

/-- The command at the front of the queue runs with the queue's rest (the model's own queue, log entry 1).  -/
def Obligations.StepRunsFrontCommand : Prop :=
  ∀ (c : Instr) (s : State) (r : List Instr), s.pending = c :: r → step s = exec c { s with pending := r }

/-- With an empty queue a step passes a microsecond of the timer clock and changes nothing else (log entry 1).  -/
def Obligations.IdleStep : Prop :=
  ∀ s : State, s.pending = [] →
    ∃ t, step s = .next t ∧ t.timeUs = s.timeUs + 1 ∧ t = { s with timeUs := t.timeUs }

/-- No command stops the machine: from every state every command answers a next state, which keeps the queue and the timer
clock.  -/
def Obligations.EveryCommandRuns : Prop :=
  ∀ (c : Instr) (s : State), ∃ t, exec c s = .next t ∧ t.pending = s.pending ∧ t.timeUs = s.timeUs

/-- The frame of every command: registers, memory and every other piece of the state beyond the reach of the command's family
are as before.  -/
def Obligations.CommandsStayInReach : Prop :=
  ∀ (c : Instr) (s t : State), exec c s = .next t → Within (reachOf c) s t

/-- While every block but SYS and PWR is held in reset, or power is off, a command of the blocks changes nothing (R8, R20, R335,
R391). The commands that the hold does not stop are those that start the machine, those that PWR and SYS see, and the TAP's.  -/
def Obligations.HeldBlocksDoNothing : Prop :=
  ∀ (c : Instr) (s : State), s.live = false → runsHeld c = false → exec c s = .next s

/-- After reset the invariant of a held machine holds.  -/
def Obligations.ResetIsHeldReset : Prop := HeldReset State.reset

/-- Every step keeps the invariant of a held machine: as long as the blocks are held, every register outside the SYS and PWR
windows is at its reset value, whichever step began the hold (R8, R20, R335, R391).  -/
def Obligations.HeldResetKept : Prop := ∀ s t : State, HeldReset s → step s = .next t → HeldReset t

/-- What reset leaves: no power, no command, nothing in memory, and every register at the reset value of the spec's tables
(R8, R335); the memory's form is canonical.  -/
def Obligations.ResetState : Prop :=
  State.reset.phase = .off ∧ State.reset.pending = [] ∧ State.reset.out = [] ∧ memWf State.reset.mem = true ∧
    (∀ a, memGet State.reset.mem a = memDefault) ∧ ∀ f i j, State.reset.get f i j = fldReset f i

/-! ## SYS: OTP, SPI NOR, channels beyond the Sett -/

/-- OTP programming (R350): the security version and the count that SYS_OTP_STATE shows, a revoked key, a burnt remap entry;
and the refusals, which leave the array as it was. DONE ends each.

States that each of these commands completes, with its effect: `advanceSecver`, `revokeKey`, `burnRemap`. -/
def Obligations.OtpCommands : Prop :=
  (∀ (ok : Bool) (s : State), s.live = true →
    (s.get SYS_OTP_ARG_V < s.sys.otp.secver ∨ 256 < s.get SYS_OTP_ARG_V →
      ∃ t, exec (.advanceSecver ok) s = .next t ∧ t.get SYS_OTP_CMD_RESULT = 1 ∧ t.get SYS_OTP_CMD_DONE = 1 ∧ t.sys = s.sys) ∧
    (s.sys.otp.secver ≤ s.get SYS_OTP_ARG_V → s.get SYS_OTP_ARG_V ≤ 256 →
        ok = true ∨ s.get SYS_OTP_ARG_V = s.sys.otp.secver →
      ∃ t, exec (.advanceSecver ok) s = .next t ∧ t.sys.otp.secver = s.get SYS_OTP_ARG_V ∧ t.get SYS_OTP_CMD_RESULT = 0 ∧
        t.get SYS_OTP_CMD_DONE = 1 ∧ t.get SYS_OTP_STATE_SECVER = s.get SYS_OTP_ARG_V % 2 ^ SYS_OTP_STATE_SECVER.width) ∧
    (s.sys.otp.secver < s.get SYS_OTP_ARG_V → s.get SYS_OTP_ARG_V ≤ 256 → ok = false →
      ∃ t, exec (.advanceSecver ok) s = .next t ∧ s.sys.otp.secver ≤ t.sys.otp.secver ∧
        t.sys.otp.secver < s.get SYS_OTP_ARG_V ∧ t.get SYS_OTP_CMD_RESULT = 2 ∧ t.get SYS_STATUS_OTP_FAIL = 1)) ∧
  (∀ (ok : Bool) (s : State), s.live = true → 4 ≤ s.get SYS_OTP_ARG_V →
      ∃ t, exec (.revokeKey ok) s = .next t ∧ t.get SYS_OTP_CMD_RESULT = 4 ∧ t.get SYS_OTP_CMD_DONE = 1 ∧ t.sys = s.sys) ∧
  (∀ (ok : Bool) (s : State), s.live = true → 39 ≤ bits (s.get SYS_OTP_ARG_V) 0 6 →
      ∃ t, exec (.burnRemap ok) s = .next t ∧ t.get SYS_OTP_CMD_RESULT = 4 ∧ t.get SYS_OTP_CMD_DONE = 1 ∧ t.sys = s.sys) ∧
  (∀ (ok : Bool) (s : State), s.live = true → s.get SYS_OTP_ARG_V < 4 →
    (s.get SYS_OTP_ARG_V = s.sys.image.bootKey ∨ garnikKeys s = [s.get SYS_OTP_ARG_V] →
      ∃ t, exec (.revokeKey ok) s = .next t ∧ t.get SYS_OTP_CMD_RESULT = 1 ∧ t.get SYS_OTP_CMD_DONE = 1 ∧ t.sys = s.sys) ∧
    (s.get SYS_OTP_ARG_V ≠ s.sys.image.bootKey → garnikKeys s ≠ [s.get SYS_OTP_ARG_V] → ok = true →
      ∃ t, exec (.revokeKey ok) s = .next t ∧ keyRevoked (t.sys.otp.keyUse.getD (s.get SYS_OTP_ARG_V) 0) = true ∧
        t.get SYS_OTP_CMD_RESULT = 0 ∧ t.get SYS_OTP_CMD_DONE = 1)) ∧
  (∀ (ok : Bool) (s : State), s.live = true → bits (s.get SYS_OTP_ARG_V) 0 6 < 39 →
    ((tget s.sys.otp.remaps (bits (s.get SYS_OTP_ARG_V) 0 6 * 8 + bits (s.get SYS_OTP_ARG_V) 6 3)).isSome →
      ∃ t, exec (.burnRemap ok) s = .next t ∧ t.get SYS_OTP_CMD_RESULT = 1 ∧ t.get SYS_OTP_CMD_DONE = 1 ∧ t.sys = s.sys) ∧
    (tget s.sys.otp.remaps (bits (s.get SYS_OTP_ARG_V) 0 6 * 8 + bits (s.get SYS_OTP_ARG_V) 6 3) = none → ok = true →
      ∃ t, exec (.burnRemap ok) s = .next t ∧
        tget t.sys.otp.remaps (bits (s.get SYS_OTP_ARG_V) 0 6 * 8 + bits (s.get SYS_OTP_ARG_V) 6 3)
          = some (bits (s.get SYS_OTP_ARG_V) 9 19) ∧
        t.get SYS_OTP_CMD_RESULT = 0 ∧ t.get SYS_OTP_CMD_DONE = 1))

/-- A program command to the boot bank ends with PROTECTED and is not sent; one without an address ends with BAD_ARG and is not
sent (R356).

SPI commands, status polls and reads of the NOR window (R355): a command that writes carries the first LEN bytes of
SYS_SPI_DATA; a poll whose WIP is 0 clears the bank's mark, and without read-while-write the other one too; a read of a bank
that is not busy answers the NOR's data. SETT_ONLY written 0 reads 0 (R346).

States that each of these commands completes, with its effect: `spiCmd`, `spiStatusPoll`, `norWindowRead`, `settOnlyClear`. -/
def Obligations.NorFlash : Prop :=
  (∀ (d : List Byte) (s : State), s.live = true → s.on SYS_SPI_CMD_PROG = true →
    (s.on SYS_SPI_CMD_ADDR_EN = true → norBank s (s.get SYS_SPI_ADDR_V) = s.get SYS_SPI_STAT_BOOT_BANK →
      ∃ t, exec (.spiCmd d) s = .next t ∧ t.get SYS_SPI_CMD_RESULT = 2 ∧ t.get SYS_SPI_CMD_DONE = 1 ∧ t.out = s.out) ∧
    (s.on SYS_SPI_CMD_ADDR_EN = false →
      ∃ t, exec (.spiCmd d) s = .next t ∧ t.get SYS_SPI_CMD_RESULT = 4 ∧ t.get SYS_SPI_CMD_DONE = 1 ∧ t.out = s.out)) ∧
  ((∀ (d : List Byte) (s : State), s.live = true → s.on SYS_SPI_CMD_PROG = false → s.on SYS_SPI_CMD_DIR = true →
    ∃ t, exec (.spiCmd d) s = .next t ∧ t.get SYS_SPI_CMD_RESULT = 0 ∧ t.get SYS_SPI_CMD_DONE = 1 ∧
      t.get SYS_SPI_CMD_GO = 0 ∧ t.get SYS_STATUS_SPI_DONE = 1 ∧
      t.out = s.out ++ [.nor (s.get SYS_SPI_CMD_OPCODE)
        (if s.on SYS_SPI_CMD_ADDR_EN then some (s.get SYS_SPI_ADDR_V) else none) ((spiData s).take (s.get SYS_SPI_CMD_LEN))]) ∧
  (∀ (b st : Nat) (s : State), s.live = true → b < 2 → bankIsBusy s b = true → st % 2 = 0 →
    ∃ t, exec (.spiStatusPoll b st) s = .next t ∧ bankIsBusy t b = false ∧ t.out = s.out ++ [.nor 5 none []] ∧
      (s.on SYS_SPI_CFG_RWW = false → bankIsBusy t (1 - b) = false) ∧
      (s.on SYS_SPI_CFG_RWW = true → bankIsBusy t (1 - b) = bankIsBusy s (1 - b))) ∧
  (∀ (m a n v : Nat) (h : Bool) (s : State), s.live = true → inNorWin a = true → mayReach m a = true → n = 4 ∨ n = 8 →
    a % n = 0 → bankIsBusy s (norBank s (norAddr s a)) = false →
    ∃ t, exec (.norWindowRead m a n h v) s = .next t ∧ t.bus = .data (v % 2 ^ (8 * n)) ∧ OnlyFields [] s t) ∧
  (∀ s : State, s.live = true → s.on FCH_GCTRL_ENABLE = false →
    ∃ t, exec .settOnlyClear s = .next t ∧ t.get SYS_CTRL_SETT_ONLY = 0 ∧ OnlyFields [SYS_CTRL_SETT_ONLY] s t))

/-! ## PWR and the power-fail flush -/

/-- A power-fail flush starts with PFAIL_N, or with the loss of REFCLK_MAIN, while the cores run (R20, R389): the cause is
recorded, the flush is active, its energy starts from 0.

Only one flush runs at a time: a trigger during a flush joins it, and the cause recorded is the first (R389). PFAIL_N is
ignored until the cores run (R335).

The end of a flush by DONE, by FLUSH_LIMIT ms after its start, or 30 ms after it by the end of holdover after a clock loss (R20,
R391): every block except SYS and PWR is held, with its registers at reset; without DONE no SHUTDOWN page was written, so the Sett
is not clean.

States that each of these commands completes, with its effect: `pfailAssert`, `clockLoss`, `flushDone`, `flushLimit`, `holdoverEnd`. -/
def Obligations.PowerFailFlush : Prop :=
  (∀ s : State, s.phase = .running → s.on PWR_STATE_FLUSH_ACTIVE = false →
    (∃ t, exec .pfailAssert s = .next t ∧ t.get PWR_STATE_FLUSH_ACTIVE = 1 ∧ t.get PWR_STATE_CAUSE = 1 ∧
      t.get PWR_STATUS_FLUSH = 1 ∧ t.get PWR_FLUSH_ENERGY_MJ = 0 ∧ t.phase = .running) ∧
    (∃ t, exec .clockLoss s = .next t ∧ t.get PWR_STATE_FLUSH_ACTIVE = 1 ∧ t.get PWR_STATE_CAUSE = 2 ∧
      t.get PWR_STATUS_FLUSH = 1 ∧ t.get PWR_FLUSH_ENERGY_MJ = 0 ∧ t.phase = .running)) ∧
  (∀ s : State, s.phase ≠ .off →
    (s.phase = .running → s.on PWR_STATE_FLUSH_ACTIVE = true →
      ∃ t, exec .pfailAssert s = .next t ∧ OnlyFields [] s t ∧ t.mem = s.mem ∧ t.out = s.out ∧ t.phase = .running) ∧
    (s.phase ≠ .running → ∃ t, exec .pfailAssert s = .next t ∧ Within ⟨[], []⟩ s t)) ∧
  (∀ s : State, s.phase ≠ .off → s.on PWR_STATE_FLUSH_ACTIVE = true →
    (∃ t, exec .flushDone s = .next t ∧ t.phase = .held ∧ ∀ c ∈ t.regs, keptCell c = true) ∧
    (s.pwr.flushUs + 1000 * s.get PWR_CFG_FLUSH_LIMIT ≤ s.timeUs →
      ∃ t, exec .flushLimit s = .next t ∧ t.phase = .held ∧ t.sys.sett.clean = false ∧ ∀ c ∈ t.regs, keptCell c = true) ∧
    (s.get PWR_STATE_CAUSE = 2 → s.pwr.flushUs + 30000 ≤ s.timeUs →
      ∃ t, exec .holdoverEnd s = .next t ∧ t.phase = .held ∧ t.sys.sett.clean = false ∧ ∀ c ∈ t.regs, keptCell c = true))

/-- The analog comparator asserts THERM_TRIP_N by itself, and a thermal shutdown is left only when a rail leaves its range: no
warm start leaves it (R388).

A 50 µs power frame (R382): the moving average of at most twenty frames is reported, and P rises by at most 1 and never above
7; P is 0 while PWR is not enabled.

A sensor frame while the blocks are held (R384, R388): every element shows its highest sensor, and its maximum keeps the
highest reading. A holdup measurement is stored, and one below the declared energy sets HOLDUP_LOW (R172, R393). A FLUSH_MARK
record of a flush carries its cause and its energy (R391).

States that each of these commands completes, with its effect: `analogThermalTrip`, `powerSample`, `sensorFrame`, `holdupMeasurement`,
`flushMark`. -/
def Obligations.PowerAndThermal : Prop :=
  ((∀ s : State, s.phase ≠ .off →
    ∃ t, exec .analogThermalTrip s = .next t ∧ t.pwr.tripped = true ∧ t.out = s.out ++ [.pin .thermTripN (some false)] ∧
      OnlyFields [] s t) ∧
  (∀ (b : BootInputs) (s : State), s.pwr.tripped = true → exec (.warmStart b) s = .next s)) ∧
  (∀ (mw : Nat) (s : State), s.phase ≠ .off → s.get PWR_STATE_P ≤ 7 →
    ∃ t, exec (.powerSample mw) s = .next t ∧ t.pwr.samples = (mw :: s.pwr.samples).take 20 ∧
      t.get PWR_POWER_AVG_MW =
        min (((mw :: s.pwr.samples).take 20).foldl (· + ·) 0 / ((mw :: s.pwr.samples).take 20).length) (2 ^ 19 - 1) ∧
      t.get PWR_STATE_P ≤ s.get PWR_STATE_P + 1 ∧ t.get PWR_STATE_P ≤ 7 ∧
      (s.on PWR_CTRL_ENABLE = false → t.get PWR_STATE_P = 0)) ∧
  ((∀ (l : List Nat) (s : State), s.phase = .held → s.on PWR_STATE_FLUSH_ACTIVE = false →
    ∃ t, exec (.sensorFrame l) s = .next t ∧ t.phase = .held ∧
      ∀ k, k < 32 → t.get PWR_ELEMk_TEMP_TEMP k = elemReading l k ∧
        t.get PWR_ELEMk_TEMP_MAX k = max (elemReading l k) (s.get PWR_ELEMk_TEMP_MAX k) % 2 ^ PWR_ELEMk_TEMP_MAX.width) ∧
  (∀ (m : Nat) (s : State), s.live = true → m < 65536 →
    ∃ t, exec (.holdupMeasurement m) s = .next t ∧ t.get PWR_HOLDUP_MEAS_ENERGY_MJ = m ∧
      (0 < m → m < s.get HBM_HOLDUP_ENERGY_MJ → t.get PWR_STATUS_HOLDUP_LOW = 1)) ∧
  (∀ s : State, s.live = true → s.on PWR_STATE_FLUSH_ACTIVE = true → s.on MAP_CTRL_ENABLE = true →
    (openPage s).recs.length + 1 < pageRecs →
    ∃ t, exec .flushMark s = .next t ∧
      (openPage t).recs = (openPage s).recs ++ [⟨0x81, 0, s.get PWR_STATE_CAUSE, s.get PWR_FLUSH_ENERGY_MJ⟩]))

/-! ## Starts and holds -/

/-- A start, and a warm start of a machine that no thermal shutdown holds, run the boot sequence to its end: the cores run with
STAGE 11, or the ROM halts; the ROM halts with cause 1 where OTP fails, and with cause 7 where SPI_HIZ is strapped (R335, R337,
R338, R409).

What holds the machine: a rail out of range takes every register to its reset value (R335); FLT_CTRL.RESTART, and AUTO_S after
a fatal controller fault, hold every block but SYS and PWR, whose registers alone keep a value (R407, R417).

States that each of these commands completes, with its effect: `start`, `warmStart`, `railOutOfRange`, `fltRestart`, `autoWarmStart`. -/
def Obligations.StartsAndHolds : Prop :=
  ((∀ (b : BootInputs) (s : State), s.phase = .off →
    (∃ t, exec (.start b) s = .next t ∧
      (t.phase = .halted ∨ (t.phase = .running ∧ t.get SYS_BOOT_STAGE = 11))) ∧
    (b.otpOk = false → ∃ t, exec (.start b) s = .next t ∧ t.phase = .halted ∧ t.get SYS_BOOT_ERR = 1) ∧
    (b.otpOk = true → bits b.straps 3 1 = 1 →
      ∃ t, exec (.start b) s = .next t ∧ t.phase = .halted ∧ t.get SYS_BOOT_ERR = 7)) ∧
  (∀ (b : BootInputs) (s : State), s.phase = .held → s.pwr.tripped = false →
    (∃ t, exec (.warmStart b) s = .next t ∧
      (t.phase = .halted ∨ (t.phase = .running ∧ t.get SYS_BOOT_STAGE = 11))) ∧
    (b.otpOk = false → ∃ t, exec (.warmStart b) s = .next t ∧ t.phase = .halted ∧ t.get SYS_BOOT_ERR = 1))) ∧
  ((∀ s : State, ∃ t, exec .railOutOfRange s = .next t ∧ t.phase = .off ∧ t.mem = [] ∧ ∀ f i j, t.get f i j = fldReset f i) ∧
  (∀ s : State, s.phase = .running → s.on PWR_STATE_FLUSH_ACTIVE = false →
    ∃ t, exec .fltRestart s = .next t ∧ t.phase = .held ∧ t.mem = [] ∧ ∀ c ∈ t.regs, keptCell c = true) ∧
  (∀ s : State, s.phase = .running → s.on PWR_STATE_FLUSH_ACTIVE = false → s.on FLT_FATAL_ACTIVE = true →
    s.get FLT_FATAL_AUTO_S ≠ 0 →
    (∀ t, s.flt.fatalUs = some t → t + 1000000 * s.get FLT_FATAL_AUTO_S ≤ s.timeUs) → s.flt.fatalUs.isSome = true →
    ∃ t, exec .autoWarmStart s = .next t ∧ t.phase = .held ∧ t.mem = [] ∧ ∀ c ∈ t.regs, keptCell c = true))

/-! ## The TAP -/

/-- The TAP follows IEEE 1149.1 (R448), in every phase of the device: a TCK edge takes the controller to the state that TMS
chooses; the data register shifts from TDI; IDCODE captures 0x188402A7, and BYPASS, like every code that names no instruction, a
single 0; TRST_N takes the controller to Test-Logic-Reset with IDCODE chosen and TDO released. No register and no byte of memory
changes.

States that each of these commands completes, with its effect: `tckRisingEdge`, `trstNAssert`. -/
def Obligations.TapController : Prop :=
  (∀ (tms tdi : Bool) (pins : List Bool) (s : State),
    ∃ t, exec (.tckRisingEdge tms tdi pins) s = .next t ∧ t.tap.st = tapNext s.tap.st tms ∧ OnlyFields [] s t ∧ t.mem = s.mem ∧
      (s.tap.st = .shiftDr → t.tap.drShift = tdi :: s.tap.drShift.dropLast) ∧
      (s.tap.st = .captureDr → s.tap.ir = 0x01 → t.tap.drShift = tapBits 32 0x188402A7) ∧
      (s.tap.st = .captureDr → s.tap.ir = 0xFF ∨ 0x0A ≤ s.tap.ir → t.tap.drShift = [false]) ∧
      (t.tap.st ≠ .shiftDr → t.tap.st ≠ .shiftIr → t.tap.tdo = none)) ∧
  (∀ s : State, ∃ t, exec .trstNAssert s = .next t ∧ t.tap.st = .reset ∧ t.tap.ir = 0x01 ∧ t.tap.tdo = none ∧
    OnlyFields [] s t ∧ t.mem = s.mem)

/-! ## HIF: links, resets, functions, host messages -/

/-- HIF_CTRL.ENABLE, a trained link, and the events that take a link down (R188, R191, R199, R21): the configuration is refused
with CFG_ERR where a link asks for more virtual functions or the links for more vectors than exist; else the physical function
of every enabled link is present. A trained link reports its rate within RATE_LIMIT; a link that is up keeps its width. A Hot Reset,
an unexpected link down, and the loss of the port's reference clock in SRIS mode leave the link not up.

PERST_N of a port (R191): asserted, the port's links are held and not up; deasserted, they may train, and the time from which
configuration requests are answered is within 20 ms.

States that each of these commands completes, with its effect: `hifEnable`, `linkUp`, `hotReset`, `linkDown`, `refclkPLoss`,
`perstNAssert`, `perstNDeassert`. -/
def Obligations.LinksAndPins : Prop :=
  ((∀ s : State, s.live = true → s.on HIF_CTRL_ENABLE = false →
    (131072 < vectorSum s ∨ (∃ l, l < 8 ∧ linkEnabled s l = true ∧ vfLimit s l < s.get HIF_LINKl_CFG_TOTAL_VFS l) →
      ∃ t, exec .hifEnable s = .next t ∧ t.get HIF_STATUS_CFG_ERR = 1 ∧ OnlyFields [HIF_STATUS_CFG_ERR] s t) ∧
    (vectorSum s ≤ 131072 → (∀ l, l < 8 → linkEnabled s l = true → s.get HIF_LINKl_CFG_TOTAL_VFS l ≤ vfLimit s l) →
      ∃ t, exec .hifEnable s = .next t ∧ t.get HIF_CTRL_ENABLE = 1 ∧
        (∀ l, l < 8 → linkEnabled s l = true → t.get HIF_FNf_STATE_PRESENT (pfOf l) = 1) ∧
        OnlyFields [HIF_CTRL_ENABLE, HIF_FNf_STATE_PRESENT] s t)) ∧
  (∀ (l : Nat) (p : LinkParams) (s : State), s.live = true → l < 8 → linkEnabled s l = true → s.on HIF_CTRL_ENABLE = true →
    s.on HIF_LINKl_STATUS_UP l = false → s.hif.perst.contains (l / 2) = false → widthOk s l p.width = true → p.rate ≤ 6 →
    ∃ t, exec (.linkUp l p) s = .next t ∧ t.get HIF_LINKl_STATUS_UP l = 1 ∧
      t.get HIF_LINKl_STATUS_RATE l = min p.rate (s.get HIF_PORTp_CFG_RATE_LIMIT (l / 2)) ∧
      t.get HIF_LINKl_STATUS_WIDTH l = p.width ∧
      (min p.rate (s.get HIF_PORTp_CFG_RATE_LIMIT (l / 2)) < 3 → t.get HIF_STATUS_SLOW_LINK = 1) ∧
      OnlyFields [HIF_LINKl_STATUS_UP, HIF_LINKl_STATUS_RATE, HIF_LINKl_STATUS_WIDTH, HIF_LINKl_STATUS_FLIT,
        HIF_LINKl_STATUS_REVERSED, HIF_LINKl_STATUS_POLARITY, HIF_LINKl_STATUS_SRIS, HIF_STATUS_SLOW_LINK] s t) ∧
  (∀ (l : Nat) (p : LinkParams) (s : State), s.live = true → s.on HIF_LINKl_STATUS_UP l = true →
    ∃ t, exec (.linkUp l p) s = .next t ∧ OnlyFields [] s t) ∧
  (∀ (l : Nat) (s : State), s.live = true → l < 8 → linkEnabled s l = true → s.on HIF_CTRL_ENABLE = true →
    (∃ t, exec (.hotReset l) s = .next t ∧ t.get HIF_LINKl_STATUS_UP l = 0) ∧
    (s.on HIF_LINKl_STATUS_UP l = true →
      ∃ t, exec (.linkDown l) s = .next t ∧ t.get HIF_LINKl_STATUS_UP l = 0 ∧ t.get HIF_STATUS_LINK_DOWN = 1)) ∧
  (∀ (p : Nat) (s : State), s.live = true → p < 4 → linkEnabled s (2 * p) = true → s.on HIF_CTRL_ENABLE = true →
    s.on HIF_LINKl_STATUS_UP (2 * p + 1) = false → s.on HIF_LINKl_STATUS_UP (2 * p) = true →
    (s.on HIF_PORTp_CFG_SRIS p = true → ∃ t, exec (.refclkPLoss p) s = .next t ∧ t.get HIF_LINKl_STATUS_UP (2 * p) = 0 ∧
      t.get HIF_STATUS_LINK_DOWN = 1) ∧
    (s.on HIF_PORTp_CFG_SRIS p = false → ∃ t, exec (.refclkPLoss p) s = .next t ∧ Within ⟨[], []⟩ s t))) ∧
  (∀ (p : Nat) (s : State), s.live = true → p < 4 →
    (∃ t, exec (.perstNAssert p) s = .next t ∧ t.hif.perst.contains p = true ∧
      (s.on HIF_CTRL_ENABLE = true → linkEnabled s (2 * p) = true → t.get HIF_LINKl_STATUS_UP (2 * p) = 0)) ∧
    (∃ t d, exec (.perstNDeassert p) s = .next t ∧ t.hif.perst.contains p = false ∧
      tget t.hif.perstUs p = some (s.timeUs + d) ∧ d ≤ 20000 ∧ OnlyFields [] s t))

/-- Function Level Reset (R210): at its start HIF_STATUS.FLR is set and FLR_BUSY reads 1; at its end the function is present with
FLR_BUSY 0 and its registers at their reset values, so its controller is disabled and its message mask, Bus Master Enable and
power state are those of reset.

VF Enable of a link's physical function (R193): set, every virtual function within NumVFs appears; cleared, VF Enable reads 0.

D3hot and D0 of a physical function (R195): its power state and nothing else changes. Bus Master Enable cleared pauses the
function and changes nothing else; set, with nothing waiting, it ends the pause (R209).

States that each of these commands completes, with its effect: `initiateFunctionLevelReset`, `functionLevelResetDone`, `vfEnableSet`,
`vfEnableClear`, `d3hotEntry`, `d0Return`, `busMasterEnableClear`, `busMasterEnableSet`. -/
def Obligations.FunctionResets : Prop :=
  ((∀ (f : Nat) (s : State), s.live = true → fnPresent s f = true → s.on HIF_FNf_STATE_FLR_BUSY f = false →
    ∃ t, exec (.initiateFunctionLevelReset f) s = .next t ∧ t.get HIF_FNf_STATE_FLR_BUSY f = 1 ∧ t.get HIF_STATUS_FLR = 1) ∧
  (∀ (f : Nat) (s : State), s.live = true → f < 256 → s.on HIF_FNf_STATE_FLR_BUSY f = true →
    ∃ t, exec (.functionLevelResetDone f) s = .next t ∧ t.get HIF_FNf_STATE_FLR_BUSY f = 0 ∧ t.get HIF_FNf_STATE_PRESENT f = 1 ∧
      t.get NVME_CC_EN f = 0 ∧ t.get NVME_CSTS_RDY f = 0 ∧ t.get HIF_FNf_STATE_BME f = 0 ∧ t.get CFG_PMCSR_STATE f = 0)) ∧
  (∀ (l : Nat) (s : State), s.live = true → l < 8 → linkEnabled s l = true →
    (fnPresent s (pfOf l) = true → s.on CFG_SRIOV_CTL_VFE (pfOf l) = false →
      ∃ t, exec (.vfEnableSet l) s = .next t ∧ t.get CFG_SRIOV_CTL_VFE (pfOf l) = 1 ∧
        (∀ f, f ∈ (linkFns s l).drop 1 → vfExists t f = true → t.get HIF_FNf_STATE_PRESENT f = 1) ∧
        ((∀ f, f ∈ (linkFns s l).drop 1 → fnPresent s f = false) →
          OnlyFields [CFG_SRIOV_CTL_VFE, HIF_FNf_STATE_PRESENT, HIF_FNf_STATE_MSE] s t)) ∧
    (s.on CFG_SRIOV_CTL_VFE (pfOf l) = true →
      ∃ t, exec (.vfEnableClear l) s = .next t ∧ t.get CFG_SRIOV_CTL_VFE (pfOf l) = 0)) ∧
  ((∀ (f : Nat) (s : State), s.live = true → fnPresent s f = true → isPf s f = true →
    (∃ t, exec (.d3hotEntry f) s = .next t ∧ t.get CFG_PMCSR_STATE f = 3 ∧ t.get HIF_FNf_STATE_D3HOT f = 1 ∧
      OnlyFields [CFG_PMCSR_STATE, HIF_FNf_STATE_D3HOT] s t) ∧
    (∃ t, exec (.d0Return f) s = .next t ∧ t.get CFG_PMCSR_STATE f = 0 ∧ t.get HIF_FNf_STATE_D3HOT f = 0 ∧
      OnlyFields [CFG_PMCSR_STATE, HIF_FNf_STATE_D3HOT] s t)) ∧
  (∀ (f : Nat) (s : State), s.live = true → fnPresent s f = true → bme s f = true →
    ∃ t, exec (.busMasterEnableClear f) s = .next t ∧ t.get HIF_FNf_STATE_BME f = 0 ∧ t.get HIF_FNf_STATE_PAUSED f = 1 ∧
      OnlyFields [HIF_FNf_STATE_BME, HIF_FNf_STATE_PAUSED, CFG_COMMAND_BME] s t ∧ t.out = s.out) ∧
  (∀ (f : Nat) (s : State), s.live = true → fnPresent s f = false ∨ bme s f = false →
    ∃ t, exec (.busMasterEnableClear f) s = .next t ∧ Within ⟨[], []⟩ s t) ∧
  (∀ (f : Nat) (s : State), s.live = true → fnPresent s f = false →
    ∃ t, exec (.busMasterEnableSet f) s = .next t ∧ Within ⟨[], []⟩ s t) ∧
  (∀ (f : Nat) (s : State), s.live = true → fnPresent s f = true → s.hif.reqWait = [] →
    (∀ x ∈ s.hif.held, ∀ r, reqOf s x.link x.tag = some r → r.f ≠ f) → (∀ x ∈ s.cmd.cqs, x.1 / 65536 = f → x.2.wait = []) →
    ∃ t, exec (.busMasterEnableSet f) s = .next t ∧ t.get HIF_FNf_STATE_BME f = 1 ∧ t.get HIF_FNf_STATE_PAUSED f = 0))

/-- A vector's mask cleared sends its pending message, once, when neither the function mask nor Bus Master Enable holds it back
(R200).

Errors of received TLPs and DLLPs, completions and their timeouts (R205 to R207, R211): a Receiver Error sets its correctable
status bit, a Malformed TLP its uncorrectable one, with the header of the first error; part of a request's data is kept with the
request; a completion that no request waits for sets UNEXP_CPL; a timeout, once the request's time has passed, sets CTO; the end of a
quarantine frees the tag.

States that each of these commands completes, with its effect: `msixUnmask`, `malformedTlp`, `completionReceived`, `completionTimeout`,
`quarantineEnd`. -/
def Obligations.VectorsCompletionsErrors : Prop :=
  (∀ (f v : Nat) (s : State), s.live = true → fnPresent s f = true → v < vecCount s f →
    (s.on VEC_PBA_P f v = true → s.on CFG_MSIX_FMASK f = false → bme s f = true →
      ∃ t, exec (.msixUnmask f v) s = .next t ∧ t.out = s.out ++ [.msix f v (s.get VEC_ADDR_V f v) (s.get VEC_DATA_V f v)] ∧ t.get VEC_PBA_P f v = 0 ∧
        t.get VEC_CTRL_MASK f v = 0 ∧ OnlyFields [VEC_CTRL_MASK, VEC_PBA_P] s t) ∧
    (s.on VEC_PBA_P f v = false ∨ s.on CFG_MSIX_FMASK f = true ∨ bme s f = false →
      ∃ t, exec (.msixUnmask f v) s = .next t ∧ t.out = s.out ∧ t.get VEC_CTRL_MASK f v = 0 ∧ OnlyFields [VEC_CTRL_MASK] s t)) ∧
  ((∀ (l h : Nat) (s : State), s.live = true → l < 8 → s.on HIF_LINKl_STATUS_UP l = true →
    (∃ t, exec (.malformedTlp l 0 h) s = .next t ∧ bits (t.get CFG_AER_COR_STS (pfOf l)) 0 1 = 1) ∧
    (∃ t, exec (.malformedTlp l 8 h) s = .next t ∧ bits (t.get CFG_AER_UNC_STS (pfOf l)) 18 1 = 1 ∧
      (s.get CFG_AER_UNC_STS (pfOf l) = 0 → t.get CFG_AER_CAP_FIRST (pfOf l) = 18 ∧
        t.get CFG_AER_HDR_V (pfOf l) = h % 2 ^ CFG_AER_HDR_V.width))) ∧
  (∀ (c : CplTlp) (r : Req) (s : State), s.live = true → reqOf s c.link c.tag = some r → bme s r.f = true → c.ep = false →
    c.ecrcBad = false → r.got.length + c.data.length < r.len →
    ∃ t, exec (.completionReceived c) s = .next t ∧
      t.hif.reqs = s.hif.reqs.map (fun x => if x.link = r.link ∧ x.tag = r.tag then { x with got := r.got ++ c.data } else x) ∧
      OnlyFields [] s t) ∧
  (∀ (c : CplTlp) (s : State), s.live = true → reqOf s c.link c.tag = none →
    (s.hif.quar.any fun q => q.link = c.link && q.tag = c.tag && q.silent) = false →
    ∃ t, exec (.completionReceived c) s = .next t ∧ t.get HIF_STATUS_UNEXP_CPL = 1 ∧ t.hif = s.hif) ∧
  (∀ (l tag : Nat) (r : Req) (s : State), s.live = true → reqOf s l tag = some r → s.on CFG_DEVCTL2_CTOD r.f = false →
    allHere s r = false → r.sentUs + ctoUs s r.f ≤ s.timeUs → ∃ t, exec (.completionTimeout l tag) s = .next t ∧ t.get HIF_STATUS_CTO = 1) ∧
  (∀ (l tag : Nat) (s : State), s.live = true → s.hif.reqWait = [] →
    ∃ t, exec (.quarantineEnd l tag) s = .next t ∧ t.hif.quar = s.hif.quar.filter (fun q =>
      !(q.link = l && q.tag = tag && decide (q.endUs ≤ s.timeUs)))))

/-! ## CMD: controllers, doorbells, fetch, locks, the firmware ring -/

/-- CC.EN written 1 to a disabled controller whose BAR0 takes the write (R214, R58): with a supported command set, page size and
arbitration, and aligned admin queue bases, the controller is enabled with empty admin queues and ready; with another command
set it is in CSTS.CFS.

CC.EN written 0 (R236): EN, RDY, CFS and SHST read 0; a slot that waits for activation begins it (R365).

CC.SHN written and the end of a shutdown (R237): SHST reads 01b from the write, and 10b when nothing is left to program and the
journal is closed.

States that each of these commands completes, with its effect: `ccEnable`, `controllerReset`, `normalShutdown`, `abruptShutdown`,
`shutdownComplete`. -/
def Obligations.ControllerLife : Prop :=
  (∀ (f cc : Nat) (s : State), s.live = true → f < 256 → memOk s f 0x14 = true → s.on NVME_CC_EN f = false →
    (s.phase = .running → s.on MAP_CTRL_REPLAY = false → s.on FLT_FATAL_ACTIVE = false → bits cc 4 3 = 0 → bits cc 7 4 ≤ 4 →
      bits cc 11 3 ≤ 1 → s.get NVME_ASQ_BASE f % 2 ^ (12 + bits cc 7 4) = 0 → s.get NVME_ACQ_BASE f % 2 ^ (12 + bits cc 7 4) = 0 →
      ∃ t, exec (.ccEnable f cc) s = .next t ∧ t.get NVME_CC_EN f = 1 ∧ t.get NVME_CSTS_RDY f = 1 ∧
        (∃ q, sqOf t f 0 = some q ∧ q.base = s.get NVME_ASQ_BASE f ∧ q.size = s.get NVME_AQA_ASQS f + 1 ∧ q.head = 0 ∧ q.tail = 0) ∧
        (∃ q, cqOf t f 0 = some q ∧ q.base = s.get NVME_ACQ_BASE f ∧ q.size = s.get NVME_AQA_ACQS f + 1 ∧ q.head = 0 ∧ q.tail = 0 ∧
          q.phase = true ∧ q.wait = [])) ∧
    (bits cc 4 3 ≠ 0 → ∃ t, exec (.ccEnable f cc) s = .next t ∧ t.get NVME_CSTS_CFS f = 1 ∧ t.get CMD_STATUS_CFS = 1)) ∧
  (∀ (f : Nat) (s : State), s.live = true → f < 256 → memOk s f 0x14 = true → s.on NVME_CC_EN f = true → s.phase = .running →
    ∃ t, exec (.controllerReset f) s = .next t ∧ t.get NVME_CC_EN f = 0 ∧ t.get NVME_CSTS_RDY f = 0 ∧ t.get NVME_CSTS_CFS f = 0 ∧
      t.get NVME_CSTS_SHST f = 0 ∧
      (∀ n, pendingSlot s = some n → s.fw.activating = none → t.get CMD_ACT_CTL_PAUSE = 1 ∧ (∃ a, t.fw.activating = some a ∧ a.ctx = none ∧ a.slot = n))) ∧
  ((∀ (f : Nat) (s : State), s.live = true → f < 256 → memOk s f 0x14 = true → s.on NVME_CC_EN f = true →
    s.get NVME_CSTS_SHST f = 0 →
    (∃ t, exec (.normalShutdown f) s = .next t ∧ t.get NVME_CSTS_SHST f = 1 ∧ t.get NVME_CC_SHN f = 1) ∧
    (∃ t, exec (.abruptShutdown f) s = .next t ∧ t.get NVME_CSTS_SHST f = 1 ∧ t.get NVME_CC_SHN f = 2)) ∧
  (∀ (f : Nat) (s : State), s.live = true → f < 256 → s.get NVME_CSTS_SHST f = 1 → stagedDone s f = true →
    s.on PWR_STATE_FLUSH_ACTIVE = false → s.map.page = none → s.map.closed = [] →
    lastShutdown s f = false ∨ (s.map.shutSeq ≠ 0 ∧ s.map.shutSeq = s.map.lastClosed) ∨ s.on MAP_CTRL_ENABLE = false →
    ∃ t, exec (.shutdownComplete f) s = .next t ∧ t.get NVME_CSTS_SHST f = 2))

/-- Doorbells (R217): a valid tail or head is stored with its queue and changes no register but the effective power state; a
value past the queue's end, or a doorbell of no queue, sets BAD_DB and leaves every queue; a write that the function does not take is
an Unsupported Request, logged, and leaves every queue (R195, R198, R211; which function logs it: log entry 107).

One choice of fetch (R218, R220): the entries for which contexts are free are under fetch from the queue that arbitration
chooses. While CMD is disabled, paused, or stopped by a flush, nothing is fetched.

Submission entries arrived (R219, R222, R235): a Flush of all namespaces takes its context, the next place in registration
order and runs in CMD; the queue's head moves past it. An entry of an opcode that the 8840 does not know ends its command with
Invalid Command Opcode.

States that each of these commands completes, with its effect: `sqTailDoorbell`, `cqHeadDoorbell`, `submissionFetch`,
`submissionEntriesArrive`. -/
def Obligations.QueuesAndEntries : Prop :=
  (∀ (f q v : Nat) (s : State), s.live = true →
    (memOk s f (0x1000 + 8 * q) = true →
      (∀ x, sqOf s f q = some x → v < x.size →
        ∃ t, exec (.sqTailDoorbell f q v) s = .next t ∧ sqOf t f q = some { x with tail := v } ∧ OnlyFields [PWR_STATE_PS] s t) ∧
      (sqOf s f q = none ∨ (∃ x, sqOf s f q = some x ∧ x.size ≤ v) →
        ∃ t, exec (.sqTailDoorbell f q v) s = .next t ∧ t.get CMD_STATUS_BAD_DB = 1 ∧ t.cmd = s.cmd ∧
          OnlyFields [CMD_STATUS_BAD_DB, CMD_CNTn_COUNT] s t)) ∧
    (memOk s f (0x1004 + 8 * q) = true →
      (∀ x, cqOf s f q = some x → v < x.size → (v + x.size - x.head) % x.size ≤ cqUsed x →
        ∃ t, exec (.cqHeadDoorbell f q v) s = .next t ∧ cqOf t f q = some { x with head := v } ∧ OnlyFields [] s t) ∧
      (cqOf s f q = none ∨ (∃ x, cqOf s f q = some x ∧ x.size ≤ v) →
        ∃ t, exec (.cqHeadDoorbell f q v) s = .next t ∧ t.get CMD_STATUS_BAD_DB = 1 ∧ t.cmd = s.cmd ∧
          OnlyFields [CMD_STATUS_BAD_DB, CMD_CNTn_COUNT] s t)) ∧
    (memOk s f (0x1000 + 8 * q) = false → ∃ t, exec (.sqTailDoorbell f q v) s = .next t ∧ t.cmd = s.cmd ∧
      t.get CFG_DEVCTL_URD (errFn s f) = 1 ∧ bits (t.get CFG_AER_UNC_STS (errFn s f)) 20 1 = 1) ∧
    (memOk s f (0x1004 + 8 * q) = false → ∃ t, exec (.cqHeadDoorbell f q v) s = .next t ∧ t.cmd = s.cmd ∧
      t.get CFG_DEVCTL_URD (errFn s f) = 1 ∧ bits (t.get CFG_AER_UNC_STS (errFn s f)) 20 1 = 1)) ∧
  ((∀ s : State, s.live = true → s.on CMD_CTRL_ENABLE = false ∨ s.cmd.paused = true ∨ s.cmd.flushStop = true →
    ∃ t, exec .submissionFetch s = .next t ∧ Within ⟨[], []⟩ s t) ∧
  (∀ (s s1 s2 : State) (f q : Nat) (x : Sq) (a : Arb) (l : List Nat), s.live = true → s.on CMD_CTRL_ENABLE = true →
    s.cmd.paused = false → s.cmd.flushStop = false → pickFn s = (some f, s1) → pickQueue s1 f = some ((q, x), a) →
    takeContexts s1 f q x.cq (min (min (min 8 (maxRead s1 f / 64)) (sqWaitingEntries x)) (min (x.size - (x.head + x.inFetch) % max x.size 1)
      (min (if q = 0 then 8 else a.turnLeft) (max 1 (tgetD s1.cmd.deficit f 0))))) = (l, s2) → l ≠ [] →
    ∃ t, exec .submissionFetch s = .next t ∧ sqOf t f q = some { x with inFetch := x.inFetch + l.length })) ∧
  (∀ (l tag c q first : Nat) (r : Req) (x : Ctx) (z : Sq) (e : Sqe) (s : State), s.live = true → reqOf s l tag = some r →
    r.kind = .sqe q first [c] → bme s r.f = true → s.hif.reqWait = [] → s.cmd.ctxs = [(c, x)] → x.f = r.f → x.sq = q → q ≠ 0 →
    x.stage = .fetching → x.tunnel = none → x.recA = none → x.recB = none → sqOf s r.f q = some z → z.fence = none →
    z.deleting = none → e.fuse = 0 →
    (e.opcode = 0 → e.nsid = 0xFFFFFFFF → s.fw.san = none → s.fw.failed = none → s.on HBM_CEIL_VWC = false →
      ∃ t, exec (.submissionEntriesArrive l tag [e]) s = .next t ∧
        (∃ y, ctxOf t c = some y ∧ y.stage = .running ∧ y.sqe = e ∧ y.seq = s.cmd.seq) ∧
        (∃ w, sqOf t r.f q = some w ∧ w.head = (z.head + 1) % max z.size 1 ∧ w.inFetch = z.inFetch - 1)) ∧
    (e.opcode = 3 →
      ∃ t, exec (.submissionEntriesArrive l tag [e]) s = .next t ∧ Ended t c stInvalidOpcode 0))

/-- Commit (R221, R223, R227): a Flush, Verify or Write with nothing left to wait for has its status final; its records are
released and its entry waits for its place in the completion queue.

A Read of a namespace without metadata sends its data to the host (R202, R208): each TLP has EP set where the words of buffer SRAM
that hold its data fail the SRAM check; the command then ends with Data Transfer Error and UE is set (R299), else with success. Where
the data stand in buffer SRAM is the model's choice (log entry 112).

Posting (R203, R221 to R224): the oldest waiting entry is written at the queue's next slot with its phase tag, the slot
advances, and the context is free again. The coalescing time over since the first entry that the
vector has not signalled sends its message.

The firmware ring (R222): taking entries moves HEAD, and every command between the old and the new HEAD is taken; a GO of
CMD_FWCPL for a taken command makes its status final with the values of its registers, and for a context that no firmware command
holds ends with BAD_ARG.

States that each of these commands completes, with its effect: `commit`, `completionPost`, `interruptCoalescingTimer`, `firmwareRingTake`,
`fwcplGo`. -/
def Obligations.CommitsAndRing : Prop :=
  ((∀ (c : Nat) (x : Ctx) (q : Cq) (s : State), s.live = true → ctxOf s c = some x → x.stage = .running → x.started = true →
    x.sq ≠ 0 → bme s x.f = true → x.left = 0 → x.err = 0 → x.waitDur = false → x.tunnel = none → cqOf s x.f x.cq = some q →
    x.sqe.opcode = 0 ∨ (x.sqe.opcode = 1 ∧ x.staged = true) ∨ (x.sqe.opcode = 0x0C ∧ mdBytes (nsFmt s (cmdNs x)) = 0) →
    ∃ t, exec (.commit c) s = .next t ∧
      ctxOf t c = some { x with stage := .committed, err := 0, dw0 := 0, dw1 := 0, recA := none, recB := none } ∧
      cqOf t x.f x.cq = some { q with wait := q.wait ++ [⟨c, x.sq, sqHead s x.f x.sq, x.sqe.cid, 0, 0, 0⟩] }) ∧
  (∀ (c : Nat) (x : Ctx) (q : Cq) (d : List Byte) (s : State), s.live = true → ctxOf s c = some x → x.stage = .running →
    x.started = true → x.sq ≠ 0 → bme s x.f = true → x.left = 0 → x.err = 0 → x.tunnel = none → cqOf s x.f x.cq = some q →
    x.sqe.opcode = 2 → dmaReady x = true → mdBytes (nsFmt s (cmdNs x)) = 0 → d = (readBlocks s x).flatMap Prod.fst →
    ∃ t, exec (.commit c) s = .next t ∧
      t.out = (writeChecked (fun off n => decide (portBad s c off n ≠ [])) s x.f 0 (cutRanges x.dma 0 d.length) d).out ∧
      (portBad s c 0 d.length = [] → Ended t c 0 0) ∧
      (portBad s c 0 d.length ≠ [] → Ended t c stDataTransfer 0 ∧ t.get BPM_STATUS_UE = 1))) ∧
  ((∀ (f q : Nat) (x : Cq) (e : Cpl) (r : List Cpl) (y : Ctx) (s : State), s.live = true → cqOf s f q = some x → x.wait = e :: r →
    bme s f = true → cqUsed x + 1 < x.size → ctxOf s e.ctx = some y → y.left = 0 →
    (∀ z, sqOf s f e.sq = some z → z.deleting = none) →
    ∃ t, exec (.completionPost f q) s = .next t ∧ ctxOf t e.ctx = none ∧
      (∃ more, t.out = s.out ++ .memWrite f (x.base + 16 * x.tail) (cqeBytes e x.phase) false false :: more) ∧
      cqOf t f q = some { x with wait := r
                                 tail := if x.size ≤ x.tail + 1 then 0 else x.tail + 1
                                 phase := if x.size ≤ x.tail + 1 then !x.phase else x.phase }) ∧
  (∀ (f q : Nat) (x : Cq) (y : Coal) (s : State), s.live = true → cqOf s f q = some x → tget s.cmd.coal (qkey f x.iv) = some y →
    y.firstUs + bits (feat s f 8 0) 8 8 * 100 ≤ s.timeUs →
    s.on CFG_MSIX_EN f = true → x.iv < vecCount s f → s.on VEC_PBA_P f x.iv = false → vecGated s f x.iv = false →
    ∃ t, exec (.interruptCoalescingTimer f q) s = .next t ∧
      t.out = s.out ++ [.msix f x.iv (s.get VEC_ADDR_V f x.iv) (s.get VEC_DATA_V f x.iv)] ∧
      tget t.cmd.coal (qkey f x.iv) = none ∧ OnlyFields [] s t)) ∧
  ((∀ (head c i : Nat) (x : Ctx) (s : State), s.live = true → s.on CMD_FWQ_CFG_ENABLE = true → head < ringEntries s →
    (head + ringEntries s - s.get CMD_FWQ_HEAD_INDEX) % ringEntries s
      ≤ (s.get CMD_FWQ_TAIL_INDEX + ringEntries s - s.get CMD_FWQ_HEAD_INDEX) % ringEntries s →
    ∃ t, exec (.firmwareRingTake head) s = .next t ∧ t.get CMD_FWQ_HEAD_INDEX = head % 2 ^ CMD_FWQ_HEAD_INDEX.width ∧
      OnlyFields [CMD_FWQ_HEAD_INDEX] s t ∧ t.mem = s.mem ∧
      (ctxOf s c = some x → x.stage = .ringed i →
        (i + ringEntries s - s.get CMD_FWQ_HEAD_INDEX) % ringEntries s
          < (head + ringEntries s - s.get CMD_FWQ_HEAD_INDEX) % ringEntries s → ctxOf t c = some { x with stage := .taken })) ∧
  (∀ (x : Ctx) (s : State), s.live = true →
    (ctxOf s (s.get CMD_FWCPL_CTL_CTX) = some x → x.stage = .taken → x.tunnel = none →
      ∃ t, exec .fwcplGo s = .next t ∧ Posted t (s.get CMD_FWCPL_CTL_CTX) (s.get CMD_FWCPL_STS_SF) (s.get CMD_FWCPL_DW0_V)) ∧
    (ctxOf s (s.get CMD_FWCPL_CTL_CTX) = none →
      ∃ t, exec .fwcplGo s = .next t ∧ t.get CMD_FWCPL_CTL_RESULT = 4 ∧ t.get CMD_FWCPL_CTL_DONE = 1)))

/-- A grant (R227): where no earlier record conflicts, the record is granted; a command of CMD whose only record it is runs.

Lock slots (R240): an ACQUIRE of record A for a taken command that nothing conflicts with ends with RESULT 0 and its record
granted; RELEASE takes the record away; CANCEL of a waiting ACQUIRE ends with RESULT 1 and withdraws its record.

CMD_CTRL.ENABLE with shares that fit, and the pause of fetch for an activation (R220, R238, R239): PAUSE sets Processing Paused
of every present controller; DRAINED reads 1 once nothing is being fetched or executed; RESUME clears both, and switches to the slot of
an activation whose drain is complete (R364).

States that each of these commands completes, with its effect: `lockGrant`, `acquire`, `release`, `cancel`, `cmdEnable`, `pause`,
`drained`, `resume`. -/
def Obligations.LocksAndPause : Prop :=
  (∀ (c : Nat) (x : Ctx) (r : LockRec) (s : State), s.live = true → ctxOf s c = some x → x.stage = .waiting → x.recA = some r →
    x.recB = none → grantable s c r = true → s.cmd.acquires = [] → byCmd x = true →
    ∃ t, exec (.lockGrant c false) s = .next t ∧
      ctxOf t c = some { x with recA := some { r with granted := true }, stage := .running }) ∧
  ((∀ (n : Nat) (x : Ctx) (s : State), s.live = true → n < 16 → s.on CMD_CTRL_ENABLE = true → s.on CMD_LKn_CTL_GO n = false →
    (ctxOf s (s.get CMD_LKn_ARG0_CTX n) = some x → x.stage = .taken → x.recA = none → s.get CMD_LKn_ARG0_COUNT n ≤ 512 →
      s.on CMD_LKn_ARG0_REC n = false → s.on CMD_LKn_ARG2_VALID_B n = false → s.cmd.acquires = [] →
      (∀ y ∈ s.cmd.ctxs, y.1 ≠ s.get CMD_LKn_ARG0_CTX n → ctxRecs y.2 = []) →
      ∃ t, exec (.acquire n) s = .next t ∧ t.get CMD_LKn_CTL_RESULT n = 0 ∧ t.get CMD_LKn_CTL_DONE n = 1 ∧
        t.get CMD_LKn_CTL_GO n = 0 ∧
        ∃ y r, ctxOf t (s.get CMD_LKn_ARG0_CTX n) = some y ∧ y.recA = some r ∧ r.granted = true ∧ r.ns = s.get CMD_LKn_ARG0_NS n ∧
          r.first = s.get CMD_LKn_ARG1_FIRST n ∧ r.count = s.get CMD_LKn_ARG0_COUNT n + 1) ∧
    (ctxOf s (s.get CMD_LKn_ARG0_CTX n) = none →
      ∃ t, exec (.acquire n) s = .next t ∧ t.get CMD_LKn_CTL_RESULT n = 4 ∧ t.get CMD_LKn_CTL_DONE n = 1) ∧
    (ctxOf s (s.get CMD_LKn_ARG0_CTX n) = some x → s.on CMD_LKn_ARG0_REC n = false →
      ∃ t, exec (.release n) s = .next t ∧ t.get CMD_LKn_CTL_RESULT n = 0 ∧ t.get CMD_LKn_CTL_DONE n = 1 ∧
        ctxOf t (s.get CMD_LKn_ARG0_CTX n) = some { x with recA := none })) ∧
  (∀ (n c : Nat) (x : Ctx) (s : State), s.live = true → tget s.cmd.acquires n = some (c, false, false) → ctxOf s c = some x →
    ∃ t, exec (.cancel n) s = .next t ∧ t.get CMD_LKn_CTL_RESULT n = 1 ∧ t.get CMD_LKn_CTL_DONE n = 1 ∧
      ctxOf t c = some { x with recA := none } ∧ tget t.cmd.acquires n = none)) ∧
  ((∀ s : State, s.live = true → s.on CMD_CTRL_ENABLE = false →
    (cmdCfgOk s = true → ∃ t, exec .cmdEnable s = .next t ∧ t.get CMD_CTRL_ENABLE = 1 ∧ OnlyFields [CMD_CTRL_ENABLE] s t) ∧
    (cmdCfgOk s = false → ∃ t, exec .cmdEnable s = .next t ∧ t.get CMD_STATUS_CFG_ERR = 1 ∧ OnlyFields [CMD_STATUS_CFG_ERR] s t)) ∧
  (∀ s : State, s.live = true →
    (∃ t, exec .pause s = .next t ∧ t.get CMD_ACT_CTL_PAUSE = 1 ∧ t.cmd.paused = true ∧
      (∀ f, f < 256 → fnPresent s f = true → t.get NVME_CSTS_PP f = 1) ∧ OnlyFields [CMD_ACT_CTL_PAUSE, NVME_CSTS_PP] s t) ∧
    (s.on CMD_ACT_CTL_PAUSE = true → drainedNow s = true →
      ∃ t, exec .drained s = .next t ∧ t.get CMD_ACT_CTL_DRAINED = 1 ∧ t.get CMD_STATUS_ACT_DRAINED = 1) ∧
    (s.fw.activating = none →
      ∃ t, exec .resume s = .next t ∧ t.get CMD_ACT_CTL_PAUSE = 0 ∧ t.get CMD_ACT_CTL_DRAINED = 0 ∧ t.cmd.paused = false) ∧
    (∀ a, s.fw.activating = some a → s.on CMD_ACT_CTL_DRAINED = true →
      ∃ t, exec .resume s = .next t ∧ t.fw.activating = none ∧ t.fw.table.active = a.slot ∧ t.get CMD_ACT_CTL_PAUSE = 0 ∧
        t.cmd.paused = false)))

/-! ## NVM commands -/

/-- Reads of one sector, with the Burrow disabled (R12, R32, R88, R246): Read, Compare and Verify begin, and the zeros of a sector that
holds nothing are with the command; a Read of a staged sector has its staged data, one of a sector on media queues its sense on the
die, and one of a sector that is lost has the status Unrecovered Read Error.

States that each of these commands completes, with its effect: `read`, `compare`, `verify`. -/
def Obligations.SectorReads : Prop :=
  ∀ (c op : Nat) (x : Ctx) (s : State), s.live = true → Ready s c x op → cmdSectors s x = 1 → s.on BUR_CTRL_ENABLE = false →
    s.bur.fills = [] → x.tunnel = none →
    (op = 2 → translate s (secRun s (cmdNs x) (secBase s x)) (secQ (secBase s x)) false = .zeros →
      ∃ t, exec (.read c) s = .next t ∧
        ∃ y, ctxOf t c = some y ∧ y.started = true ∧ y.left = x.left ∧ tget y.got 0 = some (zeroSector (nsFmt s (cmdNs x)))) ∧
    (∀ i d m, op = 2 → translate s (secRun s (cmdNs x) (secBase s x)) (secQ (secBase s x)) false = .staging i →
      readBytes s (stgAddr s i) 4096 = some d → readBytes s (stgMeta s i) 64 = some m →
      ∃ t, exec (.read c) s = .next t ∧
        ∃ y, ctxOf t c = some y ∧ y.started = true ∧ y.left = x.left ∧ tget y.got 0 = some (d ++ m)) ∧
    (∀ a kg row, op = 2 → translate s (secRun s (cmdNs x) (secBase s x)) (secQ (secBase s x)) false = .media a kg row →
      dieState s (mediaDie a) = 1 → s.on CDC_RA_CFG_ENABLE = false → s.fch.flushing = false →
      ∃ t, exec (.read c) s = .next t ∧ (∃ y, ctxOf t c = some y ∧ y.started = true ∧ y.left = x.left + 1) ∧
        ∃ o ∈ (dieOf t (mediaDie a)).queue, o.media = a ∧ o.src = .host c 0 ∧ o.kind = .read ∧ o.cls = 1) ∧
    (op = 2 → x.err = 0 → translate s (secRun s (cmdNs x) (secBase s x)) (secQ (secBase s x)) false = .unrecovered →
      ∃ t, exec (.read c) s = .next t ∧
        ∃ y, ctxOf t c = some y ∧ y.started = true ∧ y.left = x.left ∧ y.err = stUnrecovered) ∧
    (op = 5 → translate s (secRun s (cmdNs x) (secBase s x)) (secQ (secBase s x)) false = .zeros →
      ∃ t, exec (.compare c) s = .next t ∧
        ∃ y, ctxOf t c = some y ∧ y.started = true ∧ tget y.got 0 = some (zeroSector (nsFmt s (cmdNs x)))) ∧
    (op = 0x0C → translate s (secRun s (cmdNs x) (secBase s x)) (secQ (secBase s x)) true = .zeros →
      ∃ t, exec (.verify c) s = .next t ∧
        ∃ y, ctxOf t c = some y ∧ y.started = true ∧ y.left = x.left ∧ tget y.got 0 = some (zeroSector (nsFmt s (cmdNs x))))

/-- Admission of writes (R169, R170, R268): a write that the ceiling and the free list take, with no write held that was fetched
before it, reserves one staging sector for each sector; one that they do not take is held, in fetch order, with CEIL_HIT; the held
write that was fetched first and waits for no key is admitted once they take it. A write of whole sectors is stated.

A merge (R168): once the merge read has ended and the host's data is here, the sector is the host's blocks over the merged
data. A merge read that failed ends the write with its status.

States that each of these commands completes, with its effect: `write`, `writeAdmission`, `partialSectorMerge`. -/
def Obligations.Writes : Prop :=
  ((∀ (c : Nat) (x : Ctx) (s : State), s.live = true → Ready s c x 1 → (writeHandle s x).isSome = true →
    (heldBefore s x.seq = false → mayAdmit s (cmdNs x) (cmdSectors s x) = true → nsLba4k s (cmdNs x) = true →
      ∃ t, exec (.write c) s = .next t ∧
        (∃ y, ctxOf t c = some y ∧ y.started = true ∧ y.stg = (takeSectors s.hbm.stgFree (cmdSectors s x)).1) ∧
        t.hbm.stgFree = (takeSectors s.hbm.stgFree (cmdSectors s x)).2 ∧ t.hbm.held = s.hbm.held ∧ t.mem = s.mem) ∧
    (heldBefore s x.seq = true ∨ mayAdmit s (cmdNs x) (cmdSectors s x) = false → (s.hbm.held.any fun h => h.ctx = c) = false →
      ∃ t, exec (.write c) s = .next t ∧ t.get HBM_STATUS_CEIL_HIT = 1 ∧ ctxOf t c = some { x with started := true } ∧
        t.hbm.held = (s.hbm.held.takeWhile fun h => decide (seqOf s h.ctx ≤ x.seq)) ++
          ⟨c, cmdSectors s x⟩ :: (s.hbm.held.dropWhile fun h => decide (seqOf s h.ctx ≤ x.seq)))) ∧
  (∀ (h : HeldWrite) (x : Ctx) (s : State), s.live = true → s.hbm.held.find? (fun h => !keyWait s h.ctx) = some h →
    ctxOf s h.ctx = some x → isIo x 1 = true → mayAdmit s (cmdNs x) h.sectors = true → nsLba4k s (cmdNs x) = true →
    ∃ t, exec .writeAdmission s = .next t ∧ t.hbm.held = s.hbm.held.filter (fun k => k.ctx ≠ h.ctx) ∧
      ∃ y, ctxOf t h.ctx = some y ∧ y.started = true ∧ y.stg = (takeSectors s.hbm.stgFree (cmdSectors s x)).1)) ∧
  (∀ (c k : Nat) (x : Ctx) (d : List Byte) (s : State), s.live = true → ctxOf s c = some x → isIo x 1 = true → x.stage = .running →
    x.staged = false →
    (x.err = 0 → tget x.merges k = some (some d) → dataHere s x = true →
      (tput x.got k (writeSector s x (hostBlocks s x) k d)).length ≠ cmdSectors s x →
      ∃ t, exec (.partialSectorMerge c k) s = .next t ∧
        ctxOf t c = some { x with got := tput x.got k (writeSector s x (hostBlocks s x) k d) } ∧ OnlyFields [] s t ∧ t.mem = s.mem) ∧
    (x.err ≠ 0 → x.left = 0 → bme s x.f = true → x.tunnel = none →
      ∃ t, exec (.partialSectorMerge c k) s = .next t ∧ Ended t c x.err 0))

/-- Flush and Fence begin, and a Fence commits when every earlier command of its queue has posted: fetch from its queue goes on
(R234, R235).

Abort (R231): one whose target is not there has nothing to stop, DW0 bit 0 is 1; a target before its commit point ends with
Command Abort Requested, and DW0 is 0.

States that each of these commands completes, with its effect: `flush`, `fence`, `fenceCommit`, `abort`. -/
def Obligations.FlushFenceAbort : Prop :=
  ((∀ (c : Nat) (x : Ctx) (s : State), s.live = true → Ready s c x 0 → s.map.page = none →
    ∃ t, exec (.flush c) s = .next t ∧ ctxOf t c = some { x with started := true } ∧ OnlyFields [] s t ∧ t.mem = s.mem) ∧
  (∀ (c : Nat) (x : Ctx) (q : Sq) (s : State), s.live = true → sqOf s x.f x.sq = some q →
    (Ready s c x 0x80 → ∃ t, exec (.fence c) s = .next t ∧ sqOf t x.f x.sq = some { q with fence := some c } ∧
      ctxOf t c = some { x with started := true, waitDur := bits x.sqe.cdw10 0 1 = 1 && flushWaits s } ∧ OnlyFields [] s t) ∧
    (ctxOf s c = some x → isIo x 0x80 = true → x.stage = .running → x.started = true → bme s x.f = true → x.fences = [] →
      x.waitDur = false → s.map.page = none → x.tunnel = none → q.fence = some c →
      ∃ t, exec (.fenceCommit c) s = .next t ∧ Ended t c 0 0 ∧ sqOf t x.f x.sq = some { q with fence := none }))) ∧
  (∀ (c : Nat) (x : Ctx) (s : State), s.live = true → ctxOf s c = some x → isAdmin x 8 = true → x.stage = .running →
    x.started = false → bme s x.f = true →
    (abortTarget s c x = none →
      ∃ t, exec (.abort c) s = .next t ∧ ctxOf t c = some { x with started := true, dw0 := 1, fences := [] }) ∧
    (∀ k y, abortTarget s c x = some (k, y) → ctxOf s k = some y → s.nvm.aers.contains k = false → isCommitted y = false →
      y.tunnel = none →
      ∃ t, exec (.abort c) s = .next t ∧ Ended t k stAbortRequested 0 ∧
        ∃ z, ctxOf t c = some z ∧ z.started = true ∧ z.dw0 = 0 ∧ z.fences = [k]))

/-- Write Zeroes and Write Uncorrectable of a range of 4 KiB blocks under its granted record (R247): the command completes, and
the map is that in which every run of the range is deallocated, or marked lost.

Dataset Management, while the Burrow is disabled (R248): one that deallocates nothing completes with no effect; one that
deallocates a range of 4 KiB blocks, under its granted record, leaves the map in which the range's runs are deallocated; a range outside
the namespace ends it with LBA Out of Range.

The last piece of a Copy whose source has been read and whose destination is whole sectors (R246): its sectors are staged and
the command completes.

States that each of these commands completes, with its effect: `writeZeroes`, `writeUncorrectable`, `datasetManagement`, `copy`. -/
def Obligations.RangeCommands : Prop :=
  (∀ (c : Nat) (x : Ctx) (r : LockRec) (k : SpanKind) (u : State) (s : State), s.live = true → nsLba4k s (cmdNs x) = true →
    x.recA = some r → r.granted = true → x.recB = none → x.dw1 = 0 → x.started = false → cmdNlb x ≤ 512 →
    markSpans s k (nsSpans s (cmdNs x) (cmdSlba x) (cmdSlba x + cmdNlb x)) = (u, true) → ctxOf u c = some x →
    writeWaits u { x with started := true } = false →
    (k = .dealloc → Taken s c x true 0x08 →
      ∃ t, exec (.writeZeroes c) s = .next t ∧ Posted t c 0 0 ∧ t.map = u.map ∧ t.mem = u.mem) ∧
    (k = .lost → Taken s c x true 0x04 →
      ∃ t, exec (.writeUncorrectable c) s = .next t ∧ Posted t c 0 0 ∧ t.map = u.map ∧ t.mem = u.mem)) ∧
  (∀ (c : Nat) (x : Ctx) (l : List DsmRange) (s : State), s.live = true → Taken s c x true 0x09 → x.recB = none →
    x.dw1 = 0 → x.started = false → x.sqe.cdw10 < 256 → s.on BUR_CTRL_ENABLE = false →
    (∀ (k : LockRec) (r : DsmRange) (u : State), x.recA = some k → k.granted = true → x.sqe.cdw11 = 4 → cmdRanges x l = [r] →
      nsLba4k s (cmdNs x) = true → r.len ≠ 0 → markSpans s .dealloc (nsSpans s (cmdNs x) r.slba (r.slba + r.len)) = (u, true) →
      ctxOf u c = some x → writeWaits u { x with started := true } = false →
      ∃ t, exec (.datasetManagement c l) s = .next t ∧ Posted t c 0 0 ∧ t.map = u.map ∧ t.mem = u.mem) ∧
    (x.recA = none → x.sqe.cdw11 = 0 → rangesStatus s (cmdNs x) (cmdRanges x l) false = 0 →
      ∃ t, exec (.datasetManagement c l) s = .next t ∧ Posted t c 0 0 ∧ t.map = s.map ∧ t.mem = s.mem) ∧
    (x.recA = none → x.sqe.cdw11 < 8 → (cmdRanges x l).any (fun r => !rangeFits s (cmdNs x) r.slba r.len) = true →
      ∃ t, exec (.datasetManagement c l) s = .next t ∧ Posted t c stLbaRange 0 ∧ t.map = s.map ∧ t.mem = s.mem)) ∧
  (∀ (c : Nat) (x : Ctx) (a b : LockRec) (d : CopyDesc) (u s : State), s.live = true → Taken s c x true 0x19 → x.recA = some a →
    x.recB = some b → a.granted = true → b.granted = true → x.dw1 = 0 → x.started = false → x.staged = false →
    x.left = 0 → (tget x.raw 0).isSome = true → nsLba4k s (cmdNs x) = true → mdBytes (nsFmt s (cmdNs x)) = 0 →
    bits x.sqe.cdw12 0 8 = 0 → d.nlb + 1 ≤ 512 →
    putSectors (updCtx s c fun z => { z with dw0 := 0 }) c (cmdNs x) ((writeHandle s x).getD 0)
      (copySectors s (cmdNs x) ⟨d.slba, cmdSlba x, d.nlb + 1, 0, 0, 0, d⟩
        (copyBlocks s (cmdNs x) x ⟨d.slba, cmdSlba x, d.nlb + 1, 0, 0, 0, d⟩) []) = (u, true) →
    (∃ y, ctxOf u c = some y ∧ y.stage = .taken ∧ y.tunnel = none ∧ writeWaits u { y with started := true } = false) →
    ∃ t, exec (.copy c [d]) s = .next t ∧ Posted t c 0 0 ∧ t.mem = u.mem ∧ t.hbm = u.hbm)

/-- I/O Management (R142, R252): Send, Reclaim Unit Handle Update, closes the reclaim unit of each handle named: its stripe takes no
more rows; Receive answers the handles' status to the host.

Burrow Advise (R182, R255): its segments are fetched, pinned or unpinned, and with no fill left the command completes with
their number in DW0, a pin with Pin Limit Exceeded where it stopped at the limit; a namespace with protection information, or a
disabled Burrow, ends it with Burrow Not Available.

The end of phase 1 of Secure Deallocate (R155, R256): with every range done the command completes with its identifier in DW0,
and the request waits for phase 2, for the stripes whose signatures hold a run of its ranges; while 64 requests wait it is refused.

States that each of these commands completes, with its effect: `ioManagementSend`, `ioManagementReceive`, `burrowAdvisePrefetch`,
`burrowAdvisePin`, `burrowAdviseUnpin`, `secureDeallocate`. -/
def Obligations.AdviceAndPlacement : Prop :=
  (∀ (c : Nat) (x : Ctx) (i : NsInfo) (l : List Nat) (s : State), s.live = true → nsInfo s (cmdNs x) = some i →
    (Taken s c x true 0x1D → (∀ p ∈ l.take (bits x.sqe.cdw10 16 16 + 1), p < i.handles.length) →
      ∃ t, exec (.ioManagementSend c l) s = .next t ∧ Posted t c 0 0 ∧
        ∀ p ∈ l.take (bits x.sqe.cdw10 16 16 + 1), tget t.nvm.handles (i.handles.getD p 0) = none ∧
          ∀ u, tget s.nvm.handles (i.handles.getD p 0) = some u → u.stripe ∈ t.media.toClose) ∧
    (Taken s c x true 0x12 → ∃ t d, exec (.ioManagementReceive c) s = .next t ∧ Posted t c 0 0 ∧ t.nvm = s.nvm ∧
      d.length = dataLen s x ∧ t.out = (ctxWrite s c 0 d).out)) ∧
  (∀ (c n : Nat) (x : Ctx) (w : PinWait) (u s : State), s.live = true → Taken s c x true 0x84 → x.started = false → x.dw1 = 0 →
    (adviseStatus s x = 0 → fillsLeft u (adviseSegs s x) = false → n < 2 ^ 32 →
      (bits x.sqe.cdw13 0 4 = 0 → prefetchAll s (adviseSegs s x) = (n, u) → tget u.bur.pinWait (8 + c) = none →
        ∃ t, exec (.burrowAdvisePrefetch c) s = .next t ∧ Posted t c 0 n ∧ t.bur = u.bur) ∧
      (bits x.sqe.cdw13 0 4 = 1 → pinAll s (adviseSegs s x) = (w, u) → w.count < 2 ^ 32 →
        ∃ t, exec (.burrowAdvisePin c) s = .next t ∧ Posted t c (if w.short then stPinLimit else 0) w.count) ∧
      (bits x.sqe.cdw13 0 4 = 2 → unpinAll s (adviseSegs s x) = (n, u) → tget u.bur.pinWait (8 + c) = none →
        ∃ t, exec (.burrowAdviseUnpin c) s = .next t ∧ Posted t c 0 n ∧ t.bur = u.bur)) ∧
    (adviseCount s x ≤ 1048576 → rangeFits s (cmdNs x) (cmdSlba x) (adviseNlb x) = true →
      rangeLocked s (cmdNs x) (cmdSlba x) (adviseNlb x) false = false → s.on BUR_CTRL_ENABLE = false → bits x.sqe.cdw13 0 4 = 0 →
      ∃ t, exec (.burrowAdvisePrefetch c) s = .next t ∧ Posted t c stBurrowNotAvailable 0)) ∧
  (∀ (c : Nat) (x : Ctx) (l : List DsmRange) (s : State), s.live = true → Taken s c x true 0x85 →
    (x.dw1 ≠ 0 → (cmdRanges x l).length ≤ x.dw1 →
      ∃ t, exec (.secureDeallocate c l) s = .next t ∧ Posted t c 0 (s.nvm.secNext % 2 ^ 32) ∧ t.nvm.secNext = s.nvm.secNext + 1 ∧
        ∃ r runs, t.nvm.secReqs = r :: s.nvm.secReqs ∧ r.id = s.nvm.secNext ∧ r.ns = cmdNs x ∧ r.state = 0 ∧
          runs = rangeRuns s (cmdNs x) (((cmdRanges x l).filter fun r => r.len ≠ 0).map fun r =>
            (lbaSector s (cmdNs x) r.slba, lbaSector s (cmdNs x) (r.slba + r.len - 1) + 1)) ∧ r.todo = signedStripes s runs) ∧
    (x.dw1 = 0 → x.started = false → x.recA = none → x.recB = none → 64 ≤ secActive s →
      ∃ t, exec (.secureDeallocate c l) s = .next t ∧ Posted t c stSecQueueFull 0 ∧ t.nvm.secReqs = s.nvm.secReqs))

/-- Compress and Decompress with all engines disabled end with Internal Error; Compress that finds nothing to save ends with Not
Smaller and the length in DW0, and Decompress answers the original bytes' number in DW0 (R257, R416).

States that each of these commands completes, with its effect: `compress`, `decompress`. -/
def Obligations.CompressCommands : Prop :=
  ∀ (c e : Nat) (ok : Bool) (x : Ctx) (src : List Byte) (s : State), s.live = true → s.on CPR_CTRL_ENABLE = true →
    (anyEngine s = none →
      (Taken s c x true 0x8B → ∃ t, exec (.compress c src ok) s = .next t ∧ Posted t c stInternal 0) ∧
      (Taken s c x true 0x8F → ∃ t, exec (.decompress c src) s = .next t ∧ Posted t c stInternal 0)) ∧
    (anyEngine s = some e →
      (Taken s c x true 0x8B → bits x.sqe.cdw10 4 12 = 0 →
        (∀ b, b = cprEncode (x.sqe.cdw10 % 4) (bits x.sqe.cdw10 2 2) 0 (loadTables s) (s.get CPR_TABSET_TAG) (fit src x.sqe.cdw12) →
          (compressResult b x.sqe.cdw12 x.sqe.cdw13 ok = cprOk → b.length < 2 ^ 32 →
            ∃ t, exec (.compress c src ok) s = .next t ∧ Posted t c 0 b.length ∧ t.out = (ctxWrite s c 0 b).out) ∧
          (compressResult b x.sqe.cdw12 x.sqe.cdw13 ok = cprNotSmaller → x.sqe.cdw12 < 2 ^ 32 →
            ∃ t, exec (.compress c src ok) s = .next t ∧ Posted t c stNotSmaller x.sqe.cdw12 ∧ t.out = s.out))) ∧
      (Taken s c x true 0x8F → ∀ d, decompressResult s (fit src x.sqe.cdw12) x.sqe.cdw13 = (cprOk, d) → d.length < 2 ^ 32 →
        ∃ t, exec (.decompress c src) s = .next t ∧ Posted t c 0 d.length ∧ t.out = (ctxWrite s c 0 d).out))

/-! ## Admin commands -/

/-- Identify and Get Log Page (R242, R249, R250): the data goes to the command's host addresses and the command completes; reading a
log with RAE = 0 lets events of its type be posted again; a log that is not there, or an offset past its end, is an invalid field.

Set Features and Get Features (R215, R249, R380, R385, R386): the value set is the one held, a value out of its range is refused,
the completion's DW0 gives the queues allocated, a feature that cannot be saved is refused when asked to be; what is got is the feature's
value, or its data at the command's host addresses.

States that each of these commands completes, with its effect: `identify`, `getLogPage`, `setFeatures`, `setFeaturesNumberOfQueues`,
`setFeaturesPowerManagement`, `setFeaturesVolatileWriteCache`, `setFeaturesTemperatureThreshold`, `setFeaturesHctm`, `getFeatures`. -/
def Obligations.IdentifyLogsFeatures : Prop :=
  (∀ (c : Nat) (x : Ctx) (s : State), s.live = true →
    (Taken s c x false 0x06 → ∀ d, identifyData s x = (0, d) →
      ∃ t, exec (.identify c) s = .next t ∧ Posted t c 0 0 ∧ t.out = (ctxWrite s c 0 d).out ∧ t.nvm = s.nvm) ∧
    (Taken s c x false 0x06 → ∀ st d, identifyData s x = (st, d) → st ≠ 0 → st < 2 ^ 15 →
      ∃ t, exec (.identify c) s = .next t ∧ Posted t c st 0 ∧ t.out = s.out) ∧
    (Taken s c x false 0x02 → bits x.sqe.cdw10 0 8 = 2 → x.sqe.nsid = 0 → x.sqe.cdw12 = 0 → x.sqe.cdw13 = 0 →
      dataLen s x ≤ (smartLog s).length →
      ∃ t, exec (.getLogPage c) s = .next t ∧ Posted t c 0 0 ∧ t.out = (ctxWrite s c 0 ((smartLog s).take (dataLen s x))).out ∧
        (bits x.sqe.cdw10 15 1 = 0 → ∀ b ∈ t.nvm.blocked, b.1 = x.f → b.2 % 256 ≠ 2)) ∧
    (∀ lid off, Taken s c x false 0x02 → bits x.sqe.cdw10 0 8 = lid → x.sqe.cdw12 + x.sqe.cdw13 * 2 ^ 32 = off → off % 4 = 0 →
      logWide lid = false ∨ x.sqe.nsid = 0 ∨ x.sqe.nsid = 0xFFFFFFFF → lid ∉ [0x07, 0x08, 0x22] →
      (∀ d, logPage s x lid 0 = some d → off + dataLen s x ≤ d.length →
        ∃ t, exec (.getLogPage c) s = .next t ∧ Posted t c 0 0 ∧ t.out = (ctxWrite s c 0 ((d.drop off).take (dataLen s x))).out) ∧
      (logPage s x lid 0 = none ∨ (∃ d, logPage s x lid 0 = some d ∧ d.length < off) →
        ∃ t, exec (.getLogPage c) s = .next t ∧ Posted t c stInvalidField 0 ∧ t.out = s.out))) ∧
  (∀ (c : Nat) (d : List Byte) (x : Ctx) (s : State), s.live = true →
    (Taken s c x false 0x09 →
      (bits x.sqe.cdw10 31 1 = 1 → cmdFid x = 0x0B →
        ∃ t, exec (.setFeatures c d) s = .next t ∧ Posted t c stNotSaveable 0 ∧ t.nvm.feats = s.nvm.feats) ∧
      (setStatus x = 0 →
        (cmdFid x = 0x0B → x.sqe.cdw11 < 2 ^ 11 →
          ∃ t, exec (.setFeatures c d) s = .next t ∧ Posted t c 0 0 ∧ feat t x.f 0x0B 0 = x.sqe.cdw11) ∧
        (∀ m, plainLimit (cmdFid x) = some m →
          (x.sqe.cdw11 < m → ∃ t, exec (.setFeatures c d) s = .next t ∧ Posted t c 0 0 ∧ feat t x.f (cmdFid x) 0 = x.sqe.cdw11) ∧
          (m ≤ x.sqe.cdw11 → ∃ t, exec (.setFeatures c d) s = .next t ∧ Posted t c stInvalidField 0 ∧ t.nvm.feats = s.nvm.feats)) ∧
        (cmdFid x = 0x01 → bits x.sqe.cdw11 3 5 = 0 →
          ∃ t, exec (.setFeatures c d) s = .next t ∧ Posted t c 0 0 ∧ feat t x.f 1 0 = x.sqe.cdw11) ∧
        (cmdFid x = 0x09 → bits x.sqe.cdw11 0 16 < vecCount s x.f → x.sqe.cdw11 < 2 ^ 17 →
          ∃ t, exec (.setFeatures c d) s = .next t ∧ Posted t c 0 0 ∧ feat t x.f 9 (bits x.sqe.cdw11 0 16) = x.sqe.cdw11) ∧
        (cmdFid x = 0x0E → ∃ t, exec (.setFeatures c d) s = .next t ∧ Posted t c 0 0 ∧
          t.nvm.stamp = some (leNat (fit d 6), s.timeUs)) ∧
        (cmdFid x = 0x81 → x.sqe.cdw11 = 1 →
          ∃ t, exec (.setFeatures c d) s = .next t ∧ Posted t c 0 0 ∧ feat t x.f 0x81 0 = leNat (fit d 16)) ∧
        (cmdFid x = 0x07 → s.cmd.created.contains x.f = false →
          ∃ t, exec (.setFeaturesNumberOfQueues c) s = .next t ∧
            t.get CMD_FNf_STATE_QALLOC x.f =
              queueGrant s x.f (max (bits x.sqe.cdw11 0 16) (bits x.sqe.cdw11 16 16)) % 2 ^ CMD_FNf_STATE_QALLOC.width ∧
            ∃ v, Posted t c 0 v) ∧
        (cmdFid x = 0x07 → s.cmd.created.contains x.f = true →
          ∃ t, exec (.setFeaturesNumberOfQueues c) s = .next t ∧ Posted t c stSequence 0) ∧
        (cmdFid x = 0x02 → x.sqe.cdw11 ≤ 4 →
          ∃ t, exec (.setFeaturesPowerManagement c) s = .next t ∧ Posted t c 0 0 ∧ feat t x.f 2 0 = x.sqe.cdw11) ∧
        (cmdFid x = 0x06 → s.on HBM_CEIL_VWC = true → x.sqe.cdw11 < 2 →
          ∃ t, exec (.setFeaturesVolatileWriteCache c) s = .next t ∧ Posted t c 0 0 ∧ feat t x.f 6 0 = x.sqe.cdw11) ∧
        (cmdFid x = 0x04 → ∀ k, k ∈ thresholdSubs x.sqe.cdw11 true →
          ∃ t, exec (.setFeaturesTemperatureThreshold c) s = .next t ∧ Posted t c 0 0 ∧
            feat t subsys 4 k = bits x.sqe.cdw11 0 16) ∧
        (cmdFid x = 0x10 → bits x.sqe.cdw11 16 16 = 0 → bits x.sqe.cdw11 0 16 = 0 ∨
            (273 ≤ bits x.sqe.cdw11 0 16 ∧ bits x.sqe.cdw11 0 16 ≤ 368) →
          ∃ t, exec (.setFeaturesHctm c) s = .next t ∧ Posted t c 0 0 ∧ t.get PWR_HCTM_TMT1 = 0 ∧
            t.get PWR_HCTM_TMT2 = bits x.sqe.cdw11 0 16))) ∧
    (Taken s c x false 0x0A → x.sqe.cdw10 < 2 ^ 11 → bits x.sqe.cdw10 8 3 = 0 → cmdFid x = 0x0B →
      ∃ t, exec (.getFeatures c) s = .next t ∧ Posted t c 0 (feat s x.f 0x0B 0 % 2 ^ 32)) ∧
    (∀ sel, Taken s c x false 0x0A → x.sqe.cdw10 < 2 ^ 11 → bits x.sqe.cdw10 8 3 = sel →
      (∀ v b, sel < 3 → getFeature s x (sel = 1 || sel = 2) = some (v, b) →
        ∃ t, exec (.getFeatures c) s = .next t ∧ Posted t c 0 (v % 2 ^ 32) ∧
          (b ≠ [] → t.out = (ctxWrite s c 0 (fit b (dataLen s x))).out)) ∧
      (sel < 4 → getFeature s x (sel = 1 || sel = 2) = none →
        ∃ t, exec (.getFeatures c) s = .next t ∧ Posted t c stInvalidField 0) ∧
      (∀ y, sel = 3 → getFeature s x false = some y →
        ∃ t, exec (.getFeatures c) s = .next t ∧ Posted t c 0 (featCaps (cmdFid x)))))

/-- Create and Delete of I/O queues (R216, R236): a Create whose checks pass makes the queue of its fields, and one that fails ends
with the check's status; Delete takes the queue away, of a submission queue once none of its commands is left.

Asynchronous events (R250): a request waits, the ninth of a controller is refused, and the oldest event that may be posted goes
out on the oldest request of its controller, its type then waiting for its log to be read.

States that each of these commands completes, with its effect: `createIoCompletionQueue`, `createIoSubmissionQueue`,
`deleteIoCompletionQueue`, `deleteIoSubmissionQueue`, `asynchronousEventRequest`, `asyncEventPost`. -/
def Obligations.QueuesAndEvents : Prop :=
  (∀ (c : Nat) (x : Ctx) (s : State), s.live = true → x.cq = 0 →
    (Taken s c x false 0x05 →
      (createCqStatus s x = 0 →
        ∃ t, exec (.createIoCompletionQueue c) s = .next t ∧ Posted t c 0 0 ∧
          cqOf t x.f (cmdQid x) = some ⟨x.sqe.dptr1, cmdQsize x + 1, cmdHigh11 x, cmdIen x, 0, 0, true, []⟩) ∧
      (createCqStatus s x ≠ 0 →
        ∃ t, exec (.createIoCompletionQueue c) s = .next t ∧ Posted t c (createCqStatus s x) 0 ∧ t.cmd.sqs = s.cmd.sqs)) ∧
    (Taken s c x false 0x01 → createSqStatus s x = 0 →
      ∃ t, exec (.createIoSubmissionQueue c) s = .next t ∧ Posted t c 0 0 ∧
        ∃ q, sqOf t x.f (cmdQid x) = some q ∧ q.base = x.sqe.dptr1 ∧ q.size = cmdQsize x + 1 ∧ q.cq = cmdHigh11 x ∧ q.head = 0 ∧
          q.tail = 0) ∧
    (Taken s c x false 0x04 → cmdQid x ≠ 0 → (cqOf s x.f (cmdQid x)).isSome = true → cqUsedBy s x.f (cmdQid x) = false →
      ∃ t, exec (.deleteIoCompletionQueue c) s = .next t ∧ Posted t c 0 0 ∧ cqOf t x.f (cmdQid x) = none) ∧
    (Taken s c x false 0x00 → cmdQid x ≠ 0 → ∀ q, sqOf s x.f (cmdQid x) = some q → q.deleting = none →
      (∀ y ∈ s.cmd.ctxs, y.2.f = x.f → y.2.sq ≠ cmdQid x) →
      ∃ t, exec (.deleteIoSubmissionQueue c) s = .next t ∧ Ended t c 0 0 ∧ sqOf t x.f (cmdQid x) = none)) ∧
  ((∀ (c : Nat) (x : Ctx) (s : State), s.live = true → Taken s c x false 0x0C → s.nvm.aers = [] →
    ∃ t, exec (.asynchronousEventRequest c) s = .next t ∧ t.nvm.aers = [c] ∧ ctxOf t c = some x ∧ OnlyFields [] s t) ∧
  (∀ (c : Nat) (x : Ctx) (s : State), s.live = true → Taken s c x false 0x0C → s.nvm.aers.contains c = false →
    8 ≤ (s.nvm.aers.filter fun a => match ctxOf s a with | some y => y.f = x.f | none => false).length →
    ∃ t, exec (.asynchronousEventRequest c) s = .next t ∧ Posted t c stAerLimit 0 ∧ t.nvm.aers = s.nvm.aers) ∧
  (∀ (a : Nat) (x : Ctx) (e : Aen) (r : List Aen) (s : State), s.live = true → Taken s a x false 0x0C → s.nvm.aers = [a] →
    s.nvm.events = e :: r → e.f = x.f → s.nvm.blocked = [] → e.ty < 8 → e.info < 256 → e.lid < 256 →
    ∃ t, exec (.asyncEventPost x.f) s = .next t ∧ Posted t a 0 (e.ty + e.info * 256 + e.lid * 65536) ∧ t.nvm.events = r ∧
      t.nvm.aers = [] ∧ t.nvm.blocked = [(x.f, e.ty * 256 + e.lid)]))

/-- Namespace Management and Attachment (R244): Create makes the lowest free namespace and answers its NSID; Delete, once every run
is cleared, takes it away; attaching and detaching change its controllers, and attaching a private one twice is refused.

States that each of these commands completes, with its effect: `namespaceCreate`, `namespaceDelete`, `namespaceAttach`, `namespaceDetach`. -/
def Obligations.Namespaces : Prop :=
  ∀ (c : Nat) (x : Ctx) (s : State), s.live = true →
    (∀ (d : NsCreate) (n base : Nat) (u : State), Taken s c x false 0x0D → bits x.sqe.cdw10 0 4 = 0 → bits x.sqe.cdw11 24 8 = 0 →
      tfree s.nvm.ns 0 4096 = some n → freeBase s (runsOf d.nsze (d.flbas % 16)) = some base →
      createNsStatus s d (some n) (some base) = 0 → s.on MAP_CTRL_ENABLE = true → ringFits s 1 = true →
      makeNs s n base d = some u → ctxOf u c = some x →
      ∃ t, exec (.namespaceCreate c d) s = .next t ∧ Posted t c 0 (n + 1) ∧
        ∃ i, nsInfo t n = some i ∧ i.nsze = d.nsze ∧ i.fmt = d.flbas % 16 ∧ i.dps = d.dps ∧ i.attached = []) ∧
    (∀ (n : Nat) (r : LockRec) (u : State), Taken s c x false 0x0D → bits x.sqe.cdw10 0 4 = 1 → x.sqe.nsid = n + 1 →
      n + 1 ≠ 0xFFFFFFFF → (nsInfo s n).isSome = true → x.recA = some r → r.granted = true → x.recB = none → x.started = false →
      clearNs s c n = (u, true) → ringFits u 1 = true → (∃ y, ctxOf (removeNs u n) c = some y ∧ y.stage = .taken ∧ y.tunnel = none) →
      ∃ t, exec (.namespaceDelete c) s = .next t ∧ Posted t c 0 0 ∧ nsInfo t n = none) ∧
    (∀ (l fs : List Nat) (i : NsInfo), Taken s c x false 0x15 → x.sqe.nsid ≠ 0 → nsInfo s (x.sqe.nsid - 1) = some i →
      ctrlFns s l = some fs →
      (bits x.sqe.cdw10 0 4 = 0 → (∀ f ∈ fs, f ∉ i.attached) → i.nmic ≠ 0 ∨ (i.attached ++ fs).length ≤ 1 →
        ∃ t, exec (.namespaceAttach c l) s = .next t ∧ Posted t c 0 0 ∧
          nsInfo t (x.sqe.nsid - 1) = some { i with attached := i.attached ++ fs }) ∧
      (bits x.sqe.cdw10 0 4 = 0 → (∀ f ∈ fs, f ∉ i.attached) → i.nmic = 0 → 1 < (i.attached ++ fs).length →
        ∃ t, exec (.namespaceAttach c l) s = .next t ∧ Posted t c stNsPrivate 0 ∧ t.nvm.ns = s.nvm.ns) ∧
      (bits x.sqe.cdw10 0 4 = 1 → (∀ f ∈ fs, f ∈ i.attached) →
        ∃ t, exec (.namespaceDetach c l) s = .next t ∧ Posted t c 0 0 ∧
          nsInfo t (x.sqe.nsid - 1) = some { i with attached := i.attached.filter fun f => !fs.contains f }))

/-- Firmware update (R258, R361 to R364, R367): a piece of the download is kept; a commit that passes its checks writes the slot, puts
it first in ORDER for an activation, and with action 011b pauses fetch and waits for RESUME; confirmation ends CONFIRM_PENDING.

States that each of these commands completes, with its effect: `firmwareImageDownload`, `firmwareCommitReplace`,
`firmwareCommitReplaceActivateReset`, `firmwareCommitActivateReset`, `firmwareCommitActivateNow`, `confirmFirmware`, `autoConfirmation`. -/
def Obligations.FirmwareUpdate : Prop :=
  ∀ (c n : Nat) (x : Ctx) (s : State), s.live = true →
    (∀ (d : List Byte) (p : Tbl (List Byte)), Taken s c x false 0x11 →
      takePiece s.fw.pieces (x.sqe.cdw11 * 4) (fit d (numd x * 4)) = (0, p) →
      ∃ t, exec (.firmwareImageDownload c d) s = .next t ∧ Posted t c 0 0 ∧ t.fw = { s.fw with pieces := p }) ∧
    (Taken s c x false 0x10 → s.fw.activating = none → slotFor s.fw.table (cmdFs x) = n → 1 ≤ n → n ≤ 4 →
      commitStatus s (cmdCa x) (cmdFs x) n (commitLoads s (cmdCa x)) = 0 →
      (cmdCa x = 0 → ∃ t, exec (.firmwareCommitReplace c) s = .next t ∧ Posted t c 0 0 ∧
        fwSlot t.fw.table n = slotOf (bufferPkg s) ∧ t.fw.table.order = s.fw.table.order ∧ t.fw.pieces = []) ∧
      (cmdCa x = 1 → ∃ t, exec (.firmwareCommitReplaceActivateReset c) s = .next t ∧ Posted t c 0 0 ∧
        fwSlot t.fw.table n = slotOf (bufferPkg s) ∧ t.fw.table.order = orderFirst s.fw.table.order n ∧ t.fw.pieces = []) ∧
      (cmdCa x = 2 → ∃ t, exec (.firmwareCommitActivateReset c) s = .next t ∧ Posted t c 0 0 ∧
        t.fw.table.slots = s.fw.table.slots ∧ t.fw.table.order = orderFirst s.fw.table.order n) ∧
      (cmdCa x = 3 → ∃ t, exec (.firmwareCommitActivateNow c) s = .next t ∧ t.get CMD_ACT_CTL_PAUSE = 1 ∧
        t.fw.table.order = orderFirst s.fw.table.order n ∧
        ∃ a, t.fw.activating = some a ∧ a.ctx = some c ∧ a.slot = n ∧ a.pausedUs = s.timeUs)) ∧
    (Taken s c x false 0xC0 →
      (s.fw.table.confirmPending = true → ∃ t, exec (.confirmFirmware c) s = .next t ∧ Posted t c 0 0 ∧
        t.fw.table.confirmPending = false ∧ t.fw.table.k = 0) ∧
      (s.fw.table.confirmPending = false → ∃ t, exec (.confirmFirmware c) s = .next t ∧ Posted t c stNoConfirmation 0 ∧
        t.fw = s.fw)) ∧
    (s.fw.table.confirmPending = true → s.fw.table.confirmAt ≤ pohHours s →
      ∃ t, exec .autoConfirmation s = .next t ∧ t.fw.table.confirmPending = false ∧ t.fw.table.k = 0)

/-- Security, directives, NVMe-MI and the service dump (R245, R260, R276, R395 and the following): each completes with its effect.

States that each of these commands completes, with its effect: `securitySend`, `securityReceive`, `directiveSend`, `directiveReceive`,
`nvmeMiSend`, `nvmeMiReceive`, `serviceDumpCapture`, `serviceDumpRead`, `serviceDumpRelease`. -/
def Obligations.SecurityAndDump : Prop :=
  ∀ (c : Nat) (x : Ctx) (d : List Byte) (s : State), s.live = true →
    (Taken s c x false 0x81 → secp x = 1 ∨ secp x = 2 → d.length = dataLen s x →
      ∃ t, exec (.securitySend c d) s = .next t ∧ Posted t c 0 0 ∧
        t.cry = { s.cry with opalPins := t.cry.opalPins, opalStore := t.cry.opalStore }) ∧
    (Taken s c x false 0x81 → (secp x ≠ 1 ∧ secp x ≠ 2) ∨ d.length ≠ dataLen s x →
      ∃ t, exec (.securitySend c d) s = .next t ∧ Posted t c stInvalidField 0 ∧ t.cry = s.cry) ∧
    (Taken s c x false 0x82 → secp x = 1 ∨ secp x = 2 →
      ∃ t b, exec (.securityReceive c) s = .next t ∧ Posted t c 0 0 ∧ b.length = dataLen s x ∧ t.out = (ctxWrite s c 0 b).out) ∧
    (Taken s c x false 0x82 → (secp x = 0 ∧ spsp x ≠ 0) ∨ 3 ≤ secp x →
      ∃ t, exec (.securityReceive c) s = .next t ∧ Posted t c stInvalidField 0 ∧ t.out = s.out) ∧
    (Taken s c x false 0x82 → secp x = 0 → spsp x = 0 →
      ∃ t, exec (.securityReceive c) s = .next t ∧ Posted t c 0 0 ∧ t.out = (ctxWrite s c 0 (fit secProtocols (dataLen s x))).out) ∧
    (Taken s c x false 0x19 → dirType x = 0 → dirOp x = 1 → bits x.sqe.cdw12 8 8 = 0 → bits x.sqe.cdw12 0 1 = 1 →
      ∃ t, exec (.directiveSend c d) s = .next t ∧ Posted t c 0 0) ∧
    (Taken s c x false 0x19 → dirType x ≠ 0 ∨ dirOp x ≠ 1 ∨ bits x.sqe.cdw12 8 8 ≠ 0 ∨ bits x.sqe.cdw12 0 1 ≠ 1 →
      ∃ t, exec (.directiveSend c d) s = .next t ∧ Posted t c stInvalidField 0) ∧
    (Taken s c x false 0x1A → dirType x ≠ 0 ∨ dirOp x ≠ 1 →
      ∃ t, exec (.directiveReceive c) s = .next t ∧ Posted t c stInvalidField 0 ∧ t.out = s.out) ∧
    (Taken s c x false 0x1A → dirType x = 0 → dirOp x = 1 →
      ∃ t, exec (.directiveReceive c) s = .next t ∧ Posted t c 0 0 ∧
        t.out = (ctxWrite s c 0 (fit (dirParams s) (dataLen s x))).out) ∧
    (Taken s c x false 0x1D → bits x.sqe.cdw11 0 8 = 7 →
      ∃ t, exec (.nvmeMiSend c d) s = .next t ∧ Posted t c 0 (miDw0 miParam 0) ∧ t.oob = s.oob) ∧
    (Taken s c x false 0x1D → bits x.sqe.cdw11 0 8 = 3 → ∀ o, miSet s x.sqe.cdw12 x.sqe.cdw13 = some o →
      ∃ t, exec (.nvmeMiSend c d) s = .next t ∧ Posted t c 0 0 ∧ t.oob = o) ∧
    (∀ st u, Taken s c x false 0x1D → bits x.sqe.cdw11 0 8 = 6 →
      miVpdWrite s x.sqe.cdw12 x.sqe.cdw13 (d.take (bits x.sqe.cdw13 0 16)) = (st, u) →
      ∃ t, exec (.nvmeMiSend c d) s = .next t ∧ Posted t c 0 (miDw0 st 0) ∧ t.oob.vpd = u.oob.vpd) ∧
    (Taken s c x false 0x1D → bits x.sqe.cdw11 0 8 ∉ [3, 6, 7] →
      ∃ t, exec (.nvmeMiSend c d) s = .next t ∧ Posted t c 0 (miDw0 miOpcode 0) ∧ t.oob = s.oob) ∧
    (∀ st b, Taken s c x false 0x1E → bits x.sqe.cdw11 0 8 = 0 → miReadDs s x.sqe.cdw12 = (st, b) →
      ∃ t, exec (.nvmeMiReceive c) s = .next t ∧ Posted t c 0 (miDw0 st b.length % 2 ^ 32) ∧
        t.out = (ctxWrite s c 0 (b.take (dataLen s x))).out) ∧
    (∀ b, Taken s c x false 0x1E → bits x.sqe.cdw11 0 8 = 5 → miVpdRead s x.sqe.cdw12 x.sqe.cdw13 = some b →
      ∃ t, exec (.nvmeMiReceive c) s = .next t ∧ Posted t c 0 0 ∧ t.out = (ctxWrite s c 0 (b.take (dataLen s x))).out) ∧
    (∀ v, Taken s c x false 0x1E → bits x.sqe.cdw11 0 8 = 4 → miGet s x.sqe.cdw12 = some v →
      ∃ t, exec (.nvmeMiReceive c) s = .next t ∧ Posted t c 0 (miDw0 0 v % 2 ^ 32)) ∧
    (Taken s c x false 0x1E → bits x.sqe.cdw11 0 8 = 1 → bits x.sqe.cdw13 31 1 = 0 →
      ∃ t, exec (.nvmeMiReceive c) s = .next t ∧ Posted t c 0 0 ∧ t.out = (ctxWrite s c 0 ((miHealth s).take (dataLen s x))).out) ∧
    (Taken s c x false 0xC2 →
      (x.sqe.cdw10 % 16 = 0 → ∃ t u, exec (.serviceDumpCapture c) s = .next t ∧ t.nvm.dump = some u ∧ 0 < u.units ∧
        Posted t c 0 u.units) ∧
      (x.sqe.cdw10 % 16 = 1 → s.nvm.dump = none → ∃ t, exec (.serviceDumpRead c) s = .next t ∧ Posted t c stNoDump 0) ∧
      (x.sqe.cdw10 % 16 = 1 → ∀ u, s.nvm.dump = some u → dumpOff x + dataLen s x ≤ u.units * 4096 →
        ∃ t, exec (.serviceDumpRead c) s = .next t ∧ Posted t c 0 0 ∧
          t.out = (ctxWrite s c 0 (((dumpBytes u).drop (dumpOff x)).take (dataLen s x))).out) ∧
      (x.sqe.cdw10 % 16 = 2 → s.nvm.dump.isSome = true →
        ∃ t, exec (.serviceDumpRelease c) s = .next t ∧ Posted t c 0 0 ∧ t.nvm.dump = none))

/-! ## Format, Sanitize, Opal, background work -/

/-- Format NVM (R278, R370, R371), by the row of its Secure Erase Setting: fields that are not admitted end it with the check's
status; in its last phase, with its completion record durable, the Format is over and the command completes.

Sanitize (R372, R374 to R377): the commands complete once started; Exit Failure Mode leaves the failure mode where the failed
operation allowed it; the last phase ends the operation with SSTAT 1 and Global Data Erased; after 60 s without entropy in phase 2 it fails
with SSTAT 3.

Opal (R158, R276 to R278): a method gives a range its lock state; GenKey of a global range leaves new keys in its slots, or the
old ones where entropy fails; GenKey of another range requests a secure deallocation of its runs; a PSID revert leaves no range and
no credential. In read-only mode neither erases anything, and the Security Send that carries it is told.

States that each of these commands completes, with its effect: `formatNvm`, `formatNvmBlockErase`, `formatNvmCryptoErase`,
`sanitizeBlockErase`, `sanitizeCryptoErase`, `sanitizeExitFailureMode`, `sanitizeDestructivePhases`, `sanitizeEntropyFailure`,
`opalLockStateChange`, `opalGenkey`, `opalRevert`. -/
def Obligations.FormatSanitizeOpal : Prop :=
  (∀ (c n : Nat) (x : Ctx) (s : State), s.live = true → Quiet s → Taken s c x false 0x80 →
    (fmtStatus x ≠ 0 → bits x.sqe.cdw10 9 3 = 0 →
      ∃ t, exec (.formatNvm c) s = .next t ∧ Posted t c (fmtStatus x) 0 ∧ t.fw.formats = s.fw.formats) ∧
    (∀ (k : LockRec) (r : FmtRun), fmtStatus x = 0 → x.sqe.nsid = n + 1 → n + 1 ≠ 0xFFFFFFFF → (nsInfo s n).isSome = true →
      x.recA = some k → k.granted = true → x.recB = none → x.started = false → x.dw1 = 0 →
      s.fw.formats.find? (fun y => y.ns = n) = some r → r.phase = 5 → r.done ≠ 0 → mayUpdate s 4 = true → s.map.page = none →
      s.map.closed = [] →
      (bits x.sqe.cdw10 9 3 = 0 → ∃ t, exec (.formatNvm c) s = .next t ∧ Posted t c 0 0 ∧ ∀ y ∈ t.fw.formats, y.ns ≠ n) ∧
      (bits x.sqe.cdw10 9 3 = 1 → ∃ t, exec (.formatNvmBlockErase c) s = .next t ∧ Posted t c 0 0 ∧ ∀ y ∈ t.fw.formats, y.ns ≠ n) ∧
      (bits x.sqe.cdw10 9 3 = 2 → ∃ t, exec (.formatNvmCryptoErase c) s = .next t ∧ Posted t c 0 0 ∧ ∀ y ∈ t.fw.formats, y.ns ≠ n))) ∧
  ((∀ (c : Nat) (x : Ctx) (s : State), s.live = true → Taken s c x false 0x84 →
    (sanAct x = 2 → ∃ t, exec (.sanitizeBlockErase c) s = .next t ∧ Posted t c 0 0 ∧ t.fw = s.fw) ∧
    (sanAct x = 4 → ∃ t, exec (.sanitizeCryptoErase c) s = .next t ∧ Posted t c 0 0 ∧ t.fw = s.fw) ∧
    (sanAct x = 1 → s.fw.failed ≠ some false →
      ∃ t, exec (.sanitizeExitFailureMode c) s = .next t ∧ Posted t c 0 0 ∧ t.fw = { s.fw with failed := none }) ∧
    (sanAct x = 1 → s.fw.failed = some false →
      ∃ t, exec (.sanitizeExitFailureMode c) s = .next t ∧ Posted t c stSanitizeFailed 0 ∧ t.fw = s.fw)) ∧
  (∀ (r : SanRun) (s : State), s.live = true → s.fw.san = some r →
    (Quiet s → r.phase = 5 → r.b ≠ 0 → mayUpdate s 4 = true → s.map.page = none → s.map.closed = [] →
      ∃ t, exec .sanitizeDestructivePhases s = .next t ∧ t.fw.san = none ∧ t.fw.sstat = 1 ∧ t.fw.gde = true) ∧
    (r.phase = 2 → s.on CRY_ENT_OK = false → s.cry.entLostUs + 60000000 ≤ s.timeUs →
      ∃ t, exec .sanitizeEntropyFailure s = .next t ∧ t.fw.san = none ∧ t.fw.sstat = 3 ∧ t.fw.failed = some r.ause ∧ t.cry = s.cry))) ∧
  ((∀ (r : OpalRange) (s : State), s.live = true → rangeOk s r = true → opalCtx s = none →
    ∃ t, exec (.opalLockStateChange r) s = .next t ∧
      t.cry.opal = (s.cry.opal.filter fun y => y.kind ≠ r.kind || y.num ≠ r.num || y.ns ≠ r.ns) ++ [r]) ∧
  (∀ (n : Nat) (r : OpalRange) (u s : State), s.live = true → s.media.readOnly = false →
    s.cry.opal.find? (fun y => y.num = n) = some r → r.kind ≠ 2 →
    mayJournal s (uniq ((rangeNs s r).map (nsSlot s))).length = true →
    (uniq ((rangeNs s r).map (nsSlot s))).foldlM (fun s k => (cryptoErase s k).map fun s => appendFw s (opalRec k)) s = some u →
    ∃ t, exec (.opalGenkey n) s = .next t ∧ t.cry = u.cry ∧ t.sys = u.sys) ∧
  (∀ (n : Nat) (r : OpalRange) (u s : State), s.live = true → s.media.readOnly = false → opalCtx s = none →
    s.cry.opal.find? (fun y => y.num = n) = some r → r.kind = 2 →
    markSpans s .secure (nsSpans s r.ns r.first (r.first + r.count)) = (u, true) →
    ∃ t, exec (.opalGenkey n) s = .next t ∧ t.mem = u.mem ∧ t.nvm.secNext = u.nvm.secNext + 1 ∧
      ∃ y, t.nvm.secReqs = y :: u.nvm.secReqs ∧ y.id = u.nvm.secNext ∧ y.ns = r.ns) ∧
  (∀ (u s : State), s.live = true → s.media.readOnly = false → sanKeys s = some u → mayJournal u 1 = true →
    ∃ t, exec (.opalRevert true) s = .next t ∧ t.cry = { u.cry with opal := [], opalPins := [], opalStore := [] }) ∧
  (∀ (n : Nat) (b : Bool) (s : State), s.live = true → s.media.readOnly = true → (s.cry.opal.any fun y => y.num = n) = true →
    (∃ t, exec (.opalGenkey n) s = .next t ∧ t.cry = s.cry ∧ t.mem = s.mem ∧
      ∀ c x, opalCtx s = some c → Taken s c x false 0x81 → Posted t c stWpDnr 0) ∧
    (∃ t, exec (.opalRevert b) s = .next t ∧ t.cry = s.cry ∧ t.mem = s.mem ∧
      ∀ c x, opalCtx s = some c → Taken s c x false 0x81 → Posted t c stWpDnr 0)))

/-- Background turns of device firmware (R141, R143, R144, R149, R153, R155, R259): the erases of a collected stripe ended, the
collection is over; a scrubbed row that is due joins the refresh; a key slot with an old generation begins its migration; a secure
deallocation with no stripe left is complete; staged data of an idle handle is programmed; a die whose blocks have all been erased
again is active with its new epoch in DW0.

Health (R157, R158, R161, R251): with no spare stripe left the subsystem is read-only; below its threshold the spare is low; a
refresh of the telemetry window advances its even sequence; the counters written are the ones that hold.

States that each of these commands completes, with its effect: `garbageCollection`, `fold`, `scrubPass`, `keygenMigration`,
`secureDeallocationPhase2`, `fdpPadTimer`, `requalifyDie`, `readOnlyEntry`, `spareBelowThreshold`, `telemetryRefresh`,
`healthCounterSave`. -/
def Obligations.BackgroundAndHealth : Prop :=
  ((∀ (st : Nat) (g : Coll) (s : State), s.live = true → Quiet s → tget s.media.colls st = some g → g.erasing = true → g.left = [] →
    mayUpdate s 1 = true →
    (∃ t, exec (.garbageCollection st) s = .next t ∧ tget t.media.colls st = none) ∧
    (st < s.get MAP_STRIPE_COUNT_COUNT → ∃ t, exec (.fold st) s = .next t ∧ tget t.media.colls st = none)) ∧
  (∀ (st row : Nat) (r : ScrubRun) (s : State), s.live = true → Quiet s → s.media.refreshJob = none → s.media.refresh = [] →
    bgStops s = false → migrFirst s = false → s.on CDC_CTRL_ENABLE = true → s.media.scrub = some r → r.left = 0 →
    r.rows = [(st, row)] → r.due = true →
    ∃ t, exec .scrubPass s = .next t ∧ t.media.scrub = none ∧ t.media.refresh = [(st, row)]) ∧
  (∀ (k : Nat) (s : State), s.live = true → Quiet s → tget s.media.migr k = none → s.on CRY_SLOTs_STATE_OLD_VALID k = true →
    bgStops s = false → ∃ t, exec (.keygenMigration k) s = .next t ∧ tget t.media.migr k = some (migrStart s k)) ∧
  (∀ (id : Nat) (r : SecReq) (s : State), s.live = true → Quiet s → s.nvm.secReqs.find? (fun y => y.id = id) = some r → r.state < 2 →
    r.todo = [] →
    ∃ t, exec (.secureDeallocationPhase2 id) s = .next t ∧
      t.nvm.secReqs = s.nvm.secReqs.map (fun y => if y.id = r.id then { r with state := if r.failed = 0 then 2 else 3 } else y)) ∧
  (∀ (h row : Nat) (y : Nat × StgSec) (r : RuHandle) (v u s : State), s.live = true → Quiet s → s.sys.image.fdp = true →
    s.on CDC_CTRL_ENABLE = true → mayUpdate s 1 = true →
    (unprogrammed s).find? (fun z => placed s z.2 && decide (z.2.handle = h)) = some y →
    y.2.atUs + s.sys.image.padMs * 1000 ≤ s.timeUs → handleUnit s h = v → unitOf v h = some r →
    (List.range (rowCap v r.stripe)).find? (rowOpen v r.stripe) = some row →
    encodeSectors v r.stripe row (rowGroup v (unprogrammed v) y.2).2 = u → v.cdc.accs.length < u.cdc.accs.length →
    ∃ t, exec (.fdpPadTimer h) s = .next t ∧ t.cdc = u.cdc ∧ t.media.health.progHost = u.media.health.progHost + rowBytes) ∧
  (∀ (c : Nat) (x : Ctx) (r : RequalRun) (s : State), s.live = true → Quiet s → Taken s c x false 0xC4 → s.media.requal = some r →
    r.ctx = c → (dieOf s r.die).requal = none → dieState s r.die = 4 → r.erasing = true → r.failed = false → r.left = [] →
    ∃ t, exec (.requalifyDie c) s = .next t ∧ dieState t r.die = 1 ∧ t.media.requal = none ∧ Posted t c 0 (dieEpoch s r.die % 2 ^ 32))) ∧
  (∀ s : State, s.live = true →
    (s.media.readOnly = false → spareStripes s ≤ 0 → ∃ t, exec .readOnlyEntry s = .next t ∧ t.media.readOnly = true) ∧
    (s.media.spareLow = false → availableSpare s < s.sys.image.spareThresh →
      ∃ t, exec .spareBelowThreshold s = .next t ∧ t.media.spareLow = true) ∧
    (∃ t, exec .telemetryRefresh s = .next t ∧ t.nvm.telSeq = s.nvm.telSeq + 2 ∧ t.nvm.telBytes = telemetryBytes s ∧
      OnlyFields [] s t ∧ t.mem = s.mem) ∧
    (∃ t, exec .healthCounterSave s = .next t ∧ t.media = { s.media with saved := healthNow s } ∧ OnlyFields [] s t ∧ t.mem = s.mem))

/-! ## MAP: the slots, retirement, the journal, replay -/

/-- Run commands of the MAP slots (R36, R60): RUN_READ answers the run's entry; RUN_CAS changes memory only where fields [35:0]
hold the expected value, and answers the entry it met where they do not; RUN_CLEAR unmaps the run and clears its exceptions; LOOKUP
answers what the walker finds. A run at or past MAP_RUN_LIMIT ends with BAD_ARG. An update behind a waiting command to its run, or that the
journal ring has no room for, waits too and changes no memory.

States that each of these commands completes, with its effect: `runRead`, `runCas`, `runClear`, `lookup`. -/
def Obligations.RunCommands : Prop :=
  ∀ (n : Nat) (s : State), MapReady s n →
    (runOk s (mapArg0 s n) = false →
      (∃ t, exec (.runRead n) s = .next t ∧ MapDone t n 4 ∧ SameMemory s t) ∧
      (MapFree s n 2 → ∃ t, exec (.runCas n) s = .next t ∧ MapDone t n 4 ∧ SameMemory s t) ∧
      (MapFree s n 6 → ∃ t, exec (.runClear n) s = .next t ∧ MapDone t n 4 ∧ SameMemory s t)) ∧
    (runOk s (mapArg0 s n) = true → runReadable s (mapArg0 s n) = true →
      (∃ t, exec (.runRead n) s = .next t ∧ MapDone t n 0 ∧ t.get MAP_CMDn_OUT0_V n = runEntry s (mapArg0 s n) ∧ SameMemory s t) ∧
      (MapFree s n 2 → runWordOk s (mapArg1 s n) = true → runWordOk s (mapArg2 s n) = true →
        (bits (runEntry s (mapArg0 s n)) 0 36 ≠ bits (mapArg1 s n) 0 36 →
          ∃ t, exec (.runCas n) s = .next t ∧ MapDone t n 1 ∧ t.get MAP_CMDn_OUT0_V n = runEntry s (mapArg0 s n) ∧ SameMemory s t) ∧
        (bits (runEntry s (mapArg0 s n)) 0 36 = bits (mapArg1 s n) 0 36 → ringFits s 1 = true →
          ∃ t, exec (.runCas n) s = .next t ∧ MapDone t n 0 ∧ t.mem = (runSet s (mapArg0 s n) (mapArg2 s n)).mem) ∧
        (bits (runEntry s (mapArg0 s n)) 0 36 = bits (mapArg1 s n) 0 36 → ringFits s 1 = false →
          ∃ t, exec (.runCas n) s = .next t ∧ t.get MAP_CMDn_CTL_GO n = 1 ∧ t.map.ringWait = s.map.ringWait ++ [n] ∧
            SameMemory s t))) ∧
    (runWaits (mapTaken s n 2) n = true →
      ∃ t, exec (.runCas n) s = .next t ∧ t.get MAP_CMDn_CTL_GO n = 1 ∧ t.map.ringWait = s.map.ringWait ++ [n] ∧ SameMemory s t) ∧
    (runOk s (mapArg0 s n) = true → excReadable s (mapArg0 s n) = true → MapFree s n 6 → ringFits s 2 = true →
      ∃ t, exec (.runClear n) s = .next t ∧ MapDone t n 0 ∧
        t.mem = (runSet (removeEntries (mapTaken s n 6) (excPool s) (mapArg0 s n) fun _ => true) (mapArg0 s n) 0).mem) ∧
    (mapArg0 s n < 4096 → nsValid s (mapArg0 s n) = true →
      lbaSector s (mapArg0 s n) (mapArg1 s n) / 512 < nsRuns s (mapArg0 s n) →
      (xlatKind (translate (mapTaken s n 11) (nsBase s (mapArg0 s n) + lbaSector s (mapArg0 s n) (mapArg1 s n) / 512)
        (lbaSector s (mapArg0 s n) (mapArg1 s n) % 512))).1 ≠ 15 →
      ∃ t, exec (.lookup n) s = .next t ∧ MapDone t n 0 ∧ SameMemory s t ∧
        t.get MAP_CMDn_OUT0_V n = (xlatKind (translate (mapTaken s n 11)
          (nsBase s (mapArg0 s n) + lbaSector s (mapArg0 s n) (mapArg1 s n) / 512)
          (lbaSector s (mapArg0 s n) (mapArg1 s n) % 512))).1)

/-- Exception commands (R36, R38, R60): EXC_CAS of a sector without an exception ends with COMPARE_FAIL and changes no memory; where
the sector's media exception holds the expected location, the new entry is inserted. EXC_DEALLOC and EXC_MARK_LOST insert a span
entry of kind 2 and 3. An insertion that the pool refuses ends with POOL_FULL or PROBE_FAIL.

Re-runs and stripes (R24, R40, R60, R155): RERUN_OPEN answers a free watch, clean; RERUN_COMMIT of a watch that an update has
touched ends with DIRTY and changes no memory, of a clean one with OK, and either closes the watch (log entry 14). STRIPE_HDR and
STRIPE_MEMBER write the descriptor; a stripe that leaves the free state has its signature cleared.

States that each of these commands completes, with its effect: `excCas`, `excDealloc`, `excMarkLost`, `rerunOpen`, `rerunCommit`,
`stripeHdr`, `stripeMember`. -/
def Obligations.ExceptionsAndReruns : Prop :=
  (∀ (n run q span : Nat) (s : State), MapReady s n → MapFree s n 3 → mapArg0 s n = run → runOk s run = true →
    excReadable s run = true →
    (∀ e, setBits (mapArg2 s n) 63 1 1 = e → bits (mapArg1 s n) 48 9 = q → eKind e ≠ 1 → eSector e = q → q + eSpan e ≤ 512 →
      (findEntry s (excPool s) run q = none → ∃ t, exec (.excCas n) s = .next t ∧ MapDone t n 1 ∧ SameMemory s t) ∧
      (∀ b k x u, findEntry s (excPool s) run q = some (b, k, x) → eKind x = 0 → eLoc x = bits (mapArg1 s n) 0 48 →
        ringFits s 1 = true → setException (mapTaken s n 3) run e = .ok u →
        ∃ t, exec (.excCas n) s = .next t ∧ MapDone t n 0 ∧ t.mem = u.mem)) ∧
    (bits (mapArg1 s n) 0 9 = q → bits (mapArg1 s n) 9 9 + 1 = span → q + span ≤ 512 → ringFits s 1 = true →
      (∀ u, setException (mapTaken s n 4) run (mkSpanEntry 2 q span) = .ok u →
        ∃ t, exec (.excDealloc n) s = .next t ∧ MapDone t n 0 ∧ t.mem = u.mem) ∧
      (∀ u, setException (mapTaken s n 5) run (mkSpanEntry 3 q span) = .ok u →
        ∃ t, exec (.excMarkLost n) s = .next t ∧ MapDone t n 0 ∧ t.mem = u.mem) ∧
      (∀ u, setException (mapTaken s n 4) run (mkSpanEntry 2 q span) = .error (.poolFull, u) →
        ∃ t, exec (.excDealloc n) s = .next t ∧ MapDone t n 2 ∧ t.mem = u.mem) ∧
      (∀ u, setException (mapTaken s n 5) run (mkSpanEntry 3 q span) = .error (.probeFail, u) →
        ∃ t, exec (.excMarkLost n) s = .next t ∧ MapDone t n 3 ∧ t.mem = u.mem))) ∧
  (∀ (n : Nat) (s : State), MapReady s n → jnlHard s = false →
    (∀ w, runOk s (mapArg0 s n) = true → stgReadable s (mapArg0 s n) = true → tfree s.map.watches 0 4096 = some w →
      ∃ t, exec (.rerunOpen n) s = .next t ∧ MapDone t n 0 ∧ t.get MAP_CMDn_OUT0_V n = w ∧ SameMemory s t ∧
        (∃ x, tget t.map.watches w = some x ∧ x.run = mapArg0 s n ∧ x.dirty = false)) ∧
    (∀ w, tget s.map.watches (mapArg0 s n) = some w → MapFree s n 8 → runWordOk s (mapArg1 s n) = true →
      excReadable s w.run = true →
      (w.dirty = true → ∃ t, exec (.rerunCommit n) s = .next t ∧ MapDone t n 5 ∧ SameMemory s t ∧
        tget t.map.watches (mapArg0 s n) = none) ∧
      (w.dirty = false → ringFits s 2 = true → ∃ t, exec (.rerunCommit n) s = .next t ∧ MapDone t n 0 ∧
        tget t.map.watches (mapArg0 s n) = none)) ∧
    (mapArg0 s n < s.get MAP_STRIPE_COUNT_COUNT → ringFits s 1 = true →
      (∃ t, exec (.stripeHdr n) s = .next t ∧ MapDone t n 0 ∧
        (stripeState (stripeHdr s (mapArg0 s n)) = 0 → stripeState (mapArg1 s n) ≠ 0 →
          t.mem = (writeLe (zeroBytes s (stripeAddr s (mapArg0 s n) + 152) 64) (stripeAddr s (mapArg0 s n)) 8 (mapArg1 s n)).mem) ∧
        (stripeState (stripeHdr s (mapArg0 s n)) ≠ 0 ∨ stripeState (mapArg1 s n) = 0 →
          t.mem = (writeLe s (stripeAddr s (mapArg0 s n)) 8 (mapArg1 s n)).mem)) ∧
      (bits (mapArg1 s n) 0 6 ≤ 33 → ∃ t, exec (.stripeMember n) s = .next t ∧ MapDone t n 0 ∧
        t.mem = (putMember s (mapArg0 s n) (bits (mapArg1 s n) 0 6) (bits (mapArg1 s n) 6 32)).mem)))

/-- The journal (R42, R45, R46, R60): JNL_APPEND enters its record in the open page and answers the page's sequence; a JNL_SYNC, a
MAP_JNL_SYNC write and the flush timer close the open page, and a SHUTDOWN write closes a page in every case; the verified program
of a page's second copy makes it durable.

States that each of these commands completes, with its effect: `jnlAppend`, `jnlSync`, `mapJnlSyncSync`, `journalFlushTimer`,
`mapJnlSyncShutdown`, `journalPageProgramDone`. -/
def Obligations.JournalPages : Prop :=
  (∀ (n : Nat) (s : State), MapReady s n →
    (ringFits s 1 = true → (openPage s).recs.length + 1 < pageRecs →
      ∃ t p, exec (.jnlAppend n) s = .next t ∧ MapDone t n 0 ∧ t.get MAP_CMDn_OUT0_V n = (openPage s).seq % 2 ^ MAP_CMDn_OUT0_V.width ∧ t.map.page = some p ∧
        p.recs = (openPage s).recs ++ [argRec (mapArg0 s n) (mapArg1 s n)] ∧ p.seq = (openPage s).seq ∧ SameMemory s t) ∧
    (s.map.page = none → durableTo s s.map.lastClosed = true →
      ∃ t, exec (.jnlSync n) s = .next t ∧ MapDone t n 0 ∧ t.get MAP_CMDn_OUT0_V n = s.map.lastClosed % 2 ^ MAP_CMDn_OUT0_V.width) ∧
    (∀ p, s.map.page = some p →
      ∃ t, exec (.jnlSync n) s = .next t ∧ t.map.page = none ∧ t.map.lastClosed = p.seq ∧
        t.get MAP_JNL_SEQ_SEQ = (p.seq + 1) % 2 ^ MAP_JNL_SEQ_SEQ.width)) ∧
  (∀ (p : JPage) (s : State), s.live = true → s.map.page = some p →
    (∃ t, exec .mapJnlSyncSync s = .next t ∧ t.map.page = none ∧ t.map.closed.length = s.map.closed.length + 1) ∧
    (p.recs ≠ [] → s.get MAP_JNL_CFG_FLUSH_MS ≠ 0 → p.firstUs + 1000 * s.get MAP_JNL_CFG_FLUSH_MS ≤ s.timeUs →
      ∃ t, exec .journalFlushTimer s = .next t ∧ t.map.page = none ∧ t.map.closed.length = s.map.closed.length + 1)) ∧
  (∀ s : State, s.live = true → s.on MAP_CTRL_ENABLE = true →
    (s.map.page.isSome = true ∨ ringUsed s < ringPages →
      ∃ t, exec .mapJnlSyncShutdown s = .next t ∧ t.map.page = none ∧ t.map.closed.length = s.map.closed.length + 1 ∧
        t.map.shutSeq = (openPage s).seq) ∧
    (s.map.page = none → ringPages ≤ ringUsed s →
      ∃ t, exec .mapJnlSyncShutdown s = .next t ∧ t.map = { s.map with shutWait := true })) ∧
  (∀ s : State, s.live = true → s.map.page = none →
    (∃ t, exec .mapJnlSyncSync s = .next t ∧ t.map = s.map ∧ SameMemory s t)) ∧
  (∀ (k media : Nat) (c : JClosed) (s : State), s.live = true → s.map.closed = [c] → c.copyA = .programming k →
    s.map.syncWait = [] → s.map.ringWait = [] → s.map.shutWait = false → s.map.recov = none →
    (c.copyB = .programming 1 → ∃ t, exec (.journalPageProgramDone c.page.seq false media true) s = .next t ∧
      t.map.closed = [{ c with copyA := .verified }] ∧ t.get MAP_JNL_DURABLE_SEQ = s.get MAP_JNL_DURABLE_SEQ) ∧
    (c.copyB = .verified → ∃ t, exec (.journalPageProgramDone c.page.seq false media true) s = .next t ∧ t.map.closed = [] ∧
      t.get MAP_JNL_DURABLE_SEQ = c.page.seq % 2 ^ MAP_JNL_DURABLE_SEQ.width))

/-- Retirement, the re-run queue, the checkpoint base, the namespace table, the enable, a walker lookup, and replay (R32, R35, R39,
R42, R48, R54, R59, R61).

States that each of these commands completes, with its effect: `rowRetire`, `mapRerunPop`, `mapCkptBeginWrite`, `mapNsWrite`, `mapEnable`,
`walkerLookup`, `mapReplayGo`, `mapReplaySweep`. -/
def Obligations.MapRegisters : Prop :=
  (∀ (stripe row : Nat) (h : HeldRow) (s : State), s.live = true → s.on MAP_CTRL_ENABLE = true →
    s.map.heldRows = [h] → h.stripe = stripe → h.row = row → s.hbm.probeWait = [] →
    (mayRetire s h = true → ∃ t, exec (.rowRetire stripe row) s = .next t ∧ t.map.heldRows = []) ∧
    (mayRetire s h = false → ∃ t, exec (.rowRetire stripe row) s = .next t ∧ Within ⟨[], []⟩ s t)) ∧
  (∀ s : State, s.live = true →
    (s.map.rerun = [] → ∃ t, exec .mapRerunPop s = .next t ∧ t.bus = .data 0 ∧ OnlyFields [] s t) ∧
    (∀ run reason r, s.map.rerun = (run, reason) :: r →
      ∃ t, exec .mapRerunPop s = .next t ∧ t.bus = .data (run + reason * 2 ^ 29 + 2 ^ 31) ∧ t.map.rerun = r ∧
        OnlyFields [MAP_RERUN_DEPTH_DEPTH] s t) ∧
    (∀ q, ∃ t, exec (.mapCkptBeginWrite q) s = .next t ∧ t.get MAP_CKPT_BEGIN_SEQ = q % 2 ^ MAP_CKPT_BEGIN_SEQ.width ∧
      OnlyFields [MAP_CKPT_BEGIN_SEQ, MAP_STATUS_UPD_STALL] s t) ∧
    (∀ n v, n < 4096 →
      (bits v 77 1 = 1 → nsOverlaps s n (bits v 0 29) (bits v 32 29) = true ∨
          s.get MAP_RUN_LIMIT_RUN_COUNT < bits v 0 29 + bits v 32 29 →
        ∃ t, exec (.mapNsWrite n v) s = .next t ∧ t.get MAP_STATUS_NS_OVERLAP = 1 ∧ OnlyFields [MAP_STATUS_NS_OVERLAP] s t) ∧
      (bits v 77 1 = 0 ∨ (nsOverlaps s n (bits v 0 29) (bits v 32 29) = false ∧
          bits v 0 29 + bits v 32 29 ≤ s.get MAP_RUN_LIMIT_RUN_COUNT) →
        ∃ t, exec (.mapNsWrite n v) s = .next t ∧ t.get MAP_NSn_BASE_RUN n = bits v 0 29 ∧ t.get MAP_NSn_RUN_COUNT n = bits v 32 29 ∧
          t.get MAP_NSn_KEY_SLOT n = bits v 64 12 ∧ t.get MAP_NSn_LBA_4K n = bits v 76 1 ∧ t.get MAP_NSn_VALID n = bits v 77 1 ∧
          (nsValid s n = false ∨ nsSlot s n = bits v 64 12 →
            OnlyFields [MAP_NSn_BASE_RUN, MAP_NSn_RUN_COUNT, MAP_NSn_KEY_SLOT, MAP_NSn_LBA_4K, MAP_NSn_VALID] s t) ∧
          (nsValid s n = true → nsSlot s n ≠ bits v 64 12 → t.bur = (invalRuns s (nsBase s n) (nsRuns s n)).bur))) ∧
    (s.on MAP_CTRL_ENABLE = false → s.map.ringBufs ≠ [] → ∃ t, exec .mapEnable s = .next t ∧ t.get MAP_CTRL_ENABLE = 1 ∧
      t.get MAP_STATUS_READY = b2n (!s.on MAP_CTRL_REPLAY)) ∧
    (∀ l u, s.on MAP_CTRL_ENABLE = false → s.map.ringBufs = [] → claim s 3 8 = some (l, u) →
      ∃ t, exec .mapEnable s = .next t ∧ t.get MAP_CTRL_ENABLE = 1 ∧ t.map.ringBufs = l ∧ t.bpm = u.bpm) ∧
    (∀ ns q, s.on MAP_STATUS_READY = true → ∃ t, exec (.walkerLookup ns q) s = .next t ∧
      t.get MAP_LOOKUP_CNT_COUNT = (s.bump MAP_LOOKUP_CNT_COUNT).get MAP_LOOKUP_CNT_COUNT ∧ SameMemory s t) ∧
    (s.on MAP_CTRL_REPLAY = true → (∃ t, exec .mapReplayGo s = .next t ∧ t.get MAP_REPLAY_CTL_DONE = 1 ∧
        (replayRecs s (s.get MAP_REPLAY_ADDR_ADDR * 65536) = none → t.get MAP_REPLAY_CTL_ERR = 1 ∧ SameMemory s t)) ∧
      (∃ t, exec .mapReplaySweep s = .next t ∧ t.get MAP_REPLAY_CTL_SWEEP_DONE = 1)) ∧
    (s.on MAP_CTRL_REPLAY = false → ∃ t, exec .mapReplayGo s = .next t ∧ Within ⟨[], []⟩ s t))

/-! ## FCH: channels, dies, operations, rings -/

/-- Enables and training (R64, R67 to R71): a den enabled before FCH waits; with FCH active its channels train where its rail is in
the window, and a wrong rail refuses it. A passed continuity check leads to step 2; the first bit order of the search's sequence that
passes is taken, and a search that finds none fences the channel; a training result that passes step 6 trains it, and one that fails
is tried again from step 5. A retrain that is commanded or due begins once the channel is quiet.

Fences and continuity checks of a channel whose dies are idle (R68, R69, R76): a fence takes the channel out of use and advances
the epoch of every active die; a check without a fault ends with CONT_DONE, and one that finds a short or an open records it and
fences the channel. No check runs on a channel that declares no die (R62).

States that each of these commands completes, with its effect: `fchEnable`, `denEnable`, `trainingStepComplete`, `retrain`,
`scheduledRetrain`, `channelFence`, `contCheck`. -/
def Obligations.ChannelStates : Prop :=
  ((∀ s : State, s.live = true →
    (s.on FCH_GCTRL_ENABLE = false → ∃ t, exec .fchEnable s = .next t ∧ t.get FCH_GCTRL_ENABLE = 1) ∧
    (∀ den, den < 16 → s.on FCH_DEN_CFG_ENABLE den = false →
      (s.on FCH_GCTRL_ENABLE = false → ∃ t, exec (.denEnable den) s = .next t ∧ t.get FCH_DEN_CFG_ENABLE den = 1 ∧
        t.fch.denWait = s.fch.denWait ++ [den] ∧ OnlyFields [FCH_DEN_CFG_ENABLE] s t) ∧
      (s.on FCH_GCTRL_ENABLE = true → vccqOk s den = true →
        ∃ t, exec (.denEnable den) s = .next t ∧ t.get FCH_DEN_CFG_ENABLE den = 1 ∧
          ∀ ch, ch / 16 = den → mayTrain s ch = true → (chanOf s ch).step = 0 → (chanOf t ch).step = 1) ∧
      (s.on FCH_GCTRL_ENABLE = true → vccqOk s den = false →
        ∃ t, exec (.denEnable den) s = .next t ∧ t.get FCH_DEN_CFG_ENABLE den = 0 ∧ t.get FCH_DEN_STATUS_VCCQ_MISMATCH den = 1 ∧
          OnlyFields [FCH_DEN_CFG_ENABLE, FCH_DEN_STATUS_VCCQ_MISMATCH] s t ∧ ∀ ch, chanOf t ch = chanOf s ch))) ∧
  (∀ (ch : Nat) (s : State), s.live = true → ch < 256 → ChannelsRest s ch →
    ((chanOf s ch).step = 1 → ∃ t, exec (.trainingStepComplete ch (.cont none)) s = .next t ∧ (chanOf t ch).step = 2) ∧
    ((chanOf s ch).step = 2 → ∃ t, exec (.trainingStepComplete ch .ready) s = .next t ∧ (chanOf t ch).step = 3) ∧
    ((chanOf s ch).step = 3 →
      ∀ l k : List Nat,
        (∀ m, firstOrder s ch l = some m → ∃ t, exec (.trainingStepComplete ch (.order l k)) s = .next t ∧ (chanOf t ch).step = 4 ∧
          t.get FCH_CH_SWIZZLE_MAP ch = m) ∧
        (firstOrder s ch l = none → ∃ t, exec (.trainingStepComplete ch (.order l k)) s = .next t ∧
          t.get FCH_CH_STATUS_ORDER_FAIL ch = 1 ∧ t.get FCH_CH_STATUS_FENCED ch = 1)) ∧
    ((chanOf s ch).step = 4 → ∀ l, ∃ t, exec (.trainingStepComplete ch (.ids l)) s = .next t ∧ (chanOf t ch).step = 5) ∧
    (s.on FCH_DEN_STATUS_ACTIVE (ch / 16) = true ∨ (∀ x ∈ denChans (ch / 16), (chanOf s x).step = 0 ∨ 5 ≤ (chanOf s x).step) →
      ((chanOf s ch).step = 5 ∨ (chanOf s ch).step = 6 → (chanOf s ch).fails < 2 →
        ∃ t, exec (.trainingStepComplete ch (.result false)) s = .next t ∧ (chanOf t ch).step = 5 ∧
          (chanOf t ch).fails = (chanOf s ch).fails + 1) ∧
      ((chanOf s ch).step = 5 → ∃ t, exec (.trainingStepComplete ch (.result true)) s = .next t ∧ (chanOf t ch).step = 6) ∧
      ((chanOf s ch).step = 6 → ∃ t, exec (.trainingStepComplete ch (.result true)) s = .next t ∧ (chanOf t ch).step = 0 ∧
        t.get FCH_CH_STATUS_TRAINED ch = 1))) ∧
  (∀ (ch : Nat) (s : State), s.live = true → ch < 256 → s.on FCH_CH_STATUS_TRAINED ch = true →
    (s.on FCH_GCTRL_ENABLE = true → s.on FCH_DEN_CFG_ENABLE (ch / 16) = true → chanQuiet s ch = true → (chanOf s ch).retraining = false → (chanOf s ch).step = 0 → (chanOf s ch).contFault = false →
      (∃ t, exec (.retrain ch) s = .next t ∧ t.get FCH_CH_CTRL_RETRAIN ch = 1 ∧ (chanOf t ch).retraining = true ∧
        (chanOf t ch).step = 2) ∧
      (retrainDue s ch = true → retrainSlot s ch = true → ∃ t, exec (.scheduledRetrain ch) s = .next t ∧
        (chanOf t ch).retraining = true ∧ (chanOf t ch).step = 2)) ∧
    (chanQuiet s ch = false →
      (∃ t, exec (.retrain ch) s = .next t ∧ t.get FCH_CH_CTRL_RETRAIN ch = 1 ∧ chanOf t ch = { chanOf s ch with retrain := true }) ∧
      (retrainDue s ch = true →
        ∃ t, exec (.scheduledRetrain ch) s = .next t ∧ chanOf t ch = { chanOf s ch with retrain := true } ∧ OnlyFields [] s t)))) ∧
  (∀ (ch : Nat) (s : State), s.live = true → ch < 256 → Quiet s → ChannelsRest s ch →
    (∃ t, exec (.channelFence ch) s = .next t ∧ t.get FCH_CH_CTRL_FENCE ch = 1 ∧ t.get FCH_CH_STATUS_FENCED ch = 1 ∧
      t.get FCH_CH_STATUS_TRAINED ch = 0 ∧
      ∀ d, d < 8 → dieState s (ch * 8 + d) = 1 → dieEpoch s (ch * 8 + d) < 0xFFFF →
        dieState t (ch * 8 + d) = 2 ∧ dieEpoch t (ch * 8 + d) = dieEpoch s (ch * 8 + d) + 1) ∧
    ((chanOf s ch).step = 0 → (chanOf s ch).present ≠ 0 → s.on FCH_GCTRL_ENABLE = true → s.on FCH_DEN_CFG_ENABLE (ch / 16) = true →
      (∃ t, exec (.contCheck ch none) s = .next t ∧ t.get FCH_CH_STATUS_CONT_DONE ch = 1 ∧ t.get FCH_CH_CTRL_CONT_CHECK ch = 0 ∧
        t.get FCH_CH_STATUS_FENCED ch = s.get FCH_CH_STATUS_FENCED ch) ∧
      (∀ line, s.on FCH_CH_STATUS_FENCED ch = false →
        ∃ t, exec (.contCheck ch (some ⟨0, line, 0, 0⟩)) s = .next t ∧ t.get FCH_CH_STATUS_CONT_DONE ch = 1 ∧
          t.get FCH_CH_STATUS_SHORT_GND ch = 1 ∧ t.get FCH_CH_STATUS_FENCED ch = 1)) ∧
    ((chanOf s ch).present = 0 → ∀ f, ∃ t, exec (.contCheck ch f) s = .next t ∧ t.get FCH_CH_CTRL_CONT_CHECK ch = 1 ∧
      OnlyFields [FCH_CH_CTRL_CONT_CHECK] s t))

/-- Die commands (R75, R76, R79, Table 3.5): FENCE of an active idle die leads to fenced with the next epoch, RETIRE of a fenced one
to retired, REQUALIFY begins from fenced or retired while the den is active, its passing end leads to requalifying with the same
epoch and a failing one back with the next, ACTIVATE leads to active. From any other state a command completes with BAD_STATE and
leaves the state. The restoring write of a state is taken only before LOCK, with the epoch unchanged.

States that each of these commands completes, with its effect: `dieFence`, `requalify`, `dieStateRestore`, `retire`, `activate`,
`requalifyDone`. -/
def Obligations.DieStates : Prop :=
  (∀ (die : Nat) (s : State), s.live = true → die < 2048 → Quiet s → ChannelsRest s (chOf die) → requalRuns s die = false →
    (dieState s die = 1 → dieEpoch s die < 0xFFFF → ∃ t, exec (.dieFence die) s = .next t ∧ DieCommandDone t die 0 ∧
      dieState t die = 2 ∧ dieEpoch t die = dieEpoch s die + 1) ∧
    (dieState s die = 1 → dieEpoch s die = 0xFFFF → ∃ t, exec (.dieFence die) s = .next t ∧ DieCommandDone t die 0 ∧
      dieState t die = 3 ∧ dieEpoch t die = 0xFFFF) ∧
    (dieState s die = 2 ∨ dieState s die = 3 → s.on FCH_DEN_STATUS_ACTIVE (denOf die) = true →
      (dieState s die = 2 ∨ dieEpoch s die < 0xFFFF → ∃ t, exec (.requalify die) s = .next t ∧
        (dieOf t die).requal = some (dieState s die) ∧ dieState t die = dieState s die) ∧
      (dieState s die = 3 → dieEpoch s die = 0xFFFF → ∃ t, exec (.requalify die) s = .next t ∧ DieCommandDone t die 3 ∧
        (dieOf t die).requal = none)) ∧
    (∀ v, v = 2 ∨ v = 3 →
      (s.on FCH_GCTRL_LOCK = false → ∃ t, exec (.dieStateRestore die v) s = .next t ∧ dieState t die = v ∧
        dieEpoch t die = dieEpoch s die) ∧
      (s.on FCH_GCTRL_LOCK = true → ∃ t, exec (.dieStateRestore die v) s = .next t ∧ dieState t die = dieState s die))) ∧
  (∀ (die : Nat) (s : State), s.live = true → die < 2048 →
    (requalRuns s die = false →
      (dieState s die = 2 → ∃ t, exec (.retire die) s = .next t ∧ DieCommandDone t die 0 ∧ dieState t die = 3) ∧
      (dieState s die = 4 → ∃ t, exec (.activate die) s = .next t ∧ DieCommandDone t die 0 ∧ dieState t die = 1)) ∧
    (requalRuns s die = true ∨ dieState s die ≠ 2 → ∃ t, exec (.retire die) s = .next t ∧ DieCommandDone t die 1 ∧
      dieState t die = dieState s die) ∧
    (requalRuns s die = true ∨ dieState s die ≠ 4 → ∃ t, exec (.activate die) s = .next t ∧ DieCommandDone t die 1 ∧
      dieState t die = dieState s die)) ∧
  (∀ (die st : Nat) (id : DieId) (s : State), s.live = true → die < 2048 → (dieOf s die).requal = some st →
    s.on FCH_CH_STATUS_FENCED (chOf die) = false → st < 4 → dieEpoch s die < 0xFFFF →
    (∀ m, id.responds = true → matchModel s id = some m → m < 8 → s.get FCH_DEN_STATUS_RATE (denOf die) ≠ 5 →
      ∃ t, exec (.requalifyDone die none id true) s = .next t ∧ DieCommandDone t die 0 ∧ dieState t die = 4 ∧
        dieEpoch t die = dieEpoch s die ∧ (dieOf t die).requal = none) ∧
    (∃ t, exec (.requalifyDone die none id false) s = .next t ∧ DieCommandDone t die 2 ∧ dieState t die = st ∧
      dieEpoch t die = dieEpoch s die + 1 ∧ (dieOf t die).requal = none)) ∧
  (∀ (die st m : Nat) (id : DieId) (s : State), s.live = true → die < 2048 → (dieOf s die).requal = some st → DieIdle s die →
    s.on FCH_CH_STATUS_FENCED (chOf die) = true → id.responds = true → matchModel s id = some m → m < 8 →
    s.get FCH_DEN_STATUS_RATE (denOf die) ≠ 5 →
    ∃ t, exec (.requalifyDone die none id true) s = .next t ∧ DieCommandDone t die 0 ∧ dieState t die = 4 ∧
      t.get FCH_CH_STATUS_FENCED (chOf die) = 0 ∧ t.get FCH_CH_STATUS_TRAINED (chOf die) = 1)

/-- Operations of a die (R73, R74, R77, R81 to R84, R87, R88): the scheduler issues the operation that its rules pick where tokens
and the channel's bus allow, and takes it off the queue; a poll at its time is answered on the bus, and what it reads of RDY and ARDY
is kept; a response of the present epoch to an operation that a poll has read ready ends a descriptor's erase with its status, and one
of an older epoch is discarded and counted; an operation past its timeout is reset; suspend and resume where the conditions hold; an
operation past its age limit competes in a higher class.

States that each of these commands completes, with its effect: `mediaOperationIssue`, `statusPoll`, `mediaOperationComplete`,
`pollTimeout`, `dqsTimeout`, `mediaSuspend`, `mediaResume`, `agingPromotion`. -/
def Obligations.DieOperations : Prop :=
  (∀ (die : Nat) (o : MOp) (s : State), s.live = true → chanRuns s die = true → nextOp s die = some o → tokensFor s die o = true →
    busTurn s die = true → RingRests s (denOf die) →
    ∃ t pre args data, exec (.mediaOperationIssue die) s = .next t ∧ o ∉ (dieOf t die).queue ∧
      t.out = pre ++ [dieOut die (opCode o.kind) o.media o.count args data] ∧
      ((dieOf s die).run = none → ∃ r, (dieOf t die).run = some r ∧ r.op.media = o.media ∧ r.op.src = o.src ∧
        r.op.epoch = dieEpoch s die ∧ r.issuedUs = s.timeUs)) ∧
  (∀ (die status : Nat) (r : Running) (s : State), s.live = true → Quiet s → answering (dieOf s die) = some r →
    staleOp s die r = false → pollDue s die r = true → ∃ t, exec (.statusPoll die status) s = .next t ∧
      t.out = s.out ++ [dieOut die opPoll r.op.media 0 [(status : Int)] []] ∧ OnlyFields [] s t ∧
      answering (dieOf t die) = some { r with polledUs := some (runTime s r), ready := statusReady status }) ∧
  (∀ (die : Nat) (d : DieSt) (r : Running) (s : State), s.live = true → die < 2048 → Quiet s → dieOf s die = d → d.run = some r →
    d.reads = [] → d.queue = [] → r.suspended = false → r.merged = [] →
    (∀ x, (chanOf s x).contWait = none ∧ (chanOf s x).retrain = false) → RingRests s (denOf die) →
    (∀ den i x, r.op.src = .desc den i → r.op.kind = .erase → r.ready = true → staleOp s die r = false → x.fail = [] →
      ∃ t, exec (.mediaOperationComplete die x) s = .next t ∧ (dieOf t die).run = none ∧
        t.mem = (descEnd s den i 1).mem) ∧
    (∀ den i x, r.op.src = .desc den i → r.op.kind = .erase → r.ready = true → staleOp s die r = true →
      ∃ t, exec (.mediaOperationComplete die x) s = .next t ∧ (dieOf t die).run = none ∧ t.mem = (descEnd s den i 7).mem ∧
        t.get FCH_DIEd_CNT_EPOCH_DISCARD_CNT (chOf die) (die % 8)
          = (s.bump FCH_DIEd_CNT_EPOCH_DISCARD_CNT (chOf die) 1 (die % 8)).get FCH_DIEd_CNT_EPOCH_DISCARD_CNT (chOf die) (die % 8)) ∧
    (r.op.src = .fch → r.op.kind = .reset → pollExpired s die r = true → s.get FLT_CLASSc_CFG_N 0 = 0 →
      ∃ t, exec (.pollTimeout die) s = .next t ∧ (dieOf t die).run = none ∧ t.out = s.out ∧
        t.get FCH_DIEd_CNT_POLL_TIMEOUT_CNT (chOf die) (die % 8)
          = (s.bump FCH_DIEd_CNT_POLL_TIMEOUT_CNT (chOf die) 1 (die % 8)).get FCH_DIEd_CNT_POLL_TIMEOUT_CNT (chOf die) (die % 8)) ∧
    (∀ den i, r.op.src = .desc den i → r.op.kind = .erase → pollExpired s die r = true → staleOp s die r = false →
      s.get FLT_CLASSc_CFG_N 0 = 0 →
      ∃ t, exec (.pollTimeout die) s = .next t ∧ (dieOf t die).run = some (lunReset s die) ∧
        t.out = s.out ++ [dieOut die opResetLun 0 0 [] []] ∧ t.mem = (descEnd s den i 8).mem) ∧
    (∀ den i, r.op.src = .desc den i → r.op.kind = .readStatus → r.op.retried = false → staleOp s die r = false →
      s.get FLT_CLASSc_CFG_N 1 = 0 →
      ∃ t, exec (.dqsTimeout die) s = .next t ∧ t.get FCH_CH_STATUS_DQS_TIMEOUT (chOf die) = 1 ∧
        (dieOf t die).run = some { r with
          op := { r.op with retried := true }, issuedUs := s.timeUs, resumedUs := s.timeUs, ranUs := 0, polledUs := none, ready := false } ∧
        (chanOf t (chOf die)).retrain = true)) ∧
  (∀ (die : Nat) (r : Running) (s : State), s.live = true → (dieOf s die).run = some r →
    (maySuspend s die = true → chanRuns s die = true → ∃ t, exec (.mediaSuspend die) s = .next t ∧
      (∃ x, (dieOf t die).run = some x ∧ x.suspended = true ∧ x.suspends = r.suspends + 1) ∧
      t.out = s.out ++ [dieOut die opSuspend r.op.media 0 [] []]) ∧
    (mayResume s die = true → ∃ t, exec (.mediaResume die) s = .next t ∧
      (∃ x, (dieOf t die).run = some x ∧ x.suspended = false ∧ x.resumedUs = s.timeUs) ∧
      t.out = s.out ++ [dieOut die opResume r.op.media 0 [] []])) ∧
  (∀ (die i : Nat) (o : MOp) (s : State), s.live = true → (dieOf s die).queue[i]? = some o → agedNow s (denOf die) o = true →
    ∃ t, exec (.agingPromotion die i) s = .next t ∧ (dieOf t die).queue[i]? = some { o with eff := min o.eff (agedClass o) } ∧
      (dieOf t die).queue.length = (dieOf s die).queue.length)

/-- Rings (R86): an enabled ring begins at index 0; a written tail within the ring is kept, one outside it is not; an enabled ring is
read up to the tail, and a descriptor of a reserved OP is rejected with BAD_DESC.

States that each of these commands completes, with its effect: `ringEnable`, `ringTailWrite`. -/
def Obligations.DescriptorRings : Prop :=
  ∀ (den tail : Nat) (s : State), s.live = true → den < 16 →
    (s.on FCH_GCTRL_ENABLE = false → ∃ t, exec (.ringEnable den) s = .next t ∧ t.get FCH_DEN_RING_CFG_ENABLE den = 1 ∧
      t.get FCH_DEN_RING_HEAD_INDEX den = 0 ∧ OnlyFields [FCH_DEN_RING_CFG_ENABLE, FCH_DEN_RING_HEAD_INDEX] s t) ∧
    (s.on FCH_GCTRL_ENABLE = false ∨ s.on FCH_DEN_RING_CFG_ENABLE den = false → tail < ringSize s den →
      ∃ t, exec (.ringTailWrite den tail) s = .next t ∧
        t.get FCH_DEN_RING_TAIL_INDEX den = tail % 2 ^ FCH_DEN_RING_TAIL_INDEX.width ∧ OnlyFields [FCH_DEN_RING_TAIL_INDEX] s t) ∧
    (ringSize s den ≤ tail → ∃ t, exec (.ringTailWrite den tail) s = .next t ∧ Within ⟨[], []⟩ s t) ∧
    (s.on FCH_GCTRL_ENABLE = true → s.on FCH_DEN_RING_CFG_ENABLE den = true → tail < ringSize s den →
      tail < 2 ^ FCH_DEN_RING_TAIL_INDEX.width → tail = (s.get FCH_DEN_RING_HEAD_INDEX den + 1) % ringSize s den →
      s.get FCH_DEN_RING_HEAD_INDEX den ≠ tail → descKind (readLeD s (descAddr s den (s.get FCH_DEN_RING_HEAD_INDEX den)) 1) = none →
      s.on CDC_CTRL_ENABLE = true →
      ∃ t, exec (.ringTailWrite den tail) s = .next t ∧ t.get FCH_DEN_RING_HEAD_INDEX den = tail ∧
        t.get FCH_DEN_STATUS_RING_ERR den = 1 ∧ t.mem = (descEnd s den (s.get FCH_DEN_RING_HEAD_INDEX den) 0x0A).mem)

/-! ## CDC: reconstructions, the read-around budget, rows, rebuild and copy slots -/

/-- Reconstructions and the read-around budget (R102, R104 to R107): a reconstruction takes the 32 active members of least predicted
wait, at a cost of 32 drawn once; with fewer it ends and is counted, and an early one is not begun again; in the power-fail flush it
ends at once. A microsecond tick adds RATE to LEVEL, within
DEPTH. A queued class 1 read whose wait passes the threshold and the margin is taken from its die and reconstructed.

The codec's enable and the encoding of rows (R101, R113): enabled with nothing waiting, CDC changes its enable only; while it is
disabled no row is encoded; the staged data that goes to a row of a stripe, which is opened where it is free, is sealed and put into an
accumulator, or ACC_STALL is set where all of them are busy.

States that each of these commands completes, with its effect: `reconstruction`, `raBudgetTick`, `readAroundRecheck`, `cdcEnable`,
`rowEncode`. -/
def Obligations.CodecWork : Prop :=
  ((∀ (id : Nat) (r : Recon) (s : State), s.live = true → tget s.cdc.recons id = some r → r.kind ≠ .spent →
    reconQueued s id r = false →
    (s.fch.flushing = true → ∃ t, exec (.reconstruction id) s = .next t ∧ tget t.cdc.recons id = none ∧ OnlyFields [] s t) ∧
    (s.fch.flushing = false → r.members = [] →
      (∀ ps, (activeMembers s r.stripe r.pos r.target.slc).take 32 = ps → ps.length = 32 →
        (∀ p ∈ ps, mediaValid s (memberOp s id r p).media = true) →
        ∃ t, exec (.reconstruction id) s = .next t ∧ tget t.cdc.recons id = some { r with members := ps, paid := true } ∧
          t.cdc.level = (if r.paid then s else drawBudget s 32).cdc.level) ∧
      ((activeMembers s r.stripe r.pos r.target.slc).length < 32 → r.kind = .early →
        ∃ t, exec (.reconstruction id) s = .next t ∧ tget t.cdc.recons id = some { r with kind := .spent, members := [], got := [] } ∧
          t.get CDC_CNTn_COUNT 7 = (s.bump CDC_CNTn_COUNT 7).get CDC_CNTn_COUNT 7))) ∧
  (∀ s : State, s.live = true →
    (∃ t, exec .raBudgetTick s = .next t ∧ t.get CDC_RA_RATE_RATE = raRate s % 2 ^ CDC_RA_RATE_RATE.width ∧
      t.cdc.level = clampInt (-(s.get CDC_RA_BUDGET_DEPTH * 1024 : Int)) (s.get CDC_RA_BUDGET_DEPTH * 1024) (s.cdc.level + raRate s) ∧
      OnlyFields [CDC_RA_RATE_RATE, CDC_RA_LEVEL_LEVEL] s t) ∧
    (s.get CDC_RA_CFG_RECHECK = 0 → ∃ t, exec .readAroundRecheck s = .next t ∧ Within ⟨[], []⟩ s t)) ∧
  (∀ (die st row pos : Nat) (d : DieSt) (o : MOp) (s : State), s.live = true → s.get CDC_RA_CFG_RECHECK ≠ 0 →
    s.on CDC_RA_CFG_ENABLE = true → s.on CDC_CTRL_ENABLE = true → s.fch.dies = [(die, d)] → d.queue = [o] → o.kind = .read →
    o.cls = 1 → o.home = some (st, row, pos) → overrun s die = false → s.get CDC_RA_CFG_THRESHOLD < predWaitBehind s die o.slc [] →
    32 ≤ (activeMembers s st pos o.slc).length →
    (((activeMembers s st pos o.slc).take 32).map fun p => predWaitMode s (memberDie (memberWord s st p)) o.slc).foldl max 0
      + s.get CDC_RA_CFG_MARGIN < predWaitBehind s die o.slc [] →
    (budgetHolds s = true → ∃ t, exec .readAroundRecheck s = .next t ∧ (dieOf t die).queue = [] ∧
      tget t.cdc.recons s.cdc.nextRecon = some ⟨.busy, o, st, row, pos, (activeMembers s st pos o.slc).take 32, [], false, true⟩) ∧
    (budgetHolds s = false → ∃ t, exec .readAroundRecheck s = .next t ∧ (dieOf t die).queue = [o] ∧ t.cdc.recons = s.cdc.recons))) ∧
  ((∀ s : State, s.live = true → s.on CDC_CTRL_ENABLE = false →
    (s.cdc.copies = [] → (∀ n, n < 16 → s.on CDC_RBn_CTL_GO n = false ∧ s.on FCH_DEN_RING_CFG_ENABLE n = false) →
      ∃ t, exec .cdcEnable s = .next t ∧ t.get CDC_CTRL_ENABLE = 1 ∧ OnlyFields [CDC_CTRL_ENABLE] s t) ∧
    (∀ stripe row, ∃ t, exec (.rowEncode stripe row) s = .next t ∧ Within ⟨[], []⟩ s t)) ∧
  (∀ (stripe row : Nat) (p : RowPlace) (y : Nat × StgSec) (l : List (Nat × StgSec)) (ps : List (List Byte)) (items : List StagedItem)
      (w v s : State), s.live = true → s.on CDC_CTRL_ENABLE = true → copyOfRow s stripe row = none →
    stripe < s.get MAP_STRIPE_COUNT_COUNT → openHost s stripe = w → rowFor w stripe row = some (p, y :: l) →
    rowOpen w stripe row = true → sealStaged w stripe row (y :: l) = (ps, items, v) → items ≠ [] →
    (∀ u, startRow v stripe row (rowPages v.cdc.rowSeq ps) items none = some u → w.cdc.accs.length < u.cdc.accs.length →
      ∃ t, exec (.rowEncode stripe row) s = .next t ∧ t.cdc = u.cdc ∧ t.fch = u.fch ∧ t.hbm.stg = (placeStaged u items).hbm.stg ∧
        t.media.health.progHost = u.media.health.progHost + rowBytes ∧ t.fw.gde = false) ∧
    (w = s → accCount ≤ s.cdc.accs.length →
      ∃ t, exec (.rowEncode stripe row) s = .next t ∧ t.get CDC_STATUS_ACC_STALL = 1 ∧ OnlyFields [CDC_STATUS_ACC_STALL] s t)))

/-- Rebuild slots (R109, R110): a GO with good arguments runs from FIRST, one with bad arguments ends with BAD_ARG; a row begins with
its 32 members, or ends the slot with FENCED_DST where the destination serves no more; an ABORT between rows ends the slot with
ABORTED, one within a row waits for its boundary.

Copy slots (R135 to R138): a GO takes a list of media sources that pass the checks, and queues their reads; a COUNT of 0 ends with
BAD_ARG; while CDC is disabled the slot waits. A mark scan of an active die ends with OK and one of another die with BAD_ARG. An ABORT
ends a slot that has issued no program with ABORTED and leaves one that has.

States that each of these commands completes, with its effect: `rebuildGo`, `rebuildRow`, `rebuildAbort`, `packedRowCopy`, `runRowCopy`,
`markScan`, `copySlotAbort`. -/
def Obligations.RebuildAndCopySlots : Prop :=
  (∀ (n : Nat) (s : State), s.live = true → n < 16 →
    (s.on CDC_RBn_CTL_GO n = false → (rebuildOf s n).running = false → s.on CDC_CTRL_ENABLE = true →
      (rebuildArgsOk s n = true → ∃ t, exec (.rebuildGo n) s = .next t ∧ t.get CDC_RBn_CTL_GO n = 1 ∧
        t.get CDC_RBn_CTL_ROW n = s.get CDC_RBn_ROWS_FIRST n % 2 ^ CDC_RBn_CTL_ROW.width ∧ t.get CDC_RBn_LOST_LOST n = 0 ∧
        (rebuildOf t n).running = true ∧ (rebuildOf t n).inRow = false) ∧
      (rebuildArgsOk s n = false → ∃ t, exec (.rebuildGo n) s = .next t ∧ t.get CDC_RBn_CTL_GO n = 0 ∧
        t.get CDC_RBn_CTL_RESULT n = 4 ∧ t.get CDC_RBn_CTL_DONE n = 1 ∧ t.get CDC_STATUS_RB_ERR = 1)) ∧
    ((rebuildOf s n).running = true → (rebuildOf s n).inRow = false → s.on CDC_CTRL_ENABLE = true →
      rebuildRows s < s.get CDC_RB_CFG_MAX_ROWS →
      (dieState s (s.get CDC_RBn_DST_DIE n) ≠ 1 → ∃ t, exec (.rebuildRow n) s = .next t ∧ t.get CDC_RBn_CTL_RESULT n = 5 ∧
        t.get CDC_RBn_CTL_DONE n = 1 ∧ t.get CDC_RBn_CTL_GO n = 0) ∧
      (dieState s (s.get CDC_RBn_DST_DIE n) = 1 → ∀ ps, (activeMembers s (s.get CDC_RBn_SRC_STRIPE n) (s.get CDC_RBn_SRC_POSITION n)
          (stripeMode (stripeHdr s (s.get CDC_RBn_SRC_STRIPE n)) = 0)).take 32 = ps → ps.length = 32 →
        ∃ t, exec (.rebuildRow n) s = .next t ∧ (rebuildOf t n).inRow = true ∧ (rebuildOf t n).members = ps ∧
          (rebuildOf t n).got = [])) ∧
    (s.on CDC_RBn_CTL_GO n = true →
      ((rebuildOf s n).inRow = false → ∃ t, exec (.rebuildAbort n) s = .next t ∧ t.get CDC_RBn_CTL_RESULT n = 3 ∧
        t.get CDC_RBn_CTL_DONE n = 1 ∧ t.get CDC_RBn_CTL_GO n = 0) ∧
      ((rebuildOf s n).inRow = true → ∃ t, exec (.rebuildAbort n) s = .next t ∧ t.get CDC_RBn_CTL_ABORT n = 1 ∧
        rebuildOf t n = { rebuildOf s n with abort := true } ∧ OnlyFields [CDC_RBn_CTL_ABORT] s t))) ∧
  ((∀ (n : Nat) (s : State), s.live = true → n < 32 → s.on CDC_CPn_CTL_GO n = false →
    (s.on CDC_CTRL_ENABLE = false →
      (∃ t, exec (.packedRowCopy n) s = .next t ∧ CopyWaits s t n 0) ∧ (∃ t, exec (.runRowCopy n) s = .next t ∧ CopyWaits s t n 1)) ∧
    (s.on CDC_CTRL_ENABLE = true →
      (s.get CDC_CPn_COUNT_COUNT n = 0 ∨ 512 < s.get CDC_CPn_COUNT_COUNT n →
        (∃ t, exec (.packedRowCopy n) s = .next t ∧ CopyEnded t n 3) ∧ (∃ t, exec (.runRowCopy n) s = .next t ∧ CopyEnded t n 3)) ∧
      (∀ l, s.get CDC_CPn_COUNT_COUNT n ≠ 0 → s.get CDC_CPn_COUNT_COUNT n ≤ 512 → s.fch.flushing = false →
        copyEntries s (s.get CDC_CPn_LIST_ADDR n * 64) (s.get CDC_CPn_COUNT_COUNT n) = some l →
        (∀ e ∈ l, e.walker = false ∧ dieState s (mediaDie e.src) = 1) →
        (copyArgsOk s 0 (s.get CDC_CPn_DST_STRIPE n) (s.get CDC_CPn_DST_ROW n) l = true →
          ∃ t, exec (.packedRowCopy n) s = .next t ∧ CopyReads t n 0 l) ∧
        (copyArgsOk s 1 (s.get CDC_CPn_DST_STRIPE n) (s.get CDC_CPn_DST_ROW n) l = true →
          ∃ t, exec (.runRowCopy n) s = .next t ∧ CopyReads t n 1 l)))) ∧
  (∀ (n : Nat) (marks : List MarkRead) (s : State), s.live = true → n < 32 → s.on CDC_CPn_CTL_GO n = false →
    s.on CDC_CTRL_ENABLE = true → s.fch.flushing = false →
    (dieState s (s.get CDC_CPn_DST_STRIPE n % 2048) = 1 → ∃ t, exec (.markScan n marks) s = .next t ∧
      t.get CDC_CPn_CTL_RESULT n = 0 ∧ t.get CDC_CPn_CTL_GO n = 0 ∧
      t.mem = (writeMarks s (s.get CDC_CPn_LIST_ADDR n * 64) (scanned s (s.get CDC_CPn_DST_STRIPE n % 2048) marks)).mem) ∧
    (dieState s (s.get CDC_CPn_DST_STRIPE n % 2048) ≠ 1 → ∃ t, exec (.markScan n marks) s = .next t ∧
      t.get CDC_CPn_CTL_RESULT n = 3 ∧ t.get CDC_CPn_CTL_GO n = 0 ∧ SameMemory s t)) ∧
  (∀ (n : Nat) (y : CopySlot) (s : State), s.live = true → tget s.cdc.copies n = some y →
    (y.encoded = false → ∃ t, exec (.copySlotAbort n) s = .next t ∧ t.get CDC_CPn_CTL_RESULT n = 2 ∧
      t.get CDC_CPn_CTL_GO n = 0 ∧ tget t.cdc.copies n = none) ∧
    (y.encoded = true → ∃ t, exec (.copySlotAbort n) s = .next t ∧ Within ⟨[], []⟩ s t)))

/-! ## TRK: enables, frames, swaps, slots -/

/-- Enables, frames and swaps (R118, R123, R127, R129): without buffers TRK sets NO_BUFFER and stays disabled; an enabled thermal
cell starts at level 0 with the active bank's target; a frame advances FRAME and takes a requested swap, unless nothing is enabled; a
swap requested while one is pending is ignored.

Commands of the TRK slots (R115, R122, R124, R125, R130): what each does to its cell, and to nothing of memory but the byte of
AGE_SET; a mode of 3 is BAD_ARG. An age whose line cannot be read is a free value (log entry 6).

States that each of these commands completes, with its effect: `trkEnable`, `thEnable`, `thermalCellEnable`, `frameStart`, `swap`,
`cellRead`, `cellInit`, `cellClear`, `cellDisable`, `dieDisable`, `ageSet`, `ageGet`. -/
def Obligations.Tracking : Prop :=
  (∀ s : State, s.live = true →
    (s.on TRK_CTRL_ENABLE = false →
      (claim s 3 16 = none → ∃ t, exec .trkEnable s = .next t ∧ t.get TRK_STATUS_NO_BUFFER = 1 ∧ OnlyFields [TRK_STATUS_NO_BUFFER] s t) ∧
      (∀ l u, claim s 3 16 = some (l, u) → ∃ t, exec .trkEnable s = .next t ∧ t.get TRK_CTRL_ENABLE = 1 ∧ t.trk.bufs = l ∧
        t.trk.cells = [])) ∧
    (s.on TRK_CTRL_TH_ENABLE = false → ∃ t, exec .thEnable s = .next t ∧ t.get TRK_CTRL_TH_ENABLE = 1 ∧
      (s.on TRK_CTRL_ENABLE = false → t.get TRK_FRAME_FRAME = 0)) ∧
    (∀ n, n < 20 → s.on TRK_THn_CFG_ENABLE n = false → ∃ t, exec (.thermalCellEnable n) s = .next t ∧
      t.get TRK_THn_CFG_ENABLE n = 1 ∧ t.get TRK_THn_STATE_LEVEL n = 0 ∧ t.get TRK_THn_STATE_OUT n = 0 ∧
      t.get TRK_THn_STATE_SP n = s.get TRK_THCOEFb_g_W0_TARGET (s.get TRK_BANK_ACTIVE) (thSet n) % 2 ^ TRK_THn_STATE_SP.width) ∧
    (s.on TRK_CTRL_ENABLE = true ∨ s.on TRK_CTRL_TH_ENABLE = true → ∃ t, exec .frameStart s = .next t ∧
      t.get TRK_FRAME_FRAME = (s.get TRK_FRAME_FRAME + 1) % 2 ^ TRK_FRAME_FRAME.width ∧
      t.get TRK_BANK_ACTIVE = if s.on TRK_BANK_SWAP then (1 - s.get TRK_BANK_ACTIVE) % 2 else s.get TRK_BANK_ACTIVE) ∧
    (s.on TRK_CTRL_ENABLE = false → s.on TRK_CTRL_TH_ENABLE = false → ∃ t, exec .frameStart s = .next t ∧ Within ⟨[], []⟩ s t) ∧
    (s.on TRK_BANK_PENDING = false → ∃ t, exec .swap s = .next t ∧ t.get TRK_BANK_SWAP = 1 ∧ OnlyFields [TRK_BANK_SWAP] s t) ∧
    (s.on TRK_BANK_PENDING = true → ∃ t, exec .swap s = .next t ∧ t.get TRK_STATUS_BANK_WR_IGN = 1 ∧
      OnlyFields [TRK_STATUS_BANK_WR_IGN] s t)) ∧
  (∀ (n c : Nat) (s : State), TrkReady s n → bits (s.get TRK_CMDn_ARG0_V n) 0 16 = c →
    (∃ t, exec (.cellRead n) s = .next t ∧ TrkDone t n 0 ∧ SameMemory s t ∧
      (∀ k, k < 8 → t.get TRK_CMDn_OUT_V n k = bits (cellWord (cellOf s c)) (64 * k) 64) ∧ t.trk = s.trk) ∧
    (bits (s.get TRK_CMDn_ARG0_V n) 16 2 = 3 → ∃ t, exec (.cellInit n) s = .next t ∧ TrkDone t n 4 ∧ t.trk = s.trk) ∧
    (bits (s.get TRK_CMDn_ARG0_V n) 16 2 ≠ 3 → ∃ t, exec (.cellInit n) s = .next t ∧ TrkDone t n 0 ∧ SameMemory s t ∧
      (cellOf t c).valid = true ∧ (cellOf t c).mode = bits (s.get TRK_CMDn_ARG0_V n) 16 2 ∧
      (cellOf t c).set = bits (s.get TRK_CMDn_ARG0_V n) 18 4 ∧ (cellOf t c).bank = s.get TRK_BANK_ACTIVE ∧
      (cellOf t c).stepCnt = ((cellOf s c).stepCnt + 1) % 256 ∧
      ∀ d, d ≠ c → cellOf t d = cellOf s d) ∧
    (∃ t, exec (.cellClear n) s = .next t ∧ TrkDone t n 0 ∧ SameMemory s t ∧
      cellOf t c = { cellOf s c with sat := false, miss := false } ∧ ∀ d, d ≠ c → cellOf t d = cellOf s d) ∧
    (∃ t, exec (.cellDisable n) s = .next t ∧ TrkDone t n 0 ∧ SameMemory s t ∧ (cellOf t c).valid = false ∧
      (cellOf t c).acc = List.replicate 4 acc0 ∧ ∀ d, d ≠ c → cellOf t d = cellOf s d) ∧
    (∃ t, exec (.dieDisable n) s = .next t ∧ TrkDone t n 0 ∧ SameMemory s t ∧
      (∀ k, k < 32 → (cellOf t (bits (s.get TRK_CMDn_ARG0_V n) 0 11 * 32 + k)).valid = false) ∧
      ∀ d, d / 32 ≠ bits (s.get TRK_CMDn_ARG0_V n) 0 11 → cellOf t d = cellOf s d) ∧
    (∀ a die block b, bits (s.get TRK_CMDn_ARG0_V n) 0 11 = die → bits (s.get TRK_CMDn_ARG0_V n) 11 14 = block →
      ageAddr s die block = a → readByte s a = some b →
      ∃ t, exec (.ageSet n) s = .next t ∧ TrkDone t n 0 ∧
        t.mem = (writeBytes s a [BitVec.ofNat 8 (setBits b.toNat (2 * (block % 4)) 2 (bits (s.get TRK_CMDn_ARG0_V n) 25 2))]).mem) ∧
    (∀ v u, ageBand s (bits (s.get TRK_CMDn_ARG0_V n) 0 11) (bits (s.get TRK_CMDn_ARG0_V n) 11 14) = (some v, u) →
      ∃ t, exec (.ageGet n) s = .next t ∧ TrkDone t n 0 ∧ t.get TRK_CMDn_OUT_V n 0 = v ∧ SameMemory s t))

/-! ## HBM, staging and the Burrow -/

/-- A byte of HBM on a pseudo-channel that works reads back what was written; without a parity window every other byte of memory is
as before, and under one only the parity byte of its group follows (R163, R164). Memory keeps its canonical form.

Windows, the staging area and a pseudo-channel that answers no more (R165, R167, R169, R183): a window is enabled unless a range
of it overlaps one of an enabled window; HBM's first enable empties the staging area and sets the ceiling, which is at least four units
unless CEIL_VWC reads 1, and a further one before a reset keeps the staged data and VWC and never raises the ceiling; a sector is
released once nothing covers or uses it; the first failed pseudo-channel is recorded.

States that each of these commands completes, with its effect: `hbmWindowEnable`, `hbmEnable`, `stagingRelease`, `pseudoChannelTimeout`. -/
def Obligations.HbmWork : Prop :=
  (∀ (a : Nat) (b : Byte) (s : State), a < hbmEnd → bits (s.get HBM_PC_FAILED_FAILED) (pcOf a) 1 = 0 →
    readByte (writeByte s a b) a = some b ∧
    (memWf s.mem = true → memWf (writeByte s a b).mem = true) ∧
    (findWin s a 0 16 = none → ∀ x, x ≠ a → memGet (writeByte s a b).mem x = memGet s.mem x) ∧
    (∀ wb z p, findWin s a 0 16 = some (wb, z, p) → ∀ x, x ≠ a → x ≠ parityAddr wb p a →
      memGet (writeByte s a b).mem x = memGet s.mem x)) ∧
  ((∀ (w : Nat) (s : State), s.live = true → w < 16 → s.on HBM_CTRL_LOCK = false →
    ((∀ v, v < 16 → v ≠ w → s.on HBM_WINw_BASE_EN v = true → ∀ a ∈ winRanges s w, ∀ b ∈ winRanges s v, overlap a b = false) →
      ∃ t, exec (.hbmWindowEnable w) s = .next t ∧ t.get HBM_WINw_BASE_EN w = 1 ∧ OnlyFields [HBM_WINw_BASE_EN] s t) ∧
    (∀ v a b, v < 16 → v ≠ w → s.on HBM_WINw_BASE_EN v = true → a ∈ winRanges s w → b ∈ winRanges s v → overlap a b = true →
      ∃ t, exec (.hbmWindowEnable w) s = .next t ∧ t.get HBM_WINw_BASE_EN w = 0 ∧ t.get HBM_STATUS_WIN_OVERLAP = 1)) ∧
  (∀ s : State, s.live = true → s.on HBM_CTRL_ENABLE = false → s.hbm.fixed = true →
    ∃ t, exec .hbmEnable s = .next t ∧ t.get HBM_CTRL_ENABLE = 1 ∧ t.hbm = s.hbm ∧ t.get HBM_CEIL_VWC = s.get HBM_CEIL_VWC ∧
      t.get HBM_CEIL_UNITS ≤ s.get HBM_CEIL_UNITS) ∧
  (∀ s : State, s.live = true → s.on HBM_CTRL_ENABLE = false → s.hbm.fixed = false →
    ∃ t, exec .hbmEnable s = .next t ∧ t.get HBM_CTRL_ENABLE = 1 ∧ t.hbm.stg = [] ∧
      (t.get HBM_CEIL_VWC = 0 → 4 ≤ energyUnits (s.get HBM_HOLDUP_ENERGY_MJ) ∧ 4 ≤ ceilCap s ∧
        t.get HBM_CEIL_UNITS = min (energyUnits (s.get HBM_HOLDUP_ENERGY_MJ)) (ceilCap s) % 2 ^ HBM_CEIL_UNITS.width) ∧
      (energyUnits (s.get HBM_HOLDUP_ENERGY_MJ) < 4 ∨ ceilCap s < 4 → t.get HBM_CEIL_VWC = 1)) ∧
  (∀ (i : Nat) (s : State), s.live = true →
    (releasable s i = true → ∃ t, exec (.stagingRelease i) s = .next t ∧ tget t.hbm.stg i = none ∧
      t.hbm.stgFree.back = s.hbm.stgFree.back ++ [i]) ∧
    (releasable s i = false → ∃ t, exec (.stagingRelease i) s = .next t ∧ Within ⟨[], []⟩ s t)) ∧
  (∀ (p : Nat) (s : State), s.live = true → p < 64 → s.get HBM_PC_FAILED_FAILED = 0 → s.on BUR_CTRL_ENABLE = false →
    ∃ t, exec (.pseudoChannelTimeout p) s = .next t ∧ t.get HBM_PC_FAILED_FAILED = 2 ^ p ∧ t.get HBM_STATUS_PC_FAIL = 1 ∧
      SameMemory s t))

/-- The Burrow's enable, its aging, and the ends of fills and reads (R174 to R178): without buffers NO_BUFFER is set; enabled it is
empty; aging halves every counter once its period has passed; a fill that is complete makes its frame resident, and a doomed one frees it; a read's data goes to
its command.

Commands of the BUR slots (R181, R182, R186): BUSY while the Burrow is disabled; a span of no segments or past the run limit is
BAD_ARG; else each command does its work on the segments of its span. A PIN is complete once every fill that it waits for has ended.

States that each of these commands completes, with its effect: `burEnable`, `sketchAging`, `burrowFillComplete`, `burrowReadDone`,
`prefetch`, `pin`, `unpin`, `cool`, `boost`, `inval`, `estimate`. -/
def Obligations.Burrow : Prop :=
  (∀ s : State, s.live = true →
    (s.on BUR_CTRL_ENABLE = false →
      (claim s 3 16 = none → ∃ t, exec .burEnable s = .next t ∧ t.get BUR_STATUS_NO_BUFFER = 1 ∧ OnlyFields [BUR_STATUS_NO_BUFFER] s t) ∧
      (∀ l u, claim s 3 16 = some (l, u) → ∃ t, exec .burEnable s = .next t ∧ t.get BUR_CTRL_ENABLE = 1 ∧ t.bur.sketch = [] ∧
        t.bur.fills = [] ∧ t.bur.readers = [] ∧ t.get BUR_RESIDENT_COUNT = 0 ∧ t.get BUR_PINNED_COUNT = 0)) ∧
    (s.on BUR_CTRL_ENABLE = true → s.bur.agedUs + 1000000 * s.get BUR_AGE_PERIOD_S ≤ s.timeUs →
      ∃ t, exec .sketchAging s = .next t ∧ t.get BUR_STATUS_AGED = 1 ∧ t.bur.agedUs = s.timeUs ∧
      t.bur.sketch = ((s.bur.sketch.map fun x => (x.1, x.2 / 2)).filter fun x => x.2 ≠ 0) ∧ OnlyFields [BUR_STATUS_AGED] s t) ∧
    (∀ f x, tget s.bur.fills f = some x →
      (frameState (frameWord s f) = frFilling → x.got.length = 16 → x.pin = false →
        ∃ t, exec (.burrowFillComplete f) s = .next t ∧ tget t.bur.fills f = none ∧
          t.get BUR_RESIDENT_COUNT = (s.get BUR_RESIDENT_COUNT + 1) % 2 ^ BUR_RESIDENT_COUNT.width) ∧
      (frameState (frameWord s f) = frFilling → x.got.length < 16 →
        ∃ t, exec (.burrowFillComplete f) s = .next t ∧ Within ⟨[], []⟩ s t) ∧
      (frameState (frameWord s f) ≠ frFilling → ∃ t, exec (.burrowFillComplete f) s = .next t ∧ tget t.bur.fills f = none ∧
        t.get BUR_RESIDENT_COUNT = s.get BUR_RESIDENT_COUNT)) ∧
    (∀ f c k x ns run q d r, s.bur.readers = (f, c, k) :: r → ctxOf s c = some x → x.stage = .running →
      srcSector s (.host c k) = some (ns, run, q) → frameSector s f (q % 16) = some d →
      ∃ t y, exec (.burrowReadDone f) s = .next t ∧ t.bur.readers = r ∧ ctxOf t c = some y ∧
        tget y.got k = some (d ++ zeroMeta (nsFmt s ns)) ∧ y.left = x.left - 1)) ∧
  (∀ (n : Nat) (s : State), s.live = true → n < 8 → s.on BUR_CMDn_CTL_GO n = false →
    (s.on BUR_CTRL_ENABLE = false → ∀ c ∈ [Instr.prefetch n, .pin n, .unpin n, .cool n, .boost n, .inval n, .estimate n],
      ∃ t, exec c s = .next t ∧ BurDone t n 6 ∧ SameMemory s t ∧ t.bur = s.bur) ∧
    (s.on BUR_CTRL_ENABLE = true → burSpanBad s n = true → ∀ c ∈ [Instr.prefetch n, .pin n, .unpin n, .cool n, .boost n],
      ∃ t, exec c s = .next t ∧ BurDone t n 4 ∧ SameMemory s t ∧ t.bur = s.bur) ∧
    (s.on BUR_CTRL_ENABLE = true → burSpanBad s n = false →
      (∀ k u, prefetchAll (s.set BUR_CMDn_CTL_OP 1 n) (burSpan s n) = (k, u) → ∃ t, exec (.prefetch n) s = .next t ∧ BurDone t n 0 ∧
        t.get BUR_CMDn_OUT0_V n = k % 2 ^ BUR_CMDn_OUT0_V.width ∧ t.mem = u.mem ∧ t.bur = u.bur) ∧
      (∀ w u, pinAll ((s.set BUR_CMDn_CTL_OP 2 n).set BUR_CMDn_CTL_GO 1 n) (burSpan s n) = (w, u) →
        (w.gens = [] → ∃ t, exec (.pin n) s = .next t ∧ BurDone t n (if w.short then 1 else 0) ∧
          t.get BUR_CMDn_OUT0_V n = w.count % 2 ^ BUR_CMDn_OUT0_V.width ∧ t.mem = u.mem ∧ t.bur.fills = u.bur.fills) ∧
        (w.gens ≠ [] → ∃ t, exec (.pin n) s = .next t ∧ t.get BUR_CMDn_CTL_GO n = 1 ∧ tget t.bur.pinWait n = some w ∧
          t.mem = u.mem ∧ t.bur.fills = u.bur.fills)) ∧
      (∀ k u, unpinAll (s.set BUR_CMDn_CTL_OP 3 n) (burSpan s n) = (k, u) → ∃ t, exec (.unpin n) s = .next t ∧ BurDone t n 0 ∧
        t.get BUR_CMDn_OUT0_V n = k % 2 ^ BUR_CMDn_OUT0_V.width ∧ t.mem = u.mem ∧ t.bur = u.bur) ∧
      ((∀ y ∈ burSpan s n, burFrame s y.1 y.2 = none) → ∃ t, exec (.cool n) s = .next t ∧ BurDone t n 0 ∧ SameMemory s t) ∧
      (∀ run seg f, burSpan s n = [(run, seg)] → burFrame s run seg = some f → frameState (frameWord s f) = frValid →
        framePin (frameWord s f) = false → ∃ t, exec (.cool n) s = .next t ∧ BurDone t n 0 ∧ t.mem = (setFrameUse s f 0).mem) ∧
      (∃ t, exec (.boost n) s = .next t ∧ BurDone t n 0 ∧ SameMemory s t ∧
        ∀ y ∈ burSpan s n, min 255 (s.get BUR_ADMIT_THRESH) ≤ sketchEst t y.1 y.2)) ∧
    (s.on BUR_CTRL_ENABLE = true → burRun s n < s.get MAP_RUN_LIMIT_RUN_COUNT →
      burRun s n + bits (s.get BUR_CMDn_ARG1_V n) 0 29 ≤ s.get MAP_RUN_LIMIT_RUN_COUNT →
      ∃ t, exec (.inval n) s = .next t ∧ BurDone t n 0 ∧
        t.mem = (invalRuns (s.set BUR_CMDn_CTL_OP 6 n) (burRun s n) (bits (s.get BUR_CMDn_ARG1_V n) 0 29)).mem) ∧
    (s.on BUR_CTRL_ENABLE = true → burRun s n < s.get MAP_RUN_LIMIT_RUN_COUNT →
      ∃ t, exec (.estimate n) s = .next t ∧ BurDone t n 0 ∧ t.get BUR_CMDn_OUT0_V n = sketchEst s (burRun s n) (burSeg s n) ∧
        SameMemory s t ∧ t.bur = s.bur))

/-! ## BPM and UDM -/

/-- Buffer pools (R293 to R297): a geometry that passes the checks is enabled and every list is built, another sets CFG_ERR; a
request is given a buffer or waits; an allocation answers the buffer's address, or 0 with EMPTY, once its pool is not being rebuilt; a returned pointer heads its list, and
one that is no allocated buffer sets BAD_FREE.

Rebuilt lists, MIN_FREE and SRAM protection (R297, R299, R300, R302, R313): a rebuild ends with FREE the number of buffers that
are not allocated; a read of a pool's state leaves MIN_FREE at FREE; a corrected word and a merge entry are written back; a lane sweep
ends with SWEEP_DONE.

States that each of these commands completes, with its effect: `bpmEnable`, `bufferRequest`, `bpmPoolAllocRead`, `bpmFree`, `bpmRebuild`,
`freeListRebuildDone`, `minFreeRead`, `correctedWordWriteback`, `mergeEntryWriteback`, `laneSweepDone`. -/
def Obligations.Buffers : Prop :=
  ((∀ s : State, s.live = true → s.on BPM_CTRL_ENABLE = false →
    (poolsOk s = true → ∃ t, exec .bpmEnable s = .next t ∧ t.get BPM_CTRL_ENABLE = 1 ∧
      ∀ p, p < 4 → t.get BPM_POOLn_STATE_REBUILDING p = 1) ∧
    (poolsOk s = false → ∃ t, exec .bpmEnable s = .next t ∧ t.get BPM_STATUS_CFG_ERR = 1 ∧ OnlyFields [BPM_STATUS_CFG_ERR] s t)) ∧
  (∀ s : State, s.live = true → s.on BPM_CTRL_ENABLE = true →
    (∀ size who a u, bufferFor s size = some (a, u) →
      ∃ t, exec (.bufferRequest size who) s = .next t ∧ t.bpm.grants = s.bpm.grants ++ [(who, a)] ∧ t.bpm.used = u.bpm.used) ∧
    (∀ size who, bufferFor s size = none →
      ∃ t, exec (.bufferRequest size who) s = .next t ∧ t.bpm.waiters = s.bpm.waiters ++ [(size, who)] ∧ t.bpm.used = s.bpm.used ∧
        OnlyFields [BPM_CNTn_COUNT] s t) ∧
    (∀ p, p < 4 →
      (∀ a u, poolTake s p = some (a, u) → ∃ t, exec (.bpmPoolAllocRead p) s = .next t ∧ t.bus = .data a ∧ t.bpm = u.bpm) ∧
      (s.on BPM_POOLn_STATE_REBUILDING p = false → allocRead s p = none →
        ∃ t, exec (.bpmPoolAllocRead p) s = .next t ∧ t.bus = .data 0 ∧ t.get BPM_STATUS_EMPTY = 1 ∧ t.bpm = s.bpm) ∧
      (∀ a u, s.on BPM_POOLn_STATE_REBUILDING p = true → poolTake (endRebuild s p) p = some (a, u) →
        ∃ t, exec (.bpmPoolAllocRead p) s = .next t ∧ t.bus = .data a ∧ t.bpm = u.bpm)) ∧
    (∀ a p, s.bpm.waiters = [] → poolOf s a = some p → (a - poolBase s p) % poolSize s p = 0 →
      (s.bpm.used.contains a = true → s.on BPM_POOLn_STATE_REBUILDING p = false →
        ∃ t, exec (.bpmFree a) s = .next t ∧ a ∉ t.bpm.used ∧ tget t.bpm.heads p = some a ∧
          t.get BPM_POOLn_STATE_FREE p = (s.get BPM_POOLn_STATE_FREE p + 1) % 2 ^ BPM_POOLn_STATE_FREE.width) ∧
      (s.bpm.used.contains a = true → s.on BPM_POOLn_STATE_REBUILDING p = true →
        ∃ t, exec (.bpmFree a) s = .next t ∧ t.bpm.freeQ = s.bpm.freeQ ++ [a] ∧ OnlyFields [] s t) ∧
      (s.bpm.used.contains a = false → FreeRejected s a 3)) ∧
    (∀ a, s.bpm.waiters = [] →
      (poolOf s a = none → FreeRejected s a 1) ∧
      (∀ p, poolOf s a = some p → (a - poolBase s p) % poolSize s p ≠ 0 → FreeRejected s a 2)) ∧
    (∃ t, exec .bpmRebuild s = .next t ∧ t.get BPM_CTRL_REBUILD = 1 ∧ ∀ p, p < 4 → t.get BPM_POOLn_STATE_REBUILDING p = 1))) ∧
  ((∀ (p : Nat) (s : State), s.live = true → p < 4 → s.on BPM_POOLn_STATE_REBUILDING p = true → s.bpm.freeQ = [] →
    s.bpm.waiters = [] → ∃ t, exec (.freeListRebuildDone p) s = .next t ∧ t.get BPM_POOLn_STATE_REBUILDING p = 0 ∧
      t.get BPM_POOLn_STATE_FREE p = (freeBuffers s p).length % 2 ^ BPM_POOLn_STATE_FREE.width ∧
      tget t.bpm.heads p = (freeBuffers s p).head?) ∧
  (∀ (p : Nat) (s : State), s.live = true → p < 4 → ∃ t, exec (.minFreeRead p) s = .next t ∧ t.bus = .data (minFreeRead s p).1 ∧
    t.get BPM_POOLn_STATE_MIN_FREE p = s.get BPM_POOLn_STATE_FREE p % 2 ^ BPM_POOLn_STATE_MIN_FREE.width ∧
    OnlyFields [BPM_POOLn_STATE_MIN_FREE] s t) ∧
  (∀ s : State, s.live = true → ∃ t, exec .correctedWordWriteback s = .next t ∧ t.bpm.writeback = none ∧ OnlyFields [] s t ∧
    SameMemory s t) ∧
  (∀ (m : Merge) (r : List Merge) (s : State), s.live = true → s.bpm.merges = m :: r →
    ∃ t, exec (.mergeEntryWriteback m.sram) s = .next t ∧ m ∉ t.bpm.merges ∧ SameMemory s t ∧
      (m.mask = 255 → m.word ∉ t.bpm.bad) ∧
      (m.mask ≠ 255 → m.word ∈ s.bpm.bad → t.get BPM_ERR_POISON = 1)) ∧
  (∀ (g : Nat) (s : State), s.live = true → g < 39 → s.on BPM_GRPg_STATE_SWEEP g = true →
    ∃ t, exec (.laneSweepDone g) s = .next t ∧ t.get BPM_GRPg_STATE_SWEEP g = 0 ∧ t.get BPM_STATUS_SWEEP_DONE = 1 ∧
      OnlyFields [BPM_GRPg_STATE_SWEEP, BPM_STATUS_SWEEP_DONE] s t))

/-- The utility DMA (R307 to R311): a GO gives an idle engine to its channel and makes it wait for a busy one; STOP ends a waiting
channel at once and marks a running one; the ring base of an idle channel resets its index; a descriptor that breaks the checks has
status 3, and one of 8 bytes from HBM to buffer SRAM moves them; a ring that ends makes the channel idle with DONE.

States that each of these commands completes, with its effect: `udmGo`, `udmStop`, `udmRingBaseWrite`, `udmDescriptor`. -/
def Obligations.UtilityDma : Prop :=
  (∀ (c : Nat) (s : State), s.live = true → c < 128 → s.on UDM_CTRL_ENABLE = true → udmState s c = 0 ∨ udmState s c = 3 →
    (udmWaiting s (c / 16) = [] → s.on UDM_ENGe_STATE_BUSY (c / 16) = false →
      ∃ t, exec (.udmGo c) s = .next t ∧ udmState t c = 2 ∧ t.get UDM_CHc_CTL_GO c = 0 ∧ t.get UDM_ENGe_STATE_BUSY (c / 16) = 1 ∧
        t.get UDM_ENGe_STATE_CHANNEL (c / 16) = c % 16) ∧
    (s.on UDM_ENGe_STATE_BUSY (c / 16) = true →
      ∃ t, exec (.udmGo c) s = .next t ∧ udmState t c = 1 ∧ t.get UDM_CHc_CTL_GO c = 1 ∧
        udmWaiting t (c / 16) = udmWaiting s (c / 16) ++ [c % 16])) ∧
  (∀ (c v : Nat) (s : State), s.live = true → c < 128 →
    (udmState s c = 1 → ∃ t, exec (.udmStop c) s = .next t ∧ udmState t c = 0 ∧ t.get UDM_CHc_STATUS_STOPPED c = 1 ∧
      udmWaiting t (c / 16) = (udmWaiting s (c / 16)).filter (· ≠ c % 16)) ∧
    (udmState s c = 2 → ∃ t, exec (.udmStop c) s = .next t ∧ t.get UDM_CHc_CTL_STOP c = 1 ∧ OnlyFields [UDM_CHc_CTL_STOP] s t) ∧
    (udmState s c = 0 ∨ udmState s c = 3 → ∃ t, exec (.udmRingBaseWrite c v) s = .next t ∧
      t.get UDM_CHc_RING_BASE_BASE c = v / 32 % 2 ^ UDM_CHc_RING_BASE_BASE.width ∧ t.get UDM_CHc_INDEX_INDEX c = 0 ∧
      OnlyFields [UDM_CHc_RING_BASE_BASE, UDM_CHc_INDEX_INDEX] s t) ∧
    (udmState s c = 1 ∨ udmState s c = 2 → ∃ t, exec (.udmRingBaseWrite c v) s = .next t ∧ Within ⟨[], []⟩ s t)) ∧
  (∀ (c a : Nat) (b : List Byte) (nor : List Byte) (s : State), s.live = true → c < 128 → s.on UDM_CTRL_ENABLE = true →
    udmState s c = 2 → s.get UDM_CHc_INDEX_INDEX c = 0 → s.get UDM_CHc_RING_CFG_COUNT c = 1 → s.on UDM_CHc_CTL_CIRC c = false →
    s.on UDM_CHc_CTL_STOP c = false → udmWaiting s (c / 16) = [] → s.get UDM_CHc_RING_BASE_BASE c * 32 = a → a + 32 ≤ hbmEnd →
    readBytes s a 32 = some b → findWin s (a + 21) 0 16 = none → bits (s.get HBM_PC_FAILED_FAILED) (pcOf (a + 21)) 1 = 0 →
    (udmDescOk (udmDesc b) = false → ∃ t, exec (.udmDescriptor c nor) s = .next t ∧ memGet t.mem (a + 21) = 3 ∧ udmState t c = 0 ∧
      t.get UDM_CHc_STATUS_BAD c = 1 ∧ t.get UDM_CHc_STATUS_DONE c = 1 ∧ ∀ x, x ≠ a + 21 → memGet t.mem x = memGet s.mem x) ∧
    (∀ src dst l, udmDesc b = ⟨src, dst, 8, 3, 3, false, false⟩ → src % 8 = 0 → dst % 8 = 0 → src + 8 ≤ hbmEnd → sramBase ≤ dst →
      dst + 8 ≤ sramEnd → readBytes s src 8 = some l →
      ∃ t, exec (.udmDescriptor c nor) s = .next t ∧ readBytes t dst 8 = some l ∧ memGet t.mem (a + 21) = 1 ∧ udmState t c = 0 ∧
        t.get UDM_CHc_STATUS_DONE c = 1 ∧ (∀ x, x ≠ a + 21 → x < dst ∨ dst + 8 ≤ x → memGet t.mem x = memGet s.mem x)))

/-! ## CRY and CPR: keys, seals, entropy, jobs of the compression engines -/

/-- Slots of the key store (R265, R266): GEN_KEY puts a fresh key into position 0 and makes it current, and ends with NO_ENTROPY where
the source is not good; ERASE empties the slot; RETIRE_OLD empties the position that is not current, where OLD_VALID is 1; a
changeover that is installed makes the other position current and keeps the old one.

Blobs and derived keys (R265, R269 to R271): EXPORT writes the slot's blob; IMPORT refuses a blob of another form with BAD_ARG, one
that does not authenticate with AUTH_FAIL, and restores an authentic one; DERIVE fills a derived slot, and refuses a slot, a
length or a label that may not be derived; DK_CLEAR empties it. The ciphers are constants of which nothing is known.

States that each of these commands completes, with its effect: `genKey`, `eraseKey`, `retireOld`, `changeoverInstall`, `exportKey`,
`importKey`, `deriveKey`, `dkClear`. -/
def Obligations.KeyStore : Prop :=
  (∀ (n k : Nat) (s : State), s.live = true → n < 4 → s.on CRY_CTRL_ENABLE = true → keyArg s n = k →
    (s.on CRY_ENT_OK = true → ∃ t, exec (.genKey n) s = .next t ∧ KeyDone t n 0 ∧ keyValid t k 0 = true ∧ keyValid t k 1 = false ∧
      curPos t k = 0 ∧ (keyOf t k 0).length = 64 ∧ t.get CRY_SLOTs_STATE_COUNT k = 0 ∧ tget t.cry.changeover k = none ∧
      ∀ x, x ≠ k → keyOf t x 0 = keyOf s x 0 ∧ keyOf t x 1 = keyOf s x 1) ∧
    (s.on CRY_ENT_OK = false → ∃ t, exec (.genKey n) s = .next t ∧ KeyDone t n 1 ∧ t.cry = s.cry) ∧
    (∃ t, exec (.eraseKey n) s = .next t ∧ KeyDone t n 0 ∧ keyValid t k 0 = false ∧ keyValid t k 1 = false ∧ keyOf t k 0 = [] ∧
      keyOf t k 1 = [] ∧ tget t.cry.changeover k = none ∧ t.get CRY_SLOTs_STATE_COUNT k = 0 ∧
      ∀ x, x ≠ k → keyOf t x 0 = keyOf s x 0 ∧ keyOf t x 1 = keyOf s x 1) ∧
    (s.on CRY_SLOTs_STATE_OLD_VALID k = true → ∃ t, exec (.retireOld n) s = .next t ∧ KeyDone t n 0 ∧
      keyValid t k (1 - curPos s k) = false ∧ keyOf t k (1 - curPos s k) = [] ∧ t.get CRY_SLOTs_STATE_OLD_VALID k = 0 ∧
      (curPos s k ≤ 1 → keyOf t k (curPos s k) = keyOf s k (curPos s k))) ∧
    (s.on CRY_SLOTs_STATE_OLD_VALID k = false → ∃ t, exec (.retireOld n) s = .next t ∧ KeyRefused s t n) ∧
    (tget s.cry.changeover k = none → ∃ t, exec (.changeoverInstall k) s = .next t ∧ Within ⟨[], []⟩ s t) ∧
    (∀ v, tget s.cry.changeover k = some v → ∃ t, exec (.changeoverInstall k) s = .next t ∧ curPos t k = 1 - curPos s k ∧
      keyOf t k (1 - curPos s k) = v ∧ keyValid t k (1 - curPos s k) = true ∧ t.get CRY_SLOTs_STATE_OLD_VALID k = 1 ∧
      t.get CRY_SLOTs_STATE_COUNT k = 0 ∧ t.get CRY_SLOTs_STATE_HELD k = 0 ∧ t.get CRY_STATUS_GEN_CHANGE = 1 ∧
      tget t.cry.changeover k = none ∧ (curPos s k ≤ 1 → keyOf t k (curPos s k) = keyOf s k (curPos s k)))) ∧
  (∀ (n k : Nat) (s : State), s.live = true → n < 4 → s.on CRY_CTRL_ENABLE = true → keyArg s n = k →
    (keyValid s k 0 = true ∨ keyValid s k 1 = true → blobAddrOk (keyAddr s n) = true → ∃ t, exec (.exportKey n) s = .next t ∧
      KeyDone t n 0 ∧ t.mem = (writeBytes s (keyAddr s n) (slotBlob s k)).mem ∧ t.cry = s.cry) ∧
    ((keyValid s k 0 = false ∧ keyValid s k 1 = false) ∨ blobAddrOk (keyAddr s n) = false →
      ∃ t, exec (.exportKey n) s = .next t ∧ KeyRefused s t n) ∧
    (∀ b, blobAddrOk (keyAddr s n) = true → readBytes s (keyAddr s n) 160 = some b →
      (leAt b 0 2 ≠ 0x6B59 ∨ leAt b 4 1 ≠ 1 → ∃ t, exec (.importKey n) s = .next t ∧ KeyRefused s t n) ∧
      (leAt b 0 2 = 0x6B59 → leAt b 4 1 = 1 →
        (Config.kwpUnwrap (derive s (ascii "KEY-WRAP") 0) (b.drop 8) = none → ∃ t, exec (.importKey n) s = .next t ∧
          KeyDone t n 2 ∧ t.get CRY_STATUS_AUTH_FAIL = 1 ∧ t.cry = s.cry) ∧
        (∀ p, Config.kwpUnwrap (derive s (ascii "KEY-WRAP") 0) (b.drop 8) = some p →
          (leAt p 0 2 = leAt b 2 2 → leAt p 0 2 = k → ∃ t, exec (.importKey n) s = .next t ∧ KeyDone t n 0 ∧
            keyValid t k 0 = (bits (leAt p 2 1) 0 1 == 1) ∧ keyValid t k 1 = (bits (leAt p 2 1) 1 1 == 1) ∧
            (keyValid t k 0 = true → keyOf t k 0 = (p.drop 16).take 64) ∧ (keyValid t k 1 = true → keyOf t k 1 = (p.drop 80).take 64) ∧
            t.get CRY_SLOTs_STATE_COUNT k = min (leAt p 8 8 + 2 ^ 32) (2 ^ 48 - 1)) ∧
          (leAt p 0 2 ≠ leAt b 2 2 ∨ leAt p 0 2 ≠ k → ∃ t, exec (.importKey n) s = .next t ∧ KeyDone t n 2 ∧
            t.get CRY_STATUS_AUTH_FAIL = 1 ∧ t.cry = s.cry)))) ∧
    (64 ≤ k ∨ s.get CRY_DKd_CFG_LABEL_LEN k = 0 ∨ 32 < s.get CRY_DKd_CFG_LABEL_LEN k ∨ dkLabel s k = ascii "KEY-WRAP" →
      ∃ t, exec (.deriveKey n) s = .next t ∧ KeyRefused s t n) ∧
    (k < 64 → 1 ≤ s.get CRY_DKd_CFG_LABEL_LEN k → s.get CRY_DKd_CFG_LABEL_LEN k ≤ 32 → dkLabel s k ≠ ascii "KEY-WRAP" →
      ∃ t, exec (.deriveKey n) s = .next t ∧ KeyDone t n 0 ∧ t.get CRY_DKd_CFG_STATE k = 1 ∧ t.get CRY_DKd_COUNT_COUNT k = 0 ∧
        tget t.cry.derived k = some (derive s (dkLabel s k) (s.get CRY_DKd_CFG_GEN k))) ∧
    (k < 64 → ∃ t, exec (.dkClear n) s = .next t ∧ KeyDone t n 0 ∧ t.get CRY_DKd_CFG_STATE k = 0 ∧ tget t.cry.derived k = none) ∧
    (64 ≤ k → ∃ t, exec (.dkClear n) s = .next t ∧ KeyRefused s t n))

/-- Seals and opens (R271 to R273): arguments out of range end with BAD_ARG, an empty derived slot with NO_KEY, a seal of an exhausted
one with EXHAUSTED; a seal writes ciphertext and tag; an open writes the plaintext where the tag matches, and zeros with AUTH_FAIL
where it does not.

The entropy source (R267, R274, R275): a failed health test counts, clears OK and sets ENTROPY_FAIL; 1,024 good samples set OK again,
unless a lasting fault holds it; a reseed after 2^20 generate requests starts their count again.

States that each of these commands completes, with its effect: `sealJob`, `openJob`, `entropyHealthFail`, `entropyRecovery`, `drbgReseed`. -/
def Obligations.SealsAndEntropy : Prop :=
  (∀ (j : Nat) (s : State), s.live = true → j < 16 → s.on CRY_CTRL_ENABLE = true →
    (∀ c, c = .sealJob j ∨ c = .openJob j →
      (gcmArgsOk s j = false → ∃ t, exec c s = .next t ∧ t.get CRY_GCMn_CTL_DONE j = 1 ∧ t.get CRY_GCMn_CTL_RESULT j = 4 ∧
        t.get CRY_GCMn_CTL_GO j = 0 ∧ SameMemory s t) ∧
      (gcmArgsOk s j = true → s.get CRY_DKd_CFG_STATE (gcmDk s j) = 0 → ∃ t, exec c s = .next t ∧
        t.get CRY_GCMn_CTL_DONE j = 1 ∧ t.get CRY_GCMn_CTL_RESULT j = 3 ∧ SameMemory s t)) ∧
    (gcmArgsOk s j = true → s.get CRY_DKd_CFG_STATE (gcmDk s j) ≠ 0 →
      (s.get CRY_DKd_COUNT_COUNT (gcmDk s j) = 2 ^ 32 → ∃ t, exec (.sealJob j) s = .next t ∧ t.get CRY_GCMn_CTL_DONE j = 1 ∧
        t.get CRY_GCMn_CTL_RESULT j = 2 ∧ t.get CRY_STATUS_GCM_EXHAUSTED = 1 ∧ SameMemory s t) ∧
      (∀ aad d c g, readBytes s (s.get CRY_GCMn_AAD_ADDR j) (gcmAadLen s j) = some aad →
        readBytes s (s.get CRY_GCMn_IN_ADDR j) (gcmLen s j) = some d →
        (s.get CRY_DKd_COUNT_COUNT (gcmDk s j) ≠ 2 ^ 32 → fit (Config.gcmEnc (gcmKey s j) (gcmNonce s j) aad d) (gcmLen s j) = c →
          fit (Config.gcmTag (gcmKey s j) (gcmNonce s j) aad c) 16 = g →
          ∃ t, exec (.sealJob j) s = .next t ∧ t.get CRY_GCMn_CTL_DONE j = 1 ∧ t.get CRY_GCMn_CTL_RESULT j = 0 ∧
            t.mem = (writeBytes (writeBytes s (s.get CRY_GCMn_OUT_ADDR j) c) (s.get CRY_GCMn_TAG_ADDR j) g).mem ∧
            t.get CRY_DKd_COUNT_COUNT (gcmDk s j) =
              (s.bump CRY_DKd_COUNT_COUNT (gcmDk s j)).get CRY_DKd_COUNT_COUNT (gcmDk s j)) ∧
        (readBytes s (s.get CRY_GCMn_TAG_ADDR j) 16 = some g →
          (fit (Config.gcmTag (gcmKey s j) (gcmNonce s j) aad d) 16 = g → ∃ t, exec (.openJob j) s = .next t ∧
            t.get CRY_GCMn_CTL_DONE j = 1 ∧ t.get CRY_GCMn_CTL_RESULT j = 0 ∧ t.mem = (writeBytes s (s.get CRY_GCMn_OUT_ADDR j)
              (fit (Config.gcmDec (gcmKey s j) (gcmNonce s j) aad d) (gcmLen s j))).mem) ∧
          (fit (Config.gcmTag (gcmKey s j) (gcmNonce s j) aad d) 16 ≠ g → ∃ t, exec (.openJob j) s = .next t ∧
            t.get CRY_GCMn_CTL_DONE j = 1 ∧ t.get CRY_GCMn_CTL_RESULT j = 1 ∧ t.get CRY_STATUS_AUTH_FAIL = 1 ∧
            t.get CRY_CNTn_COUNT 4 = (s.bump CRY_CNTn_COUNT 4).get CRY_CNTn_COUNT 4 ∧
            t.mem = (writeBytes s (s.get CRY_GCMn_OUT_ADDR j) (List.replicate (gcmLen s j) 0)).mem))))) ∧
  (∀ s : State, s.live = true →
    (∃ t, exec (.entropyHealthFail 0) s = .next t ∧ t.get CRY_ENT_OK = 0 ∧ t.get CRY_STATUS_ENTROPY_FAIL = 1 ∧
      t.get CRY_ENT_RCT_CNT = (s.bump CRY_ENT_RCT_CNT).get CRY_ENT_RCT_CNT ∧ t.get CRY_ENT_APT_CNT = s.get CRY_ENT_APT_CNT) ∧
    (∀ x, x ≠ 0 → ∃ t, exec (.entropyHealthFail x) s = .next t ∧ t.get CRY_ENT_OK = 0 ∧ t.get CRY_STATUS_ENTROPY_FAIL = 1 ∧
      t.get CRY_ENT_APT_CNT = (s.bump CRY_ENT_APT_CNT).get CRY_ENT_APT_CNT ∧ t.get CRY_ENT_RCT_CNT = s.get CRY_ENT_RCT_CNT) ∧
    (s.cry.entHeld = false → ∃ t, exec .entropyRecovery s = .next t ∧ t.get CRY_ENT_OK = 1) ∧
    (s.cry.entHeld = true → ∃ t, exec .entropyRecovery s = .next t ∧ Within ⟨[], []⟩ s t) ∧
    (drbgLimit ≤ s.cry.drbgReqs → ∃ t, exec .drbgReseed s = .next t ∧ t.cry = { s.cry with drbgReqs := 0 } ∧ OnlyFields [] s t ∧
      SameMemory s t))

/-- Jobs of the compression engines and loadable tables (R288 to R292): a GO with good arguments waits for an engine, one with bad
arguments ends with BAD_ARG, one that no engine may serve with NO_ENGINE; an idle engine takes the next slot; a job ends with the
first result that applies, and a good one stores its output; a table is made valid where its lengths are, and not while a slot is busy.

States that each of these commands completes, with its effect: `compressJob`, `decompressJob`, `cprJobStart`, `cprJobEnd`,
`loadableTableValid`. -/
def Obligations.CompressionJobs : Prop :=
  (∀ (n : Nat) (s : State), s.live = true → n < 16 → s.on CPR_JOBn_CTL_GO n = false → s.on CPR_CTRL_ENABLE = true →
    (cprArgsOk (s.set CPR_JOBn_CTL_OP 1 n) n = false → ∃ t, exec (.compressJob n) s = .next t ∧ JobEnded t n 4 ∧ t.cpr = s.cpr) ∧
    (cprArgsOk (s.set CPR_JOBn_CTL_OP 2 n) n = false → ∃ t, exec (.decompressJob n) s = .next t ∧ JobEnded t n 4 ∧ t.cpr = s.cpr) ∧
    (hasEngine s n = false →
      (cprArgsOk (s.set CPR_JOBn_CTL_OP 1 n) n = true → ∃ t, exec (.compressJob n) s = .next t ∧ JobEnded t n 8 ∧ t.cpr = s.cpr) ∧
      (cprArgsOk (s.set CPR_JOBn_CTL_OP 2 n) n = true → ∃ t, exec (.decompressJob n) s = .next t ∧ JobEnded t n 8 ∧ t.cpr = s.cpr)) ∧
    (hasEngine s n = true →
      (cprArgsOk (s.set CPR_JOBn_CTL_OP 1 n) n = true → ∃ t, exec (.compressJob n) s = .next t ∧ JobWaits s t n 1) ∧
      (cprArgsOk (s.set CPR_JOBn_CTL_OP 2 n) n = true → ∃ t, exec (.decompressJob n) s = .next t ∧ JobWaits s t n 2))) ∧
  (∀ (e n : Nat) (s : State), s.live = true → e < 4 → s.on CPR_CTRL_ENABLE = true → engineOff s e = false →
    tget s.cpr.running e = none → nextJob s e = some n →
    ∃ t, exec (.cprJobStart e) s = .next t ∧ tget t.cpr.running e = some n ∧ n ∉ t.cpr.waiting ∧ t.get CPR_JOBn_CTL_ENGINE n = e ∧
      bits (t.get CPR_ENG_BUSY) e 1 = 1 ∧ SameMemory s t ∧ OnlyFields [CPR_ENG_BUSY, CPR_JOBn_CTL_ENGINE] s t) ∧
  (∀ (e n r : Nat) (v : Bool) (out : List Byte) (s : State), s.live = true → e < 4 → tget s.cpr.running e = some n →
    jobResult s n v = (r, out) →
    (r = 0 → ∃ t, exec (.cprJobEnd e v) s = .next t ∧ tget t.cpr.running e = none ∧ t.get CPR_JOBn_CTL_RESULT n = 0 ∧
      t.get CPR_JOBn_CTL_DONE n = 1 ∧ t.get CPR_JOBn_CTL_GO n = 0 ∧
      t.get CPR_JOBn_OUT_OUT_LEN n = out.length % 2 ^ CPR_JOBn_OUT_OUT_LEN.width ∧ t.mem = (writeBytes s (cprDst s n) out).mem) ∧
    (r ≠ 0 → r ≠ 2 → ∃ t, exec (.cprJobEnd e v) s = .next t ∧ tget t.cpr.running e = none ∧ t.get CPR_JOBn_CTL_RESULT n = r ∧
      t.get CPR_JOBn_CTL_DONE n = 1 ∧ t.get CPR_JOBn_CTL_GO n = 0) ∧
    (r = 2 → n ∉ s.cpr.waiting → ∃ t, exec (.cprJobEnd e v) s = .next t ∧ tget t.cpr.running e = none ∧ t.get CPR_STATUS_VERIFY_FAIL = 1 ∧
      t.get CPR_JOBn_CTL_RESULT n = 2)) ∧
  (∀ (k : Nat) (s : State), s.live = true → k < 8 →
    (cprBusy s = true → ∃ t, exec (.loadableTableValid k) s = .next t ∧ t.get CPR_STATUS_LTAB_IGN = 1 ∧
      OnlyFields [CPR_STATUS_LTAB_IGN] s t) ∧
    (cprBusy s = false → tableOk (ltabLens s k) = true → ∃ t, exec (.loadableTableValid k) s = .next t ∧
      t.get CPR_LTABt_W4_VALID k = 1 ∧ OnlyFields [CPR_LTABt_W4_VALID] s t) ∧
    (cprBusy s = false → tableOk (ltabLens s k) = false → ∃ t, exec (.loadableTableValid k) s = .next t ∧
      t.get CPR_LTABt_W4_VALID k = 0 ∧ t.get CPR_STATUS_TAB_INVALID = 1 ∧
      OnlyFields [CPR_LTABt_W4_VALID, CPR_STATUS_TAB_INVALID] s t))

/-- A block that the encoder of effort 0 makes without rows decodes to its source, for every source of 1 B to 1 MiB and every element
width (R280 to R287).  -/
def Obligations.CompressionRoundTrip : Prop :=
  ∀ (width l tag ourTag : Nat) (ld ld' : List CprTable) (d : List Byte), width < 4 → l < 4096 → 1 ≤ d.length →
    d.length ≤ 1048576 → cprDecode ld' ourTag (cprEncode width 0 l ld tag d) = .ok d

/-! ## MBX and OOB: mailboxes, cores, the out-of-band endpoint -/

/-- Mailbox channels (R325 to R328, R331): a bound sender's message fills an empty channel, starts its timer and rings the receiver's
doorbell, is rejected by a full one, and is withdrawn at once where nothing can receive it; a bound receiver's ACK empties the channel;
another master sets BIND_VIOL; a timer that expires withdraws the message; no channel is active while ENABLE is 0.

States that each of these commands completes, with its effect: `messageWrite`, `messageAck`, `mailboxTimeout`. -/
def Obligations.Mailboxes : Prop :=
  ∀ (m c : Nat) (s : State), s.live = true → c < 256 →
    (s.on MBX_CTRL_ENABLE = true →
      (∀ w, maySend s m c = true → s.on MBX_CHc_STATE_FULL c = true → ∃ t, exec (.messageWrite m c w) s = .next t ∧
        t.get MBX_CHc_STATE_REJECT c = 1 ∧ OnlyFields [MBX_CHc_STATE_REJECT, MBX_CNTn_COUNT] s t ∧
        t.get MBX_CNTn_COUNT 1 = (s.bump MBX_CNTn_COUNT 1).get MBX_CNTn_COUNT 1) ∧
      (∀ w, maySend s m c = true → s.on MBX_CHc_STATE_FULL c = false → receiverGone s (chReceiver s c) = false →
        ∃ t, exec (.messageWrite m c w) s = .next t ∧ t.get MBX_CHc_MSG_MSG c = w % 2 ^ MBX_CHc_MSG_MSG.width ∧
          t.get MBX_CHc_STATE_FULL c = 1 ∧ t.get MBX_CHc_STATE_ACK_VALID c = 0 ∧
          tget t.mbx.timers c = some (s.timeUs + 16 * s.get MBX_BINDc_TMO c) ∧
          (s.get MBX_BINDc_DB_BIT c < 32 →
            (chReceiver s c < 256 → bits (t.get HOST_HDB_DB (chReceiver s c)) (s.get MBX_BINDc_DB_BIT c) 1 = 1) ∧
            ∀ r, dbIndex (chReceiver s c) = some r →
              bits (t.get MBX_DBr_DB r) (s.get MBX_BINDc_DB_BIT c) 1 = 1)) ∧
      (∀ w, maySend s m c = true → s.on MBX_CHc_STATE_FULL c = false → receiverGone s (chReceiver s c) = true →
        ∃ t, exec (.messageWrite m c w) s = .next t ∧ t.get MBX_CHc_MSG_MSG c = w % 2 ^ MBX_CHc_MSG_MSG.width ∧
          t.get MBX_CHc_STATE_FULL c = 0 ∧ t.get MBX_CHc_STATE_ACK_VALID c = 0 ∧ t.get MBX_CHc_STATE_TIMEOUT c = 1 ∧
          t.get MBX_STATUS_TIMEOUT = 1 ∧ tget t.mbx.timers c = none) ∧
      (∀ w i, (i = .messageWrite m c w ∧ maySend s m c = false) ∨ (i = .messageAck m c w ∧ mayTake s m c = false) →
        ∃ t, exec i s = .next t ∧ t.get MBX_STATUS_BIND_VIOL = 1 ∧ t.mbx = s.mbx ∧
          t.get MBX_CHc_STATE_FULL c = s.get MBX_CHc_STATE_FULL c ∧ t.get MBX_CHc_MSG_MSG c = s.get MBX_CHc_MSG_MSG c ∧
          t.get MBX_CNTn_COUNT 3 = (s.bump MBX_CNTn_COUNT 3).get MBX_CNTn_COUNT 3) ∧
      (∀ r, mayTake s m c = true → s.on MBX_CHc_STATE_FULL c = true → ∃ t, exec (.messageAck m c r) s = .next t ∧
        t.get MBX_CHc_STATE_FULL c = 0 ∧ t.get MBX_CHc_STATE_ACK_VALID c = 1 ∧
        t.get MBX_CHc_STATE_RCODE c = r % 2 ^ MBX_CHc_STATE_RCODE.width ∧ tget t.mbx.timers c = none) ∧
      (∀ r, mayTake s m c = true → s.on MBX_CHc_STATE_FULL c = false → ∃ t, exec (.messageAck m c r) s = .next t ∧
        t.get MBX_CHc_STATE_ACK_IGN c = 1 ∧ OnlyFields [MBX_CHc_STATE_ACK_IGN] s t)) ∧
    (s.on MBX_CTRL_ENABLE = false → ∀ w, (∃ t, exec (.messageWrite m c w) s = .next t ∧ Within ⟨[], []⟩ s t) ∧
      ∃ t, exec (.messageAck m c w) s = .next t ∧ Within ⟨[], []⟩ s t) ∧
    (∀ v, tget s.mbx.timers c = some v →
      (s.on MBX_CHc_STATE_FULL c = true → v ≤ s.timeUs → ∃ t, exec (.mailboxTimeout c) s = .next t ∧ t.get MBX_CHc_STATE_FULL c = 0 ∧
        t.get MBX_CHc_STATE_TIMEOUT c = 1 ∧ t.get MBX_STATUS_TIMEOUT = 1 ∧ tget t.mbx.timers c = none ∧
        t.get MBX_CNTn_COUNT 2 = (s.bump MBX_CNTn_COUNT 2).get MBX_CNTn_COUNT 2) ∧
      (s.on MBX_CHc_STATE_FULL c = false ∨ s.timeUs < v → ∃ t, exec (.mailboxTimeout c) s = .next t ∧ Within ⟨[], []⟩ s t))

/-- Core faults (R319, R321 to R323): a fault of a running core, its watchdog's expiry too, records cause and address, counts, fails the core
over and begins its restart, or retires it where the fault monitor declares it lasting; a bus fault is recorded only; with no
other core running ROUTE_NONE is set, the controller fault begins and the routes stay.

Cores' lives (R321, R323, R334): the watchdog warns at half its period, and a KICK begins it anew; RESTART fails a core over and
loads it; a load copies 512 KiB from HBM to the core's two memories and releases the core, unless HOLD keeps it; RETIRE is for good;
HOLD cleared starts a held core.

States that each of these commands completes, with its effect: `coreFault`, `watchdogExpiry`, `watchdogWarn`, `kick`, `coreRestart`,
`coreImageLoaded`, `coreRetire`, `coreHoldClear`. -/
def Obligations.Cores : Prop :=
  (∀ (n addr : Nat) (s : State), s.live = true → n < 64 → coreState s n = 2 →
    (∀ cause, 2 ≤ cause → cause ≤ 4 → ∃ t, exec (.coreFault n cause addr) s = .next t ∧ CoreFailed s t n cause addr) ∧
    (s.get MBX_COREn_WDOG_PERIOD n ≠ 0 → s.get MBX_COREn_WDOG_PERIOD n ≤ wdogUs s n →
      ∃ t, exec (.watchdogExpiry n) s = .next t ∧ CoreFailed s t n 1 0) ∧
    (s.get MBX_COREn_WDOG_PERIOD n = 0 ∨ wdogUs s n < s.get MBX_COREn_WDOG_PERIOD n →
      ∃ t, exec (.watchdogExpiry n) s = .next t ∧ Within ⟨[], []⟩ s t) ∧
    (∃ t, exec (.coreFault n 5 addr) s = .next t ∧ t.get MBX_COREn_FAULT_CAUSE n = 5 ∧
      t.get MBX_COREn_FAULT_ADDR n = addr % 2 ^ MBX_COREn_FAULT_ADDR.width ∧
      OnlyFields [MBX_COREn_FAULT_CAUSE, MBX_COREn_FAULT_ADDR] s t)) ∧
  (∀ (n : Nat) (s : State), s.live = true → n < 64 →
    (wdogRuns s n = true → s.get MBX_COREn_WDOG_PERIOD n ≤ 2 * wdogUs s n → ∃ t, exec (.watchdogWarn n) s = .next t ∧ t.get MBX_COREn_LOCAL_WDOG_WARN n = 1 ∧
      OnlyFields [MBX_COREn_LOCAL_WDOG_WARN] s t) ∧
    (∃ t, exec (.kick n) s = .next t ∧ tget t.mbx.kicked n = some s.timeUs ∧ OnlyFields [] s t) ∧
    (coreState s n ≠ 3 → ∀ m, nextRunning s n = some m → ∃ t, exec (.coreRestart n) s = .next t ∧ coreState t n = 1 ∧
      t.get MBX_COREn_CTL_RESTART n = 1 ∧ FailedOver s t n m ∧
      t.get MBX_COREn_CNT_RESTART_CNT n = s.get MBX_COREn_CNT_RESTART_CNT n) ∧
    (coreState s n = 3 → ∃ t, exec (.coreRestart n) s = .next t ∧ Within ⟨[], []⟩ s t) ∧
    (coreState s n = 1 → ∃ t, exec (.coreImageLoaded n) s = .next t ∧
      coreState t n = (if s.on MBX_COREn_CTL_HOLD n then 0 else 2) ∧ t.get MBX_COREn_CTL_RESTART n = 0 ∧
      (s.get MBX_COREn_IMAGE_BASE n * 4096 + 0x80000 ≤ hbmEnd → ∀ k b, k < 0x80000 →
        readByte s (s.get MBX_COREn_IMAGE_BASE n * 4096 + k) = some b → memGet t.mem (itcmBase n + k) = b) ∧
      ∀ x, x < itcmBase n ∨ itcmBase n + 0x80000 ≤ x → memGet t.mem x = memGet s.mem x) ∧
    (∃ t, exec (.coreRetire n) s = .next t ∧ coreState t n = 3 ∧ t.get MBX_COREn_CTL_RESTART n = 0 ∧
      t.get MBX_STATUS_CORE_RETIRED = 1) ∧
    (∃ t, exec (.coreHoldClear n) s = .next t ∧ t.get MBX_COREn_CTL_HOLD n = 0 ∧
      coreState t n = if coreState s n = 0 then 2 else coreState s n))

/-- Packets and messages (R396 to R399): an SMBus write whose PEC is wrong is counted and dropped; a message of one packet on either port
waits for its row; a whole NVMe-MI message with a wrong integrity check sets MIC_FAIL, without a slot sets SLOT_FULL, while firmware is
not ready is answered with Internal Error, and otherwise fills its slot.

States that each of these commands completes, with its effect: `smbusPacket`, `vdmMessage`, `nvmeMiMessage`. -/
def Obligations.OobMessages : Prop :=
  (∀ (b : List Byte) (s : State), s.live = true → smbUp s = true → 9 ≤ b.length → byteAt b 0 = s.get OOB_ADDR_SMB_ADDR * 2 →
    (crc8 (b.take (b.length - 1)) ≠ byteAt b (b.length - 1) → ∃ t, exec (.smbusPacket b) s = .next t ∧
      t.get OOB_CNTn_COUNT 3 = (s.bump OOB_CNTn_COUNT 3).get OOB_CNTn_COUNT 3 ∧ t.oob = s.oob ∧ OnlyFields [OOB_CNTn_COUNT] s t) ∧
    (∀ p, crc8 (b.take (b.length - 1)) = byteAt b (b.length - 1) → byteAt b 1 = 0x0F → byteAt b 2 = b.length - 4 →
      (b.drop 4).take (b.length - 5) = p → 5 ≤ p.length → byteAt p 0 % 16 = 1 → byteAt p 1 = 0 ∨ byteAt p 1 = oobEid s 0 →
      bits (byteAt p 3) 3 1 = 1 → 128 ≤ byteAt p 3 → bits (byteAt p 3) 6 1 = 1 → byteAt p 4 % 128 = 4 →
      ∃ t, exec (.smbusPacket b) s = .next t ∧ t.oob.whole = s.oob.whole ++
        [(0, ⟨byteAt b 3 / 2, byteAt p 2, byteAt p 3 % 8, p.drop 4, none, s.oob.arrivals⟩)] ∧ t.out = s.out)) ∧
  (∀ (v : VdmPacket) (s : State), s.live = true → oobUp s = true → s.on OOB_CFG_VDM_EN = true →
    s.on HIF_LINKl_STATUS_UP v.link = true →
    (v.route ≠ 0 → v.route ≠ 2 ∨ v.toPf = false → ∃ t, exec (.vdmMessage v) s = .next t ∧ Within ⟨[], []⟩ s t) ∧
    (v.route = 0 ∨ (v.route = 2 ∧ v.toPf = true) → 5 ≤ v.data.length → byteAt v.data 0 % 16 = 1 → byteAt v.data 1 = 0 ∨ byteAt v.data 1 = oobEid s 1 →
      bits (byteAt v.data 3) 3 1 = 1 → 128 ≤ byteAt v.data 3 → bits (byteAt v.data 3) 6 1 = 1 → byteAt v.data 4 % 128 = 4 →
      ∃ t, exec (.vdmMessage v) s = .next t ∧ t.oob.whole = s.oob.whole ++
        [(1, ⟨v.link, byteAt v.data 2, byteAt v.data 3 % 8, v.data.drop 4, none, s.oob.arrivals⟩)] ∧ t.out = s.out)) ∧
  (∀ (port : Nat) (r : OobReq) (m : List Byte) (s : State), s.live = true → port < 2 → s.oob.whole = [(port, r)] →
    byteAt r.msg 0 % 128 = 4 → oobEid s port ≠ 0 → 12 ≤ r.msg.length → 128 ≤ byteAt r.msg 0 →
    r.msg.take (r.msg.length - 4) = m →
    (crc32c m ≠ fieldAt r.msg (r.msg.length - 4) 4 → ∃ t, exec (.nvmeMiMessage port) s = .next t ∧ t.oob.whole = [] ∧
      t.get OOB_STATUS_MIC_FAIL = 1 ∧ t.oob.slots = s.oob.slots) ∧
    (crc32c m = fieldAt r.msg (r.msg.length - 4) 4 → byteAt m 1 < 128 →
      (miSlot s port m = none → ∃ t, exec (.nvmeMiMessage port) s = .next t ∧ t.oob.whole = [] ∧ t.get OOB_STATUS_SLOT_FULL = 1 ∧
        t.oob.slots = s.oob.slots) ∧
      (∀ k, miSlot s port m = some k →
        (s.on OOB_CTRL_FW_READY = false → ∃ t, exec (.nvmeMiMessage port) s = .next t ∧ t.oob.whole = [] ∧
          t.oob.slots = s.oob.slots ∧ t.out = (miAnswer s port { r with msg := m } miInternal [] []).out) ∧
        (s.on OOB_CTRL_FW_READY = true → miStatus m ≠ 0 → ∃ t, exec (.nvmeMiMessage port) s = .next t ∧ t.oob.whole = [] ∧
          t.oob.slots = s.oob.slots ∧ t.out = (miAnswer s port { r with msg := m } (miStatus m) [] []).out) ∧
        (s.on OOB_CTRL_FW_READY = true → miStatus m = 0 → ∃ t, exec (.nvmeMiMessage port) s = .next t ∧ t.oob.whole = [] ∧
          tget t.oob.slots k = some { r with msg := m } ∧ t.out = s.out))))

/-- Control messages and the SMBus side (R396, R399, R400, R404, R405): each control row answers the request that waits for it; the basic
management command is answered at its address; a won read of the Alert Response Address answers with the endpoint's address and
releases ALERT_N; a low clock, swapped lines and FW_READY set what their rules say.

States that each of these commands completes, with its effect: `setEndpointId`, `getEndpointId`, `getMctpVersionSupport`,
`getMessageTypeSupport`, `basicManagementRead`, `alertResponseAddressRead`, `smbusClockLowTimeout`, `smbSwapDetect`, `smbSwapResume`,
`fwReadyWrite`. -/
def Obligations.OobControl : Prop :=
  (∀ (port : Nat) (r : OobReq) (s : State), s.live = true → s.oob.whole = [(port, r)] → byteAt r.msg 0 % 128 = 0 →
    (byteAt r.msg 2 = 1 → byteAt r.msg 3 % 4 < 2 → 8 ≤ byteAt r.msg 4 → byteAt r.msg 4 < 255 → port < 2 →
      ∃ t, exec (.setEndpointId port) s = .next t ∧ t.oob.whole = [] ∧ oobEid t port = byteAt r.msg 4 ∧
        ∃ m, t.out = s.out ++ m ∧ m ≠ []) ∧
    (byteAt r.msg 2 = 1 → 2 ≤ byteAt r.msg 3 % 4 ∨ byteAt r.msg 4 < 8 ∨ byteAt r.msg 4 = 255 →
      ∃ t, exec (.setEndpointId port) s = .next t ∧ t.oob.whole = [] ∧ t.out = (ctlAnswer s port r 2 []).out ∧ OnlyFields [] s t) ∧
    (byteAt r.msg 2 = 2 → ∃ t, exec (.getEndpointId port) s = .next t ∧ t.oob.whole = [] ∧ OnlyFields [] s t ∧
      t.out = (ctlAnswer s port r 0 (natLe (oobEid s port) 1 ++ natLe 0 1 ++ natLe 0 1)).out) ∧
    (byteAt r.msg 2 = 4 → ∃ t, exec (.getMctpVersionSupport port) s = .next t ∧ t.oob.whole = [] ∧ OnlyFields [] s t ∧
      (byteAt r.msg 3 ∉ [0, 4, 0xFF] → t.out = (ctlAnswer s port r 0x80 []).out)) ∧
    (byteAt r.msg 2 = 5 → ∃ t, exec (.getMessageTypeSupport port) s = .next t ∧ t.oob.whole = [] ∧ OnlyFields [] s t ∧
      t.out = (ctlAnswer s port r 0 (natLe 1 1 ++ natLe 4 1)).out)) ∧
  (∀ s : State, s.live = true →
    (∀ start, start = 0 ∨ start = 8 → smbUp s = true → s.get OOB_CFG_BASIC_ADDR ≠ 0 →
      ∃ t d, exec (.basicManagementRead start) s = .next t ∧ t.out = s.out ++ [.oob 0 0 d] ∧
        d.length = (if start = 0 then 8 else 24) ∧ OnlyFields [] s t) ∧
    (smbUp s = true → s.oob.alert = true → ∃ t, exec (.alertResponseAddressRead true) s = .next t ∧ t.oob.alert = false ∧
      t.out = s.out ++ [.oob 0 0x0C (natLe (s.get OOB_ADDR_SMB_ADDR * 2) 1), .pin .alertN none]) ∧
    (∃ t, exec (.alertResponseAddressRead false) s = .next t ∧ Within ⟨[], []⟩ s t) ∧
    (∃ t, exec .smbusClockLowTimeout s = .next t ∧ t.get OOB_STATUS_SMB_TIMEOUT = 1 ∧ t.oob = s.oob ∧
      t.get OOB_CNTn_COUNT 5 = (s.bump OOB_CNTn_COUNT 5).get OOB_CNTn_COUNT 5) ∧
    (∃ t, exec .smbSwapDetect s = .next t ∧ t.get OOB_STATUS_SMB_SWAPPED = 1 ∧ t.oob.swapped = true ∧ smbUp t = false) ∧
    (s.on OOB_STATUS_SMB_SWAPPED = false → ∃ t, exec .smbSwapResume s = .next t ∧ t.oob.swapped = false ∧ OnlyFields [] s t) ∧
    (s.on OOB_STATUS_SMB_SWAPPED = true → ∃ t, exec .smbSwapResume s = .next t ∧ Within ⟨[], []⟩ s t) ∧
    (∃ t, exec (.fwReadyWrite true) s = .next t ∧ t.get OOB_CTRL_FW_READY = 1 ∧ t.oob.slots = s.oob.slots) ∧
    (∃ t, exec (.fwReadyWrite false) s = .next t ∧ t.get OOB_CTRL_FW_READY = 0 ∧ t.oob.slots = []))

/-- The NVMe-MI commands of the slots (R401, R403): each row answers the request of its opcode with what it reads, Configuration Set and VPD
Write change what they name after the check of their arguments, and Reset is refused.

Tunnelled admin commands (R402): a request for a controller that cannot serve it, or for a feature that the endpoint does not set, is
answered with an invalid parameter; a command that its checks refuse ends in its own context; a good one is posted to device firmware
in a context of the endpoint; a committed one is answered, and its context is free.

States that each of these commands completes, with its effect: `readNvmeMiDataStructure`, `nvmSubsystemHealthStatusPoll`,
`controllerHealthStatusPoll`, `configurationGet`, `configurationSet`, `vpdRead`, `vpdWrite`, `nvmeMiReset`, `tunnelledAdminCommand`. -/
def Obligations.OobSlots : Prop :=
  (∀ (k : Nat) (r : OobReq) (s : State), s.live = true → tget s.oob.slots k = some r → miKind r.msg = 1 →
    (miOp r.msg = 0 → ∃ t, exec (.readNvmeMiDataStructure k) s = .next t ∧ SlotAnswered s t k r (miReadDs s (reqD0 r)).1
      (natLe (miReadDs s (reqD0 r)).2.length 2) (miReadDs s (reqD0 r)).2) ∧
    (miOp r.msg = 1 → bits (reqD1 r) 31 1 = 0 → ∃ t, exec (.nvmSubsystemHealthStatusPoll k) s = .next t ∧
      SlotAnswered s t k r 0 [] (miHealth s) ∧ t.oob.chg = s.oob.chg) ∧
    (miOp r.msg = 1 → bits (reqD1 r) 31 1 = 1 → ∃ t, exec (.nvmSubsystemHealthStatusPoll k) s = .next t ∧
      SlotAnswered (clearFlags s) t k r 0 [] (miHealth s) ∧ t.oob.chg = 0) ∧
    (miOp r.msg = 2 → ∃ t, exec (.controllerHealthStatusPoll k) s = .next t ∧ SlotAnswered s t k r 0
      (natLe 0 2 ++ natLe (miPoll s (reqD0 r)).length 1) ((miPoll s (reqD0 r)).flatMap (miCtrlHealth s))) ∧
    (miOp r.msg = 4 →
      (∀ v, miGet s (reqD0 r) = some v → ∃ t, exec (.configurationGet k) s = .next t ∧ SlotAnswered s t k r 0 (natLe v 3) []) ∧
      (miGet s (reqD0 r) = none → ∃ t, exec (.configurationGet k) s = .next t ∧ SlotAnswered s t k r miParam [] [])) ∧
    (miOp r.msg = 3 → setBefore s r = false →
      (∀ o, miSet s (reqD0 r) (reqD1 r) = some o → ∃ t, exec (.configurationSet k) s = .next t ∧ SlotAnswered s t k r 0 [] [] ∧
        t.oob.freq = o.freq ∧ t.oob.chgEn = o.chgEn ∧ t.oob.mtu0 = o.mtu0 ∧ t.oob.mtu1 = o.mtu1) ∧
      (miSet s (reqD0 r) (reqD1 r) = none → ∃ t, exec (.configurationSet k) s = .next t ∧ SlotAnswered s t k r miParam [] [] ∧
        t.oob.freq = s.oob.freq ∧ t.oob.chgEn = s.oob.chgEn ∧ t.oob.mtu0 = s.oob.mtu0 ∧ t.oob.mtu1 = s.oob.mtu1)) ∧
    (miOp r.msg = 3 → setBefore s r = true → ∃ t, exec (.configurationSet k) s = .next t ∧ Within ⟨[], []⟩ s t) ∧
    (miOp r.msg = 5 →
      (∀ d, miVpdRead s (reqD0 r) (reqD1 r) = some d → ∃ t, exec (.vpdRead k) s = .next t ∧ SlotAnswered s t k r 0 [] d) ∧
      (miVpdRead s (reqD0 r) (reqD1 r) = none → ∃ t, exec (.vpdRead k) s = .next t ∧ SlotAnswered s t k r miParam [] [])) ∧
    (miOp r.msg = 6 → ∀ st u, miVpdWrite s (reqD0 r) (reqD1 r) (r.msg.drop 16) = (st, u) →
      ∃ t, exec (.vpdWrite k) s = .next t ∧ SlotAnswered s t k r st [] [] ∧ t.oob.vpd = u.oob.vpd) ∧
    (miOp r.msg = 7 → ∃ t, exec (.nvmeMiReset k) s = .next t ∧ SlotAnswered s t k r miParam [] [])) ∧
  ((∀ (k cntl : Nat) (r : OobReq) (s : State), s.live = true → tget s.oob.slots k = some r → miKind r.msg = 2 → r.ctx = none →
    fieldAt r.msg 6 2 = cntl →
    (cntl = 0 ∨ 256 < cntl ∨ fnPresent s (cntl - 1) = false ∨ s.on NVME_CC_EN (cntl - 1) = false ∨
      tunnelRefused (tunnelSqe r.msg) = true → ∃ t more, exec (.tunnelledAdminCommand k) s = .next t ∧ tget t.oob.slots k = none ∧
        t.out = (miAnswer s (k / 2) r miParam [] []).out ++ more) ∧
    (∀ c x st, 1 ≤ cntl → cntl ≤ 256 → fnPresent s (cntl - 1) = true → s.on NVME_CC_EN (cntl - 1) = true →
      tunnelRefused (tunnelSqe r.msg) = false → tfree s.cmd.ctxs ctxTunnel 8 = some c →
      x = { ctx0 (cntl - 1) 0 0 with
        sqe := tunnelSqe r.msg, seq := s.cmd.seq, stage := .running, tunnel := some k, left := 0, got := [(0, r.msg.drop 68)] } →
      entryStatus s c x = st →
      (st ≠ 0 → ∃ t, exec (.tunnelledAdminCommand k) s = .next t ∧ Ended t c st 0 ∧
        tget t.oob.slots k = some { r with ctx := some c }) ∧
      (st = 0 → miOp r.msg ≠ 8 → fwqRoom s = true → ∃ t y i, exec (.tunnelledAdminCommand k) s = .next t ∧
        tget t.oob.slots k = some { r with ctx := some c } ∧ ctxOf t c = some y ∧ y.stage = .ringed i ∧ y.tunnel = some k ∧
        y.sqe = tunnelSqe r.msg) ∧
      (st = 0 → miOp r.msg ≠ 8 → fwqRoom s = false → ∃ t, exec (.tunnelledAdminCommand k) s = .next t ∧
        t.get CMD_STATUS_FWQ_FULL = 1 ∧ tget t.oob.slots k = some r))) ∧
  (∀ (k c : Nat) (r : OobReq) (x : Ctx) (s : State), s.live = true → tget s.oob.slots k = some r → miKind r.msg = 2 →
    r.ctx = some c → ctxOf s c = some x → x.stage = .committed →
    ∃ t d more, exec (.tunnelledAdminCommand k) s = .next t ∧ tget t.oob.slots k = none ∧ ctxOf t c = none ∧
      t.out = (miAnswer s (k / 2) r 0 [] (natLe x.dw0 4 ++ natLe x.dw1 4 ++ natLe (x.err * 131072) 4 ++ d)).out ++ more))

/-! ## FLT and registers -/

/-- The fault monitor (R412, R415, R418): an event of a compression engine, of the entropy source, of the mailboxes or of a media address
counts up to 65,535, opens a window, and is lasting at its class's limit, once; a lasting fault of an engine disables it; FLT_CLEAR clears
what an element has but its total; FLT_APPEND writes the next entry of the log.

States that each of these commands completes, with its effect: `fltEvent`, `fltClear`, `fltAppend`. -/
def Obligations.FaultMonitor : Prop :=
  (∀ (e code data c : Nat) (s : State), s.live = true → 0x0980 ≤ e → e ≤ 0x0986 → elemClass e = some c →
    ∃ t, exec (.fltEvent e code data) s = .next t ∧
      t.get FLT_ELEMe_TOTAL e = min (s.get FLT_ELEMe_TOTAL e + 1) 65535 ∧
      (s.on FLT_ELEMe_LASTING e = true → t.get FLT_ELEMe_WIN_CNT e = s.get FLT_ELEMe_WIN_CNT e) ∧
      (s.on FLT_ELEMe_LASTING e = false →
        (s.get FLT_ELEMe_WIN_CNT e = 0 → t.get FLT_ELEMe_WIN_CNT e = 1) ∧
        (s.get FLT_CLASSc_CFG_N c = 0 → t.on FLT_ELEMe_LASTING e = false) ∧
        (s.get FLT_CLASSc_CFG_N c = 1 → t.get FLT_ELEMe_LASTING e = 1 ∧ t.get FLT_STATUS_LASTING = 1 ∧
          t.get FLT_LAST_ELEMENT = e ∧ (e < 0x0984 → engineOff t (e - 0x0980) = true ∧ t.get CPR_STATUS_ENG_OFF = 1) ∧
          (e = 0x0984 → t.get CRY_ENT_OK = 0)))) ∧
  (∀ (e : Nat) (s : State), s.live = true →
    (∀ c, elemClass e = some c → ∃ t, exec (.fltClear e) s = .next t ∧ t.get FLT_ELEMe_WIN_CNT e = 0 ∧ t.get FLT_ELEMe_T0 e = 0 ∧
      t.get FLT_ELEMe_LASTING e = 0 ∧
      OnlyFields [FLT_ELEMe_WIN_CNT, FLT_ELEMe_T0, FLT_ELEMe_LASTING, FLT_WORDi_WIN_CNT] s t) ∧
    (elemClass e = none → ∃ t, exec (.fltClear e) s = .next t ∧ Within ⟨[], []⟩ s t)) ∧
  (∀ (cause e c q : Nat) (s : State), s.live = true → elemClass e = some c → s.get FLT_LOG_SEQ_SEQ = q →
    ∃ t, exec (.fltAppend cause e) s = .next t ∧ t.get FLT_LOG_SEQ_SEQ = (q + 1) % 2 ^ 32 ∧
      t.get FLT_LOGi_V (q % 1024) 1 = (q + e * 2 ^ 32 + c * 2 ^ 48 + 4 * 2 ^ 56) % 2 ^ 64 ∧
      t.get FLT_LOGi_V (q % 1024) 2 = cause % 2 ^ 16 ∧ t.get FLT_LOGi_V (q % 1024) 3 = s.get FLT_APPEND_DATA_V % 2 ^ 64 ∧
      (∀ i j, i ≠ q % 1024 → t.get FLT_LOGi_V i j = s.get FLT_LOGi_V i j) ∧ OnlyFields [FLT_LOGi_V, FLT_LOG_SEQ_SEQ] s t)

/-- Writes on the internal bus (R3, R7, R317 to R319): an aligned write of 4 or 8 bytes in a block window completes with what the access
does to its registers (Table 0.3); a locked register takes no write, an unlocked one only a value in its range; a
W1C bit clears and a W1S bit sets at a 1; an offset that holds nothing ignores a write; a write of another size faults; memory takes the
bytes; a host function reaches nothing. A faulting core records it.

Writes of a host and the read that clears (R3, R191, R194, R195, R198, R213, R333, R395): a BAR that does not answer drops a write and
logs Unsupported Request; AQA takes sizes from 1 to 4,095; the doorbell mask, an MSI-X address and Memory Space Enable of a physical
function take the value, the latter with a completion; a configuration write of an absent function completes with Unsupported Request,
one before the function is back from its reset with Request Retry Status, and neither writes a field it names; a read of an element's
temperature leaves its maximum 0. What a host reads at the head of configuration space and of BAR0 is Table 8.4's and Table 9.1's.

States that each of these commands completes, with its effect: `registerWrite`, `pwrElemTempMaxRead`. -/
def Obligations.RegisterWrites : Prop :=
  ((∀ (m a n v : Nat) (h : Bool) (s : State), s.live = true → FullMaster m → isWindow a = true → n = 4 ∨ n = 8 → a % n = 0 →
    ∃ t, exec (.registerWrite (.bus m a n h) v) s = .next t ∧ t.bus = .idle ∧ t.mem = (regWrite s m a n v).mem ∧
      ∀ f i j, t.get f i j = (regWrite s m a n v).get f i j) ∧
  (∀ (m v : Nat) (h : Bool) (s : State), s.live = true → FullMaster m →
    (s.get MAP_RUN_LIMIT_RUN_COUNT < 2 ^ 29 →
      (s.on MAP_CTRL_LOCK = false → v ≤ 483183616 → ∃ t, exec (.registerWrite (.bus m 0xF003000018 4 h) v) s = .next t ∧
        t.get MAP_RUN_LIMIT_RUN_COUNT = v ∧ t.bus = .idle ∧ SameMemory s t ∧ OnlyFields [MAP_RUN_LIMIT_RUN_COUNT] s t) ∧
      (s.on MAP_CTRL_LOCK = true ∨ 483183616 < v % 2 ^ 29 → ∃ t, exec (.registerWrite (.bus m 0xF003000018 4 h) v) s = .next t ∧
        t.bus = .idle ∧ SameMemory s t ∧ OnlyFields [] s t)) ∧
    (bits v 1 1 = 1 → ∃ t, exec (.registerWrite (.bus m 0xF003000000 4 h) v) s = .next t ∧ t.get MAP_CTRL_LOCK = 1 ∧ t.bus = .idle) ∧
    (bits v 7 1 = 1 → ∃ t, exec (.registerWrite (.bus m 0xF003000004 4 h) v) s = .next t ∧ t.get MAP_STATUS_CORRUPT = 0 ∧
      t.bus = .idle)) ∧
  (∀ (m a n v : Nat) (h : Bool) (s : State), s.live = true → FullMaster m →
    (isMem a n = true → ∃ t, exec (.registerWrite (.bus m a n h) v) s = .next t ∧ t.bus = .idle ∧
      t.mem = (writeBytes s a (natLe v n)).mem) ∧
    (isWindow a = true → n = 4 → a % 4 = 0 → regAt a = none → ∃ t, exec (.registerWrite (.bus m a n h) v) s = .next t ∧
      t.bus = .idle ∧ SameMemory s t ∧ OnlyFields [] s t) ∧
    (isWindow a = true → (n ≠ 4 ∧ n ≠ 8) ∨ a % n ≠ 0 → m < 0x140 → coreState s (m - 0x100) = 2 →
      ∃ t, exec (.registerWrite (.bus m a n false) v) s = .next t ∧ t.bus = .fault a ∧ t.get MBX_COREn_FAULT_CAUSE (m - 0x100) = 5 ∧
        t.get MBX_COREn_FAULT_ADDR (m - 0x100) = a % 2 ^ MBX_COREn_FAULT_ADDR.width ∧ SameMemory s t ∧
        OnlyFields [MBX_COREn_FAULT_CAUSE, MBX_COREn_FAULT_ADDR] s t)) ∧
  (∀ (m a n v : Nat) (h : Bool) (s : State), s.live = true → m < 0x100 → ∃ t, exec (.registerWrite (.bus m a n h) v) s = .next t ∧
    t.bus = .fault a ∧ SameMemory s t ∧ OnlyFields [] s t)) ∧
  ((∀ (f off n v : Nat) (s : State), s.live = true → memOn s f = false → f < 256 → off + n ≤ 65536 → off + n ≤ bar0Bytes s f →
    ∀ w, w = .bar0 f off n ∨ w = .bar2 f off n ∨ w = .bar4 f off n →
    ∃ t, exec (.registerWrite w v) s = .next t ∧ t.get CFG_DEVCTL_URD (errFn s f) = 1 ∧ SameMemory s t ∧
      (∀ x : Fld, x ∈ [NVME_AQA_ASQS, NVME_CC_EN, HOST_HDBMASK_MASK, VEC_ADDR_V, VEC_CTRL_MASK] → ∀ i j, t.get x i j = s.get x i j)) ∧
  (∀ (f v : Nat) (s : State), s.live = true → f < 256 →
    (memOn s f = true →
      (s.get NVME_AQA_ASQS f < 2 ^ 12 → s.get NVME_AQA_ACQS f < 2 ^ 12 → 1 ≤ bits v 0 12 → 1 ≤ bits v 16 12 →
        ∃ t, exec (.registerWrite (.bar0 f 0x24 4) v) s = .next t ∧ t.get NVME_AQA_ASQS f = bits v 0 12 ∧
          t.get NVME_AQA_ACQS f = bits v 16 12 ∧ OnlyFields [NVME_AQA_ASQS, NVME_AQA_ACQS] s t) ∧
      (∃ t, exec (.registerWrite (.bar2 f 4 4) v) s = .next t ∧ t.get HOST_HDBMASK_MASK f = v % 2 ^ 32) ∧
      (∀ k, k < vecCount s f → k < 2048 → ∃ t, exec (.registerWrite (.bar4 f (16 * k) 8) v) s = .next t ∧
        t.get VEC_ADDR_V f k = v % 2 ^ 64 ∧ OnlyFields [VEC_ADDR_V] s t)) ∧
    (∀ off n, n ≤ 4 → s.on HIF_LINKl_STATUS_UP (linkOf s f) = true →
      (fnPresent s f = false → ∃ t, exec (.registerWrite (.config f off n) v) s = .next t ∧ t.get CFG_DEVCTL_URD (errFn s f) = 1 ∧
        t.get CFG_COMMAND_BME f = s.get CFG_COMMAND_BME f ∧ Out.cfgCpl f 1 ∈ t.out) ∧
      (fnPresent s f = true →
        (s.on HIF_FNf_STATE_FLR_BUSY f = true ∨ s.timeUs < tgetD s.hif.perstUs (f / 64) 0 →
          ∃ t, exec (.registerWrite (.config f off n) v) s = .next t ∧ Out.cfgCpl f 2 ∈ t.out ∧ SameMemory s t ∧ OnlyFields [] s t) ∧
        (s.on HIF_FNf_STATE_FLR_BUSY f = false → tgetD s.hif.perstUs (f / 64) 0 ≤ s.timeUs →
          isPf s f = true → off = 4 → n = 2 ∨ n = 4 → ∃ t, exec (.registerWrite (.config f off n) v) s = .next t ∧
          t.get HIF_FNf_STATE_MSE f = bits v 1 1 ∧ bme t f = decide (bits v 2 1 = 1) ∧ Out.cfgCpl f 0 ∈ t.out)))) ∧
  (∀ (k : Nat) (s : State), s.live = true → k < 32 → ∃ t, exec (.pwrElemTempMaxRead k) s = .next t ∧
    t.bus = .data (s.get PWR_ELEMk_TEMP_TEMP k + s.get PWR_ELEMk_TEMP_MAX k * 2 ^ 16) ∧ t.get PWR_ELEMk_TEMP_MAX k = 0 ∧
    t.get PWR_ELEMk_TEMP_TEMP k = s.get PWR_ELEMk_TEMP_TEMP k ∧ OnlyFields [PWR_ELEMk_TEMP_MAX] s t) ∧
  (∀ (f : Nat) (s : State), isPf s f = true → cfgRead s f 0 = 0x88401EE9 ∧ cfgRead s f 8 = 0x01080201) ∧
  (∀ (f : Nat) (s : State), memOn s f = true → hostRead s f 0 0 8 = some 0x084000201203FFFF ∧ hostRead s f 0 8 4 = some 0x00020100) ∧
  (∀ (f bar off n : Nat) (s : State), memOn s f = false → hostRead s f bar off n = none))
end

