-- ==== Sys2Proof/Laws/State.lean ====
section
/-! SUPPORT. What each named update of the state leaves in each field: the facts that spare a proof from unfolding a record
update. -/

namespace Sys2Proof.Machine

/-! `State.set`. -/

@[simp] theorem State.set_phase (s : State) (f : Fld) (v i j : Nat) : (s.set f v i j).phase = s.phase := rfl
@[simp] theorem State.set_regs (s : State) (f : Fld) (v i j : Nat) : (s.set f v i j).regs = rset s.regs f v i j := rfl
@[simp] theorem State.set_mem (s : State) (f : Fld) (v i j : Nat) : (s.set f v i j).mem = s.mem := rfl
@[simp] theorem State.set_stale (s : State) (f : Fld) (v i j : Nat) : (s.set f v i j).stale = s.stale := rfl
@[simp] theorem State.set_out (s : State) (f : Fld) (v i j : Nat) : (s.set f v i j).out = s.out := rfl
@[simp] theorem State.set_bus (s : State) (f : Fld) (v i j : Nat) : (s.set f v i j).bus = s.bus := rfl
@[simp] theorem State.set_freeCount (s : State) (f : Fld) (v i j : Nat) : (s.set f v i j).freeCount = s.freeCount := rfl
@[simp] theorem State.set_timeUs (s : State) (f : Fld) (v i j : Nat) : (s.set f v i j).timeUs = s.timeUs := rfl
@[simp] theorem State.set_mbx (s : State) (f : Fld) (v i j : Nat) : (s.set f v i j).mbx = s.mbx := rfl
@[simp] theorem State.set_flt (s : State) (f : Fld) (v i j : Nat) : (s.set f v i j).flt = s.flt := rfl
@[simp] theorem State.set_map (s : State) (f : Fld) (v i j : Nat) : (s.set f v i j).map = s.map := rfl
@[simp] theorem State.set_fch (s : State) (f : Fld) (v i j : Nat) : (s.set f v i j).fch = s.fch := rfl
@[simp] theorem State.set_cdc (s : State) (f : Fld) (v i j : Nat) : (s.set f v i j).cdc = s.cdc := rfl
@[simp] theorem State.set_trk (s : State) (f : Fld) (v i j : Nat) : (s.set f v i j).trk = s.trk := rfl
@[simp] theorem State.set_hbm (s : State) (f : Fld) (v i j : Nat) : (s.set f v i j).hbm = s.hbm := rfl
@[simp] theorem State.set_bur (s : State) (f : Fld) (v i j : Nat) : (s.set f v i j).bur = s.bur := rfl
@[simp] theorem State.set_hif (s : State) (f : Fld) (v i j : Nat) : (s.set f v i j).hif = s.hif := rfl
@[simp] theorem State.set_cmd (s : State) (f : Fld) (v i j : Nat) : (s.set f v i j).cmd = s.cmd := rfl
@[simp] theorem State.set_nvm (s : State) (f : Fld) (v i j : Nat) : (s.set f v i j).nvm = s.nvm := rfl
@[simp] theorem State.set_bpm (s : State) (f : Fld) (v i j : Nat) : (s.set f v i j).bpm = s.bpm := rfl
@[simp] theorem State.set_udm (s : State) (f : Fld) (v i j : Nat) : (s.set f v i j).udm = s.udm := rfl
@[simp] theorem State.set_cry (s : State) (f : Fld) (v i j : Nat) : (s.set f v i j).cry = s.cry := rfl
@[simp] theorem State.set_sys (s : State) (f : Fld) (v i j : Nat) : (s.set f v i j).sys = s.sys := rfl
@[simp] theorem State.set_media (s : State) (f : Fld) (v i j : Nat) : (s.set f v i j).media = s.media := rfl
@[simp] theorem State.set_cpr (s : State) (f : Fld) (v i j : Nat) : (s.set f v i j).cpr = s.cpr := rfl
@[simp] theorem State.set_fw (s : State) (f : Fld) (v i j : Nat) : (s.set f v i j).fw = s.fw := rfl
@[simp] theorem State.set_pwr (s : State) (f : Fld) (v i j : Nat) : (s.set f v i j).pwr = s.pwr := rfl
@[simp] theorem State.set_oob (s : State) (f : Fld) (v i j : Nat) : (s.set f v i j).oob = s.oob := rfl
@[simp] theorem State.set_tap (s : State) (f : Fld) (v i j : Nat) : (s.set f v i j).tap = s.tap := rfl
@[simp] theorem State.set_latch (s : State) (f : Fld) (v i j : Nat) : (s.set f v i j).latch = s.latch := rfl
@[simp] theorem State.set_pending (s : State) (f : Fld) (v i j : Nat) : (s.set f v i j).pending = s.pending := rfl

/-! `State.bump`. -/

@[simp] theorem State.bump_phase (s : State) (f : Fld) (i n j : Nat) : (s.bump f i n j).phase = s.phase := rfl
@[simp] theorem State.bump_regs (s : State) (f : Fld) (i n j : Nat) : (s.bump f i n j).regs = rset s.regs f (min (rget s.regs f i j + n) (2 ^ f.width - 1)) i j := rfl
@[simp] theorem State.bump_mem (s : State) (f : Fld) (i n j : Nat) : (s.bump f i n j).mem = s.mem := rfl
@[simp] theorem State.bump_stale (s : State) (f : Fld) (i n j : Nat) : (s.bump f i n j).stale = s.stale := rfl
@[simp] theorem State.bump_out (s : State) (f : Fld) (i n j : Nat) : (s.bump f i n j).out = s.out := rfl
@[simp] theorem State.bump_bus (s : State) (f : Fld) (i n j : Nat) : (s.bump f i n j).bus = s.bus := rfl
@[simp] theorem State.bump_freeCount (s : State) (f : Fld) (i n j : Nat) : (s.bump f i n j).freeCount = s.freeCount := rfl
@[simp] theorem State.bump_timeUs (s : State) (f : Fld) (i n j : Nat) : (s.bump f i n j).timeUs = s.timeUs := rfl
@[simp] theorem State.bump_mbx (s : State) (f : Fld) (i n j : Nat) : (s.bump f i n j).mbx = s.mbx := rfl
@[simp] theorem State.bump_flt (s : State) (f : Fld) (i n j : Nat) : (s.bump f i n j).flt = s.flt := rfl
@[simp] theorem State.bump_map (s : State) (f : Fld) (i n j : Nat) : (s.bump f i n j).map = s.map := rfl
@[simp] theorem State.bump_fch (s : State) (f : Fld) (i n j : Nat) : (s.bump f i n j).fch = s.fch := rfl
@[simp] theorem State.bump_cdc (s : State) (f : Fld) (i n j : Nat) : (s.bump f i n j).cdc = s.cdc := rfl
@[simp] theorem State.bump_trk (s : State) (f : Fld) (i n j : Nat) : (s.bump f i n j).trk = s.trk := rfl
@[simp] theorem State.bump_hbm (s : State) (f : Fld) (i n j : Nat) : (s.bump f i n j).hbm = s.hbm := rfl
@[simp] theorem State.bump_bur (s : State) (f : Fld) (i n j : Nat) : (s.bump f i n j).bur = s.bur := rfl
@[simp] theorem State.bump_hif (s : State) (f : Fld) (i n j : Nat) : (s.bump f i n j).hif = s.hif := rfl
@[simp] theorem State.bump_cmd (s : State) (f : Fld) (i n j : Nat) : (s.bump f i n j).cmd = s.cmd := rfl
@[simp] theorem State.bump_nvm (s : State) (f : Fld) (i n j : Nat) : (s.bump f i n j).nvm = s.nvm := rfl
@[simp] theorem State.bump_bpm (s : State) (f : Fld) (i n j : Nat) : (s.bump f i n j).bpm = s.bpm := rfl
@[simp] theorem State.bump_udm (s : State) (f : Fld) (i n j : Nat) : (s.bump f i n j).udm = s.udm := rfl
@[simp] theorem State.bump_cry (s : State) (f : Fld) (i n j : Nat) : (s.bump f i n j).cry = s.cry := rfl
@[simp] theorem State.bump_sys (s : State) (f : Fld) (i n j : Nat) : (s.bump f i n j).sys = s.sys := rfl
@[simp] theorem State.bump_media (s : State) (f : Fld) (i n j : Nat) : (s.bump f i n j).media = s.media := rfl
@[simp] theorem State.bump_cpr (s : State) (f : Fld) (i n j : Nat) : (s.bump f i n j).cpr = s.cpr := rfl
@[simp] theorem State.bump_fw (s : State) (f : Fld) (i n j : Nat) : (s.bump f i n j).fw = s.fw := rfl
@[simp] theorem State.bump_pwr (s : State) (f : Fld) (i n j : Nat) : (s.bump f i n j).pwr = s.pwr := rfl
@[simp] theorem State.bump_oob (s : State) (f : Fld) (i n j : Nat) : (s.bump f i n j).oob = s.oob := rfl
@[simp] theorem State.bump_tap (s : State) (f : Fld) (i n j : Nat) : (s.bump f i n j).tap = s.tap := rfl
@[simp] theorem State.bump_latch (s : State) (f : Fld) (i n j : Nat) : (s.bump f i n j).latch = s.latch := rfl
@[simp] theorem State.bump_pending (s : State) (f : Fld) (i n j : Nat) : (s.bump f i n j).pending = s.pending := rfl

/-! `State.emit`. -/

@[simp] theorem State.emit_phase (s : State) (o : Out) : (s.emit o).phase = s.phase := rfl
@[simp] theorem State.emit_regs (s : State) (o : Out) : (s.emit o).regs = s.regs := rfl
@[simp] theorem State.emit_mem (s : State) (o : Out) : (s.emit o).mem = s.mem := rfl
@[simp] theorem State.emit_stale (s : State) (o : Out) : (s.emit o).stale = s.stale := rfl
@[simp] theorem State.emit_out (s : State) (o : Out) : (s.emit o).out = s.out ++ [o] := rfl
@[simp] theorem State.emit_bus (s : State) (o : Out) : (s.emit o).bus = s.bus := rfl
@[simp] theorem State.emit_freeCount (s : State) (o : Out) : (s.emit o).freeCount = s.freeCount := rfl
@[simp] theorem State.emit_timeUs (s : State) (o : Out) : (s.emit o).timeUs = s.timeUs := rfl
@[simp] theorem State.emit_mbx (s : State) (o : Out) : (s.emit o).mbx = s.mbx := rfl
@[simp] theorem State.emit_flt (s : State) (o : Out) : (s.emit o).flt = s.flt := rfl
@[simp] theorem State.emit_map (s : State) (o : Out) : (s.emit o).map = s.map := rfl
@[simp] theorem State.emit_fch (s : State) (o : Out) : (s.emit o).fch = s.fch := rfl
@[simp] theorem State.emit_cdc (s : State) (o : Out) : (s.emit o).cdc = s.cdc := rfl
@[simp] theorem State.emit_trk (s : State) (o : Out) : (s.emit o).trk = s.trk := rfl
@[simp] theorem State.emit_hbm (s : State) (o : Out) : (s.emit o).hbm = s.hbm := rfl
@[simp] theorem State.emit_bur (s : State) (o : Out) : (s.emit o).bur = s.bur := rfl
@[simp] theorem State.emit_hif (s : State) (o : Out) : (s.emit o).hif = s.hif := rfl
@[simp] theorem State.emit_cmd (s : State) (o : Out) : (s.emit o).cmd = s.cmd := rfl
@[simp] theorem State.emit_nvm (s : State) (o : Out) : (s.emit o).nvm = s.nvm := rfl
@[simp] theorem State.emit_bpm (s : State) (o : Out) : (s.emit o).bpm = s.bpm := rfl
@[simp] theorem State.emit_udm (s : State) (o : Out) : (s.emit o).udm = s.udm := rfl
@[simp] theorem State.emit_cry (s : State) (o : Out) : (s.emit o).cry = s.cry := rfl
@[simp] theorem State.emit_sys (s : State) (o : Out) : (s.emit o).sys = s.sys := rfl
@[simp] theorem State.emit_media (s : State) (o : Out) : (s.emit o).media = s.media := rfl
@[simp] theorem State.emit_cpr (s : State) (o : Out) : (s.emit o).cpr = s.cpr := rfl
@[simp] theorem State.emit_fw (s : State) (o : Out) : (s.emit o).fw = s.fw := rfl
@[simp] theorem State.emit_pwr (s : State) (o : Out) : (s.emit o).pwr = s.pwr := rfl
@[simp] theorem State.emit_oob (s : State) (o : Out) : (s.emit o).oob = s.oob := rfl
@[simp] theorem State.emit_tap (s : State) (o : Out) : (s.emit o).tap = s.tap := rfl
@[simp] theorem State.emit_latch (s : State) (o : Out) : (s.emit o).latch = s.latch := rfl
@[simp] theorem State.emit_pending (s : State) (o : Out) : (s.emit o).pending = s.pending := rfl

/-! `State.fresh`. -/

@[simp] theorem State.fresh_phase (s : State) : (s.fresh.2).phase = s.phase := rfl
@[simp] theorem State.fresh_regs (s : State) : (s.fresh.2).regs = s.regs := rfl
@[simp] theorem State.fresh_mem (s : State) : (s.fresh.2).mem = s.mem := rfl
@[simp] theorem State.fresh_stale (s : State) : (s.fresh.2).stale = s.stale := rfl
@[simp] theorem State.fresh_out (s : State) : (s.fresh.2).out = s.out := rfl
@[simp] theorem State.fresh_bus (s : State) : (s.fresh.2).bus = s.bus := rfl
@[simp] theorem State.fresh_freeCount (s : State) : (s.fresh.2).freeCount = s.freeCount + 1 := rfl
@[simp] theorem State.fresh_timeUs (s : State) : (s.fresh.2).timeUs = s.timeUs := rfl
@[simp] theorem State.fresh_mbx (s : State) : (s.fresh.2).mbx = s.mbx := rfl
@[simp] theorem State.fresh_flt (s : State) : (s.fresh.2).flt = s.flt := rfl
@[simp] theorem State.fresh_map (s : State) : (s.fresh.2).map = s.map := rfl
@[simp] theorem State.fresh_fch (s : State) : (s.fresh.2).fch = s.fch := rfl
@[simp] theorem State.fresh_cdc (s : State) : (s.fresh.2).cdc = s.cdc := rfl
@[simp] theorem State.fresh_trk (s : State) : (s.fresh.2).trk = s.trk := rfl
@[simp] theorem State.fresh_hbm (s : State) : (s.fresh.2).hbm = s.hbm := rfl
@[simp] theorem State.fresh_bur (s : State) : (s.fresh.2).bur = s.bur := rfl
@[simp] theorem State.fresh_hif (s : State) : (s.fresh.2).hif = s.hif := rfl
@[simp] theorem State.fresh_cmd (s : State) : (s.fresh.2).cmd = s.cmd := rfl
@[simp] theorem State.fresh_nvm (s : State) : (s.fresh.2).nvm = s.nvm := rfl
@[simp] theorem State.fresh_bpm (s : State) : (s.fresh.2).bpm = s.bpm := rfl
@[simp] theorem State.fresh_udm (s : State) : (s.fresh.2).udm = s.udm := rfl
@[simp] theorem State.fresh_cry (s : State) : (s.fresh.2).cry = s.cry := rfl
@[simp] theorem State.fresh_sys (s : State) : (s.fresh.2).sys = s.sys := rfl
@[simp] theorem State.fresh_media (s : State) : (s.fresh.2).media = s.media := rfl
@[simp] theorem State.fresh_cpr (s : State) : (s.fresh.2).cpr = s.cpr := rfl
@[simp] theorem State.fresh_fw (s : State) : (s.fresh.2).fw = s.fw := rfl
@[simp] theorem State.fresh_pwr (s : State) : (s.fresh.2).pwr = s.pwr := rfl
@[simp] theorem State.fresh_oob (s : State) : (s.fresh.2).oob = s.oob := rfl
@[simp] theorem State.fresh_tap (s : State) : (s.fresh.2).tap = s.tap := rfl
@[simp] theorem State.fresh_latch (s : State) : (s.fresh.2).latch = s.latch := rfl
@[simp] theorem State.fresh_pending (s : State) : (s.fresh.2).pending = s.pending := rfl

/-! `State.freshBytes`. -/

@[simp] theorem State.freshBytes_phase (s : State) (n : Nat) : ((s.freshBytes n).2).phase = s.phase := rfl
@[simp] theorem State.freshBytes_regs (s : State) (n : Nat) : ((s.freshBytes n).2).regs = s.regs := rfl
@[simp] theorem State.freshBytes_mem (s : State) (n : Nat) : ((s.freshBytes n).2).mem = s.mem := rfl
@[simp] theorem State.freshBytes_stale (s : State) (n : Nat) : ((s.freshBytes n).2).stale = s.stale := rfl
@[simp] theorem State.freshBytes_out (s : State) (n : Nat) : ((s.freshBytes n).2).out = s.out := rfl
@[simp] theorem State.freshBytes_bus (s : State) (n : Nat) : ((s.freshBytes n).2).bus = s.bus := rfl
@[simp] theorem State.freshBytes_freeCount (s : State) (n : Nat) : ((s.freshBytes n).2).freeCount = s.freeCount + 1 := rfl
@[simp] theorem State.freshBytes_timeUs (s : State) (n : Nat) : ((s.freshBytes n).2).timeUs = s.timeUs := rfl
@[simp] theorem State.freshBytes_mbx (s : State) (n : Nat) : ((s.freshBytes n).2).mbx = s.mbx := rfl
@[simp] theorem State.freshBytes_flt (s : State) (n : Nat) : ((s.freshBytes n).2).flt = s.flt := rfl
@[simp] theorem State.freshBytes_map (s : State) (n : Nat) : ((s.freshBytes n).2).map = s.map := rfl
@[simp] theorem State.freshBytes_fch (s : State) (n : Nat) : ((s.freshBytes n).2).fch = s.fch := rfl
@[simp] theorem State.freshBytes_cdc (s : State) (n : Nat) : ((s.freshBytes n).2).cdc = s.cdc := rfl
@[simp] theorem State.freshBytes_trk (s : State) (n : Nat) : ((s.freshBytes n).2).trk = s.trk := rfl
@[simp] theorem State.freshBytes_hbm (s : State) (n : Nat) : ((s.freshBytes n).2).hbm = s.hbm := rfl
@[simp] theorem State.freshBytes_bur (s : State) (n : Nat) : ((s.freshBytes n).2).bur = s.bur := rfl
@[simp] theorem State.freshBytes_hif (s : State) (n : Nat) : ((s.freshBytes n).2).hif = s.hif := rfl
@[simp] theorem State.freshBytes_cmd (s : State) (n : Nat) : ((s.freshBytes n).2).cmd = s.cmd := rfl
@[simp] theorem State.freshBytes_nvm (s : State) (n : Nat) : ((s.freshBytes n).2).nvm = s.nvm := rfl
@[simp] theorem State.freshBytes_bpm (s : State) (n : Nat) : ((s.freshBytes n).2).bpm = s.bpm := rfl
@[simp] theorem State.freshBytes_udm (s : State) (n : Nat) : ((s.freshBytes n).2).udm = s.udm := rfl
@[simp] theorem State.freshBytes_cry (s : State) (n : Nat) : ((s.freshBytes n).2).cry = s.cry := rfl
@[simp] theorem State.freshBytes_sys (s : State) (n : Nat) : ((s.freshBytes n).2).sys = s.sys := rfl
@[simp] theorem State.freshBytes_media (s : State) (n : Nat) : ((s.freshBytes n).2).media = s.media := rfl
@[simp] theorem State.freshBytes_cpr (s : State) (n : Nat) : ((s.freshBytes n).2).cpr = s.cpr := rfl
@[simp] theorem State.freshBytes_fw (s : State) (n : Nat) : ((s.freshBytes n).2).fw = s.fw := rfl
@[simp] theorem State.freshBytes_pwr (s : State) (n : Nat) : ((s.freshBytes n).2).pwr = s.pwr := rfl
@[simp] theorem State.freshBytes_oob (s : State) (n : Nat) : ((s.freshBytes n).2).oob = s.oob := rfl
@[simp] theorem State.freshBytes_tap (s : State) (n : Nat) : ((s.freshBytes n).2).tap = s.tap := rfl
@[simp] theorem State.freshBytes_latch (s : State) (n : Nat) : ((s.freshBytes n).2).latch = s.latch := rfl
@[simp] theorem State.freshBytes_pending (s : State) (n : Nat) : ((s.freshBytes n).2).pending = s.pending := rfl

/-! `State.resetRegs`. -/

@[simp] theorem State.resetRegs_phase (s : State) (lo hi : Nat) : (s.resetRegs lo hi).phase = s.phase := rfl
@[simp] theorem State.resetRegs_regs (s : State) (lo hi : Nat) : (s.resetRegs lo hi).regs = s.regs.filter fun c => !cellIn lo hi c := rfl
@[simp] theorem State.resetRegs_mem (s : State) (lo hi : Nat) : (s.resetRegs lo hi).mem = s.mem := rfl
@[simp] theorem State.resetRegs_stale (s : State) (lo hi : Nat) : (s.resetRegs lo hi).stale = s.stale := rfl
@[simp] theorem State.resetRegs_out (s : State) (lo hi : Nat) : (s.resetRegs lo hi).out = s.out := rfl
@[simp] theorem State.resetRegs_bus (s : State) (lo hi : Nat) : (s.resetRegs lo hi).bus = s.bus := rfl
@[simp] theorem State.resetRegs_freeCount (s : State) (lo hi : Nat) : (s.resetRegs lo hi).freeCount = s.freeCount := rfl
@[simp] theorem State.resetRegs_timeUs (s : State) (lo hi : Nat) : (s.resetRegs lo hi).timeUs = s.timeUs := rfl
@[simp] theorem State.resetRegs_mbx (s : State) (lo hi : Nat) : (s.resetRegs lo hi).mbx = s.mbx := rfl
@[simp] theorem State.resetRegs_flt (s : State) (lo hi : Nat) : (s.resetRegs lo hi).flt = s.flt := rfl
@[simp] theorem State.resetRegs_map (s : State) (lo hi : Nat) : (s.resetRegs lo hi).map = s.map := rfl
@[simp] theorem State.resetRegs_fch (s : State) (lo hi : Nat) : (s.resetRegs lo hi).fch = s.fch := rfl
@[simp] theorem State.resetRegs_cdc (s : State) (lo hi : Nat) : (s.resetRegs lo hi).cdc = s.cdc := rfl
@[simp] theorem State.resetRegs_trk (s : State) (lo hi : Nat) : (s.resetRegs lo hi).trk = s.trk := rfl
@[simp] theorem State.resetRegs_hbm (s : State) (lo hi : Nat) : (s.resetRegs lo hi).hbm = s.hbm := rfl
@[simp] theorem State.resetRegs_bur (s : State) (lo hi : Nat) : (s.resetRegs lo hi).bur = s.bur := rfl
@[simp] theorem State.resetRegs_hif (s : State) (lo hi : Nat) : (s.resetRegs lo hi).hif = s.hif := rfl
@[simp] theorem State.resetRegs_cmd (s : State) (lo hi : Nat) : (s.resetRegs lo hi).cmd = s.cmd := rfl
@[simp] theorem State.resetRegs_nvm (s : State) (lo hi : Nat) : (s.resetRegs lo hi).nvm = s.nvm := rfl
@[simp] theorem State.resetRegs_bpm (s : State) (lo hi : Nat) : (s.resetRegs lo hi).bpm = s.bpm := rfl
@[simp] theorem State.resetRegs_udm (s : State) (lo hi : Nat) : (s.resetRegs lo hi).udm = s.udm := rfl
@[simp] theorem State.resetRegs_cry (s : State) (lo hi : Nat) : (s.resetRegs lo hi).cry = s.cry := rfl
@[simp] theorem State.resetRegs_sys (s : State) (lo hi : Nat) : (s.resetRegs lo hi).sys = s.sys := rfl
@[simp] theorem State.resetRegs_media (s : State) (lo hi : Nat) : (s.resetRegs lo hi).media = s.media := rfl
@[simp] theorem State.resetRegs_cpr (s : State) (lo hi : Nat) : (s.resetRegs lo hi).cpr = s.cpr := rfl
@[simp] theorem State.resetRegs_fw (s : State) (lo hi : Nat) : (s.resetRegs lo hi).fw = s.fw := rfl
@[simp] theorem State.resetRegs_pwr (s : State) (lo hi : Nat) : (s.resetRegs lo hi).pwr = s.pwr := rfl
@[simp] theorem State.resetRegs_oob (s : State) (lo hi : Nat) : (s.resetRegs lo hi).oob = s.oob := rfl
@[simp] theorem State.resetRegs_tap (s : State) (lo hi : Nat) : (s.resetRegs lo hi).tap = s.tap := rfl
@[simp] theorem State.resetRegs_latch (s : State) (lo hi : Nat) : (s.resetRegs lo hi).latch = s.latch := rfl
@[simp] theorem State.resetRegs_pending (s : State) (lo hi : Nat) : (s.resetRegs lo hi).pending = s.pending := rfl

/-! `State.resetRegsAt`. -/

@[simp] theorem State.resetRegsAt_phase (s : State) (lo hi i : Nat) : (s.resetRegsAt lo hi i).phase = s.phase := rfl
@[simp] theorem State.resetRegsAt_regs (s : State) (lo hi i : Nat) : (s.resetRegsAt lo hi i).regs = s.regs.filter fun c => !(cellIn lo hi c && c.i = i) := rfl
@[simp] theorem State.resetRegsAt_mem (s : State) (lo hi i : Nat) : (s.resetRegsAt lo hi i).mem = s.mem := rfl
@[simp] theorem State.resetRegsAt_stale (s : State) (lo hi i : Nat) : (s.resetRegsAt lo hi i).stale = s.stale := rfl
@[simp] theorem State.resetRegsAt_out (s : State) (lo hi i : Nat) : (s.resetRegsAt lo hi i).out = s.out := rfl
@[simp] theorem State.resetRegsAt_bus (s : State) (lo hi i : Nat) : (s.resetRegsAt lo hi i).bus = s.bus := rfl
@[simp] theorem State.resetRegsAt_freeCount (s : State) (lo hi i : Nat) : (s.resetRegsAt lo hi i).freeCount = s.freeCount := rfl
@[simp] theorem State.resetRegsAt_timeUs (s : State) (lo hi i : Nat) : (s.resetRegsAt lo hi i).timeUs = s.timeUs := rfl
@[simp] theorem State.resetRegsAt_mbx (s : State) (lo hi i : Nat) : (s.resetRegsAt lo hi i).mbx = s.mbx := rfl
@[simp] theorem State.resetRegsAt_flt (s : State) (lo hi i : Nat) : (s.resetRegsAt lo hi i).flt = s.flt := rfl
@[simp] theorem State.resetRegsAt_map (s : State) (lo hi i : Nat) : (s.resetRegsAt lo hi i).map = s.map := rfl
@[simp] theorem State.resetRegsAt_fch (s : State) (lo hi i : Nat) : (s.resetRegsAt lo hi i).fch = s.fch := rfl
@[simp] theorem State.resetRegsAt_cdc (s : State) (lo hi i : Nat) : (s.resetRegsAt lo hi i).cdc = s.cdc := rfl
@[simp] theorem State.resetRegsAt_trk (s : State) (lo hi i : Nat) : (s.resetRegsAt lo hi i).trk = s.trk := rfl
@[simp] theorem State.resetRegsAt_hbm (s : State) (lo hi i : Nat) : (s.resetRegsAt lo hi i).hbm = s.hbm := rfl
@[simp] theorem State.resetRegsAt_bur (s : State) (lo hi i : Nat) : (s.resetRegsAt lo hi i).bur = s.bur := rfl
@[simp] theorem State.resetRegsAt_hif (s : State) (lo hi i : Nat) : (s.resetRegsAt lo hi i).hif = s.hif := rfl
@[simp] theorem State.resetRegsAt_cmd (s : State) (lo hi i : Nat) : (s.resetRegsAt lo hi i).cmd = s.cmd := rfl
@[simp] theorem State.resetRegsAt_nvm (s : State) (lo hi i : Nat) : (s.resetRegsAt lo hi i).nvm = s.nvm := rfl
@[simp] theorem State.resetRegsAt_bpm (s : State) (lo hi i : Nat) : (s.resetRegsAt lo hi i).bpm = s.bpm := rfl
@[simp] theorem State.resetRegsAt_udm (s : State) (lo hi i : Nat) : (s.resetRegsAt lo hi i).udm = s.udm := rfl
@[simp] theorem State.resetRegsAt_cry (s : State) (lo hi i : Nat) : (s.resetRegsAt lo hi i).cry = s.cry := rfl
@[simp] theorem State.resetRegsAt_sys (s : State) (lo hi i : Nat) : (s.resetRegsAt lo hi i).sys = s.sys := rfl
@[simp] theorem State.resetRegsAt_media (s : State) (lo hi i : Nat) : (s.resetRegsAt lo hi i).media = s.media := rfl
@[simp] theorem State.resetRegsAt_cpr (s : State) (lo hi i : Nat) : (s.resetRegsAt lo hi i).cpr = s.cpr := rfl
@[simp] theorem State.resetRegsAt_fw (s : State) (lo hi i : Nat) : (s.resetRegsAt lo hi i).fw = s.fw := rfl
@[simp] theorem State.resetRegsAt_pwr (s : State) (lo hi i : Nat) : (s.resetRegsAt lo hi i).pwr = s.pwr := rfl
@[simp] theorem State.resetRegsAt_oob (s : State) (lo hi i : Nat) : (s.resetRegsAt lo hi i).oob = s.oob := rfl
@[simp] theorem State.resetRegsAt_tap (s : State) (lo hi i : Nat) : (s.resetRegsAt lo hi i).tap = s.tap := rfl
@[simp] theorem State.resetRegsAt_latch (s : State) (lo hi i : Nat) : (s.resetRegsAt lo hi i).latch = s.latch := rfl
@[simp] theorem State.resetRegsAt_pending (s : State) (lo hi i : Nat) : (s.resetRegsAt lo hi i).pending = s.pending := rfl

/-! `confine`: what lies in the reach from the second state, the rest from the first. -/

@[simp] theorem confine_phase (r : Reach) (s t : State) : (confine r s t).phase = if r.has .phase then t.phase else s.phase := rfl
@[simp] theorem confine_regs (r : Reach) (s t : State) : (confine r s t).regs = blendRegs r s.regs t.regs := rfl
@[simp] theorem confine_mem (r : Reach) (s t : State) : (confine r s t).mem = if r.has .mem then t.mem else s.mem := rfl
@[simp] theorem confine_stale (r : Reach) (s t : State) : (confine r s t).stale = if r.has .mem then t.stale else s.stale := rfl
@[simp] theorem confine_out (r : Reach) (s t : State) : (confine r s t).out = if r.has .out then t.out else s.out := rfl
@[simp] theorem confine_bus (r : Reach) (s t : State) : (confine r s t).bus = if r.has .bus then t.bus else s.bus := rfl
@[simp] theorem confine_freeCount (r : Reach) (s t : State) : (confine r s t).freeCount = if r.has .free then t.freeCount else s.freeCount := rfl
@[simp] theorem confine_timeUs (r : Reach) (s t : State) : (confine r s t).timeUs = s.timeUs := rfl
@[simp] theorem confine_mbx (r : Reach) (s t : State) : (confine r s t).mbx = if r.has .mbx then t.mbx else s.mbx := rfl
@[simp] theorem confine_flt (r : Reach) (s t : State) : (confine r s t).flt = if r.has .flt then t.flt else s.flt := rfl
@[simp] theorem confine_map (r : Reach) (s t : State) : (confine r s t).map = if r.has .map then t.map else s.map := rfl
@[simp] theorem confine_fch (r : Reach) (s t : State) : (confine r s t).fch = if r.has .fch then t.fch else s.fch := rfl
@[simp] theorem confine_cdc (r : Reach) (s t : State) : (confine r s t).cdc = if r.has .cdc then t.cdc else s.cdc := rfl
@[simp] theorem confine_trk (r : Reach) (s t : State) : (confine r s t).trk = if r.has .trk then t.trk else s.trk := rfl
@[simp] theorem confine_hbm (r : Reach) (s t : State) : (confine r s t).hbm = if r.has .hbm then t.hbm else s.hbm := rfl
@[simp] theorem confine_bur (r : Reach) (s t : State) : (confine r s t).bur = if r.has .bur then t.bur else s.bur := rfl
@[simp] theorem confine_hif (r : Reach) (s t : State) : (confine r s t).hif = if r.has .hif then t.hif else s.hif := rfl
@[simp] theorem confine_cmd (r : Reach) (s t : State) : (confine r s t).cmd = if r.has .cmd then t.cmd else s.cmd := rfl
@[simp] theorem confine_nvm (r : Reach) (s t : State) : (confine r s t).nvm = if r.has .nvm then t.nvm else s.nvm := rfl
@[simp] theorem confine_bpm (r : Reach) (s t : State) : (confine r s t).bpm = if r.has .bpm then t.bpm else s.bpm := rfl
@[simp] theorem confine_udm (r : Reach) (s t : State) : (confine r s t).udm = if r.has .udm then t.udm else s.udm := rfl
@[simp] theorem confine_cry (r : Reach) (s t : State) : (confine r s t).cry = if r.has .cry then t.cry else s.cry := rfl
@[simp] theorem confine_sys (r : Reach) (s t : State) : (confine r s t).sys = if r.has .sys then t.sys else s.sys := rfl
@[simp] theorem confine_media (r : Reach) (s t : State) : (confine r s t).media = if r.has .media then t.media else s.media := rfl
@[simp] theorem confine_cpr (r : Reach) (s t : State) : (confine r s t).cpr = if r.has .cpr then t.cpr else s.cpr := rfl
@[simp] theorem confine_fw (r : Reach) (s t : State) : (confine r s t).fw = if r.has .fw then t.fw else s.fw := rfl
@[simp] theorem confine_pwr (r : Reach) (s t : State) : (confine r s t).pwr = if r.has .pwr then t.pwr else s.pwr := rfl
@[simp] theorem confine_oob (r : Reach) (s t : State) : (confine r s t).oob = if r.has .oob then t.oob else s.oob := rfl
@[simp] theorem confine_tap (r : Reach) (s t : State) : (confine r s t).tap = if r.has .tap then t.tap else s.tap := rfl
@[simp] theorem confine_latch (r : Reach) (s t : State) : (confine r s t).latch = if r.has .latch then t.latch else s.latch := rfl
@[simp] theorem confine_pending (r : Reach) (s t : State) : (confine r s t).pending = s.pending := rfl

/-! Writes to memory: what they leave alone. -/

/-- The state with another memory, its parity and the state of HBM: all that a write to memory may change. -/
def OnlyMemory (s t : State) : Prop := ∃ m st h u, t = { s with mem := m, stale := st, hbm := h, udm := u }

theorem OnlyMemory.refl (s : State) : OnlyMemory s s := ⟨_, _, _, _, rfl⟩

theorem OnlyMemory.trans {s t u : State} (h : OnlyMemory s t) (h' : OnlyMemory t u) : OnlyMemory s u := by
  obtain ⟨_, _, _, _, rfl⟩ := h
  obtain ⟨_, _, _, _, rfl⟩ := h'
  exact ⟨_, _, _, _, rfl⟩

theorem OnlyMemory.foldl {α : Type} (f : State → α → State) (hf : ∀ s x, OnlyMemory s (f s x)) (l : List α) (s : State) :
    OnlyMemory s (l.foldl f s) := by
  induction l generalizing s with
  | nil => exact .refl s
  | cons x r ih => exact (hf s x).trans (ih _)

theorem writeByte_only (s : State) (a : Nat) (b : Byte) : OnlyMemory s (writeByte s a b) := by
  unfold writeByte
  split <;> exact ⟨_, _, _, _, rfl⟩

theorem putBytes_only (l : List Byte) (s : State) (a : Nat) : OnlyMemory s (putBytes s a l) := by
  induction l generalizing s a with
  | nil => exact .refl s
  | cons b r ih => exact (writeByte_only s a b).trans (ih _ _)

theorem groupParity_only (a : Nat) (l : List Byte) (s : State) (g : Nat × Nat × Nat) : OnlyMemory s (groupParity a l s g) := by
  unfold groupParity
  split
  · exact ⟨_, _, _, _, rfl⟩
  · split <;> exact ⟨_, _, _, _, rfl⟩

theorem writeBytes_only (l : List Byte) (s : State) (a : Nat) : OnlyMemory s (writeBytes s a l) := by
  unfold writeBytes
  split
  · exact putBytes_only l s a
  · exact (putBytes_only l s a).trans (.foldl _ (groupParity_only a l) _ _)

@[simp] theorem writeByte_phase (s : State) (a : Nat) (b : Byte) : (writeByte s a b).phase = s.phase := by
  obtain ⟨_, _, _, _, h⟩ := writeByte_only s a b; rw [h]
@[simp] theorem writeByte_regs (s : State) (a : Nat) (b : Byte) : (writeByte s a b).regs = s.regs := by
  obtain ⟨_, _, _, _, h⟩ := writeByte_only s a b; rw [h]
@[simp] theorem writeByte_out (s : State) (a : Nat) (b : Byte) : (writeByte s a b).out = s.out := by
  obtain ⟨_, _, _, _, h⟩ := writeByte_only s a b; rw [h]
@[simp] theorem writeByte_bus (s : State) (a : Nat) (b : Byte) : (writeByte s a b).bus = s.bus := by
  obtain ⟨_, _, _, _, h⟩ := writeByte_only s a b; rw [h]
@[simp] theorem writeByte_freeCount (s : State) (a : Nat) (b : Byte) : (writeByte s a b).freeCount = s.freeCount := by
  obtain ⟨_, _, _, _, h⟩ := writeByte_only s a b; rw [h]
@[simp] theorem writeByte_timeUs (s : State) (a : Nat) (b : Byte) : (writeByte s a b).timeUs = s.timeUs := by
  obtain ⟨_, _, _, _, h⟩ := writeByte_only s a b; rw [h]
@[simp] theorem writeByte_mbx (s : State) (a : Nat) (b : Byte) : (writeByte s a b).mbx = s.mbx := by
  obtain ⟨_, _, _, _, h⟩ := writeByte_only s a b; rw [h]
@[simp] theorem writeByte_flt (s : State) (a : Nat) (b : Byte) : (writeByte s a b).flt = s.flt := by
  obtain ⟨_, _, _, _, h⟩ := writeByte_only s a b; rw [h]
@[simp] theorem writeByte_map (s : State) (a : Nat) (b : Byte) : (writeByte s a b).map = s.map := by
  obtain ⟨_, _, _, _, h⟩ := writeByte_only s a b; rw [h]
@[simp] theorem writeByte_fch (s : State) (a : Nat) (b : Byte) : (writeByte s a b).fch = s.fch := by
  obtain ⟨_, _, _, _, h⟩ := writeByte_only s a b; rw [h]
@[simp] theorem writeByte_cdc (s : State) (a : Nat) (b : Byte) : (writeByte s a b).cdc = s.cdc := by
  obtain ⟨_, _, _, _, h⟩ := writeByte_only s a b; rw [h]
@[simp] theorem writeByte_trk (s : State) (a : Nat) (b : Byte) : (writeByte s a b).trk = s.trk := by
  obtain ⟨_, _, _, _, h⟩ := writeByte_only s a b; rw [h]
@[simp] theorem writeByte_bur (s : State) (a : Nat) (b : Byte) : (writeByte s a b).bur = s.bur := by
  obtain ⟨_, _, _, _, h⟩ := writeByte_only s a b; rw [h]
@[simp] theorem writeByte_hif (s : State) (a : Nat) (b : Byte) : (writeByte s a b).hif = s.hif := by
  obtain ⟨_, _, _, _, h⟩ := writeByte_only s a b; rw [h]
@[simp] theorem writeByte_cmd (s : State) (a : Nat) (b : Byte) : (writeByte s a b).cmd = s.cmd := by
  obtain ⟨_, _, _, _, h⟩ := writeByte_only s a b; rw [h]
@[simp] theorem writeByte_nvm (s : State) (a : Nat) (b : Byte) : (writeByte s a b).nvm = s.nvm := by
  obtain ⟨_, _, _, _, h⟩ := writeByte_only s a b; rw [h]
@[simp] theorem writeByte_bpm (s : State) (a : Nat) (b : Byte) : (writeByte s a b).bpm = s.bpm := by
  obtain ⟨_, _, _, _, h⟩ := writeByte_only s a b; rw [h]
@[simp] theorem writeByte_cry (s : State) (a : Nat) (b : Byte) : (writeByte s a b).cry = s.cry := by
  obtain ⟨_, _, _, _, h⟩ := writeByte_only s a b; rw [h]
@[simp] theorem writeByte_sys (s : State) (a : Nat) (b : Byte) : (writeByte s a b).sys = s.sys := by
  obtain ⟨_, _, _, _, h⟩ := writeByte_only s a b; rw [h]
@[simp] theorem writeByte_media (s : State) (a : Nat) (b : Byte) : (writeByte s a b).media = s.media := by
  obtain ⟨_, _, _, _, h⟩ := writeByte_only s a b; rw [h]
@[simp] theorem writeByte_cpr (s : State) (a : Nat) (b : Byte) : (writeByte s a b).cpr = s.cpr := by
  obtain ⟨_, _, _, _, h⟩ := writeByte_only s a b; rw [h]
@[simp] theorem writeByte_fw (s : State) (a : Nat) (b : Byte) : (writeByte s a b).fw = s.fw := by
  obtain ⟨_, _, _, _, h⟩ := writeByte_only s a b; rw [h]
@[simp] theorem writeByte_pwr (s : State) (a : Nat) (b : Byte) : (writeByte s a b).pwr = s.pwr := by
  obtain ⟨_, _, _, _, h⟩ := writeByte_only s a b; rw [h]
@[simp] theorem writeByte_oob (s : State) (a : Nat) (b : Byte) : (writeByte s a b).oob = s.oob := by
  obtain ⟨_, _, _, _, h⟩ := writeByte_only s a b; rw [h]
@[simp] theorem writeByte_tap (s : State) (a : Nat) (b : Byte) : (writeByte s a b).tap = s.tap := by
  obtain ⟨_, _, _, _, h⟩ := writeByte_only s a b; rw [h]
@[simp] theorem writeByte_latch (s : State) (a : Nat) (b : Byte) : (writeByte s a b).latch = s.latch := by
  obtain ⟨_, _, _, _, h⟩ := writeByte_only s a b; rw [h]
@[simp] theorem writeByte_pending (s : State) (a : Nat) (b : Byte) : (writeByte s a b).pending = s.pending := by
  obtain ⟨_, _, _, _, h⟩ := writeByte_only s a b; rw [h]
@[simp] theorem writeBytes_phase (l : List Byte) (s : State) (a : Nat) : (writeBytes s a l).phase = s.phase := by
  obtain ⟨_, _, _, _, h⟩ := writeBytes_only l s a; rw [h]
@[simp] theorem writeBytes_regs (l : List Byte) (s : State) (a : Nat) : (writeBytes s a l).regs = s.regs := by
  obtain ⟨_, _, _, _, h⟩ := writeBytes_only l s a; rw [h]
@[simp] theorem writeBytes_out (l : List Byte) (s : State) (a : Nat) : (writeBytes s a l).out = s.out := by
  obtain ⟨_, _, _, _, h⟩ := writeBytes_only l s a; rw [h]
@[simp] theorem writeBytes_bus (l : List Byte) (s : State) (a : Nat) : (writeBytes s a l).bus = s.bus := by
  obtain ⟨_, _, _, _, h⟩ := writeBytes_only l s a; rw [h]
@[simp] theorem writeBytes_freeCount (l : List Byte) (s : State) (a : Nat) : (writeBytes s a l).freeCount = s.freeCount := by
  obtain ⟨_, _, _, _, h⟩ := writeBytes_only l s a; rw [h]
@[simp] theorem writeBytes_timeUs (l : List Byte) (s : State) (a : Nat) : (writeBytes s a l).timeUs = s.timeUs := by
  obtain ⟨_, _, _, _, h⟩ := writeBytes_only l s a; rw [h]
@[simp] theorem writeBytes_mbx (l : List Byte) (s : State) (a : Nat) : (writeBytes s a l).mbx = s.mbx := by
  obtain ⟨_, _, _, _, h⟩ := writeBytes_only l s a; rw [h]
@[simp] theorem writeBytes_flt (l : List Byte) (s : State) (a : Nat) : (writeBytes s a l).flt = s.flt := by
  obtain ⟨_, _, _, _, h⟩ := writeBytes_only l s a; rw [h]
@[simp] theorem writeBytes_map (l : List Byte) (s : State) (a : Nat) : (writeBytes s a l).map = s.map := by
  obtain ⟨_, _, _, _, h⟩ := writeBytes_only l s a; rw [h]
@[simp] theorem writeBytes_fch (l : List Byte) (s : State) (a : Nat) : (writeBytes s a l).fch = s.fch := by
  obtain ⟨_, _, _, _, h⟩ := writeBytes_only l s a; rw [h]
@[simp] theorem writeBytes_cdc (l : List Byte) (s : State) (a : Nat) : (writeBytes s a l).cdc = s.cdc := by
  obtain ⟨_, _, _, _, h⟩ := writeBytes_only l s a; rw [h]
@[simp] theorem writeBytes_trk (l : List Byte) (s : State) (a : Nat) : (writeBytes s a l).trk = s.trk := by
  obtain ⟨_, _, _, _, h⟩ := writeBytes_only l s a; rw [h]
@[simp] theorem writeBytes_bur (l : List Byte) (s : State) (a : Nat) : (writeBytes s a l).bur = s.bur := by
  obtain ⟨_, _, _, _, h⟩ := writeBytes_only l s a; rw [h]
@[simp] theorem writeBytes_hif (l : List Byte) (s : State) (a : Nat) : (writeBytes s a l).hif = s.hif := by
  obtain ⟨_, _, _, _, h⟩ := writeBytes_only l s a; rw [h]
@[simp] theorem writeBytes_cmd (l : List Byte) (s : State) (a : Nat) : (writeBytes s a l).cmd = s.cmd := by
  obtain ⟨_, _, _, _, h⟩ := writeBytes_only l s a; rw [h]
@[simp] theorem writeBytes_nvm (l : List Byte) (s : State) (a : Nat) : (writeBytes s a l).nvm = s.nvm := by
  obtain ⟨_, _, _, _, h⟩ := writeBytes_only l s a; rw [h]
@[simp] theorem writeBytes_bpm (l : List Byte) (s : State) (a : Nat) : (writeBytes s a l).bpm = s.bpm := by
  obtain ⟨_, _, _, _, h⟩ := writeBytes_only l s a; rw [h]
@[simp] theorem writeBytes_cry (l : List Byte) (s : State) (a : Nat) : (writeBytes s a l).cry = s.cry := by
  obtain ⟨_, _, _, _, h⟩ := writeBytes_only l s a; rw [h]
@[simp] theorem writeBytes_sys (l : List Byte) (s : State) (a : Nat) : (writeBytes s a l).sys = s.sys := by
  obtain ⟨_, _, _, _, h⟩ := writeBytes_only l s a; rw [h]
@[simp] theorem writeBytes_media (l : List Byte) (s : State) (a : Nat) : (writeBytes s a l).media = s.media := by
  obtain ⟨_, _, _, _, h⟩ := writeBytes_only l s a; rw [h]
@[simp] theorem writeBytes_cpr (l : List Byte) (s : State) (a : Nat) : (writeBytes s a l).cpr = s.cpr := by
  obtain ⟨_, _, _, _, h⟩ := writeBytes_only l s a; rw [h]
@[simp] theorem writeBytes_fw (l : List Byte) (s : State) (a : Nat) : (writeBytes s a l).fw = s.fw := by
  obtain ⟨_, _, _, _, h⟩ := writeBytes_only l s a; rw [h]
@[simp] theorem writeBytes_pwr (l : List Byte) (s : State) (a : Nat) : (writeBytes s a l).pwr = s.pwr := by
  obtain ⟨_, _, _, _, h⟩ := writeBytes_only l s a; rw [h]
@[simp] theorem writeBytes_oob (l : List Byte) (s : State) (a : Nat) : (writeBytes s a l).oob = s.oob := by
  obtain ⟨_, _, _, _, h⟩ := writeBytes_only l s a; rw [h]
@[simp] theorem writeBytes_tap (l : List Byte) (s : State) (a : Nat) : (writeBytes s a l).tap = s.tap := by
  obtain ⟨_, _, _, _, h⟩ := writeBytes_only l s a; rw [h]
@[simp] theorem writeBytes_latch (l : List Byte) (s : State) (a : Nat) : (writeBytes s a l).latch = s.latch := by
  obtain ⟨_, _, _, _, h⟩ := writeBytes_only l s a; rw [h]
@[simp] theorem writeBytes_pending (l : List Byte) (s : State) (a : Nat) : (writeBytes s a l).pending = s.pending := by
  obtain ⟨_, _, _, _, h⟩ := writeBytes_only l s a; rw [h]

end Sys2Proof.Machine
end

