-- ==== Sys2Proof/Laws/Regs.lean ====
section
/-! SUPPORT. The register file: a read after a write (R3, R8). -/

namespace Sys2Proof.Machine

theorem rfind_rdel_same (l : List RCell) (id i j : Nat) : rfind (rdel l id i j) id i j = none := by
  induction l with
  | nil => rfl
  | cons c r ih =>
    unfold rdel
    split
    · exact ih
    · rename_i h
      rw [rfind, if_neg h, ih]

theorem rfind_rdel_other (l : List RCell) {id i j id' i' j' : Nat} (h : ¬(id = id' ∧ i = i' ∧ j = j')) :
    rfind (rdel l id i j) id' i' j' = rfind l id' i' j' := by
  induction l with
  | nil => rfl
  | cons c r ih =>
    unfold rdel
    split
    · rename_i hc
      rw [ih, rfind, if_neg]
      rintro ⟨h1, h2, h3⟩
      exact h ⟨hc.1.symm.trans h1, hc.2.1.symm.trans h2, hc.2.2.symm.trans h3⟩
    · rw [rfind, rfind, ih]

theorem rfind_rput_same (l : List RCell) (id i j v : Nat) : rfind (rput l id i j v) id i j = some v := by
  induction l with
  | nil => simp [rput, rfind]
  | cons c r ih =>
    unfold rput
    split
    · simp [rfind]
    · split
      · simp [rfind]
      · rename_i h _
        rw [rfind, if_neg h, ih]

theorem rfind_rput_other (l : List RCell) {id i j id' i' j' : Nat} (v : Nat) (h : ¬(id = id' ∧ i = i' ∧ j = j')) :
    rfind (rput l id i j v) id' i' j' = rfind l id' i' j' := by
  induction l with
  | nil => simp [rput, rfind, h]
  | cons c r ih =>
    unfold rput
    split
    · rename_i hc
      rw [rfind, rfind, if_neg h, if_neg]
      rintro ⟨h1, h2, h3⟩
      exact h ⟨hc.1.symm.trans h1, hc.2.1.symm.trans h2, hc.2.2.symm.trans h3⟩
    · split
      · rw [rfind, if_neg h]
      · rw [rfind, rfind, ih]

/-- A field just written reads as the value cut to its width. -/
@[simp] theorem rget_rset_same (l : List RCell) (f : Fld) (v i j : Nat) : rget (rset l f v i j) f i j = v % 2 ^ f.width := by
  unfold rget rset
  split
  · rename_i h
    simp [rfind_rdel_same, h]
  · simp [rfind_rput_same]

/-- A write of one field leaves every other field, and every other copy of it. -/
theorem rget_rset_other (l : List RCell) (f g : Fld) (v : Nat) {i j i' j' : Nat} (h : ¬(f.id = g.id ∧ i = i' ∧ j = j')) :
    rget (rset l f v i j) g i' j' = rget l g i' j' := by
  unfold rget rset
  split
  · rw [rfind_rdel_other _ h]
  · rw [rfind_rput_other _ _ h, rfind_rdel_other _ h]

theorem rget_rset_id (l : List RCell) (f g : Fld) (v : Nat) {i j i' j' : Nat} (h : f.id ≠ g.id) :
    rget (rset l f v i j) g i' j' = rget l g i' j' := rget_rset_other l f g v fun x => h x.1

theorem rget_rset_i (l : List RCell) (f : Fld) (v : Nat) {i j i' j' : Nat} (h : i ≠ i') :
    rget (rset l f v i j) f i' j' = rget l f i' j' := rget_rset_other l f f v fun x => h x.2.1

/-- A read through the state. -/
theorem State.get_eq (s : State) (f : Fld) (i j : Nat) : s.get f i j = rget s.regs f i j := rfl

theorem State.on_eq (s : State) (f : Fld) (i j : Nat) : s.on f i j = decide (rget s.regs f i j ≠ 0) := rfl

/-- The register file after reset: every field at its reset value. -/
@[simp] theorem rget_nil (f : Fld) (i j : Nat) : rget [] f i j = fldReset f i := rfl

end Sys2Proof.Machine
end

