-- ==== Sys2Proof/Laws/Confine.lean ====
section
/-! SUPPORT. What `confine` and the outcomes built on it can do. -/

namespace Sys2Proof.Machine

theorem rfind_filter_in (l : List RCell) (p : Nat → Bool) (id i j : Nat) (h : p id = true) :
    rfind (l.filter fun c => p c.id) id i j = rfind l id i j := by
  induction l with
  | nil => rfl
  | cons c r ih =>
    rw [List.filter_cons]
    split
    · rw [rfind, rfind, ih]
    · rename_i hc
      rw [rfind, if_neg, ih]
      rintro ⟨e, _⟩
      exact hc (e ▸ h)

theorem rfind_filter_out (l : List RCell) (p : Nat → Bool) (id i j : Nat) (h : p id = false) :
    rfind (l.filter fun c => p c.id) id i j = none := by
  induction l with
  | nil => rfl
  | cons c r ih =>
    rw [List.filter_cons]
    split
    · rename_i hc
      rw [rfind, if_neg, ih]
      rintro ⟨e, _⟩
      rw [e, h] at hc
      exact Bool.noConfusion hc
    · exact ih

theorem rfind_foldr_put (l b : List RCell) (id i j : Nat) :
    rfind (l.foldr (fun c m => rput m c.id c.i c.j c.val) b) id i j = (rfind l id i j).orElse fun _ => rfind b id i j := by
  induction l with
  | nil => rfl
  | cons c r ih =>
    rw [List.foldr_cons, rfind]
    split
    · rename_i h
      obtain ⟨h1, h2, h3⟩ := h
      rw [← h1, ← h2, ← h3, rfind_rput_same]; rfl
    · rename_i h
      rw [rfind_rput_other _ _ h, ih]

/-- A field of the reach reads as the effect left it. -/
theorem rget_blend_in (r : Reach) (a b : List RCell) (f : Fld) (i j : Nat) (h : r.reg f.id = true) :
    rget (blendRegs r a b) f i j = rget b f i j := by
  unfold rget blendRegs
  rw [rfind_foldr_put, rfind_filter_in b r.reg _ _ _ h, rfind_filter_out a (fun x => !r.reg x) _ _ _ (by simp [h])]
  cases rfind b f.id i j <;> rfl

/-- A field outside the reach reads as before. -/
theorem rget_blend_out (r : Reach) (a b : List RCell) (f : Fld) (i j : Nat) (h : r.reg f.id = false) :
    rget (blendRegs r a b) f i j = rget a f i j := by
  unfold rget blendRegs
  rw [rfind_foldr_put, rfind_filter_out b r.reg _ _ _ h, rfind_filter_in a (fun x => !r.reg x) _ _ _ (by simp [h])]
  rfl

/-- A field after a command: as the effect left it in the reach, as before elsewhere. -/
theorem rget_blend (r : Reach) (a b : List RCell) (f : Fld) (i j : Nat) :
    rget (blendRegs r a b) f i j = if r.reg f.id then rget b f i j else rget a f i j := by
  cases h : r.reg f.id
  · simpa using rget_blend_out r a b f i j h
  · simpa using rget_blend_in r a b f i j h

/-- An effect that changes only some fields does so within any reach. -/
theorem onlyFields_confine (r : Reach) (fs : List Fld) (s t : State) (h : Safety.OnlyFields fs s t) :
    Safety.OnlyFields fs s (confine r s t) := by
  intro f i j hf
  rw [State.get_eq, confine_regs, rget_blend]
  split
  · exact h f i j hf
  · rfl

/-- A command's effect stays within its reach. -/
theorem within_confine (r : Reach) (s t : State) : Safety.Within r s (confine r s t) := by
  constructor
  case regs => exact fun f i j h => rget_blend_out r _ _ f i j h
  case timeUs => rfl
  case pending => rfl
  all_goals intro h; simp [h]

theorem within_refl (r : Reach) (s : State) : Safety.Within r s s := by constructor <;> intros <;> rfl

/-- Out of reset a command has its effect. -/
theorem act_live (r : Reach) (s : State) (f : State → State) (h : s.live = true) : act r s f = .next (confine r s (f s)) := by
  rw [act, if_pos h]

/-- In reset a command has none. -/
theorem act_held (r : Reach) (s : State) (f : State → State) (h : s.live = false) : act r s f = .next s := by
  rw [act, if_neg (by simp [h])]

/-- The two outcomes of a command of the blocks. -/
theorem act_cases (r : Reach) (s : State) (f : State → State) :
    (s.live = true ∧ act r s f = .next (confine r s (f s))) ∨ (s.live = false ∧ act r s f = .next s) := by
  cases h : s.live
  · exact .inr ⟨rfl, act_held r s f h⟩
  · exact .inl ⟨rfl, act_live r s f h⟩

end Sys2Proof.Machine
end

