-- ==== Sys2Proof/Laws/Health.lean ====
section
/-! SUPPORT. What the health watch after a command can do: change flags, ALERT_N, and the OOB registers that show health. -/

namespace Sys2Proof.Machine

@[simp] theorem raiseFlags_phase (s : State) (d : Nat) : (raiseFlags s d).phase = s.phase := by
  simp only [raiseFlags]; split; · rfl
  split <;> rfl
@[simp] theorem raiseFlags_mem (s : State) (d : Nat) : (raiseFlags s d).mem = s.mem := by
  simp only [raiseFlags]; split; · rfl
  split <;> rfl
@[simp] theorem raiseFlags_bus (s : State) (d : Nat) : (raiseFlags s d).bus = s.bus := by
  simp only [raiseFlags]; split; · rfl
  split <;> rfl
@[simp] theorem raiseFlags_freeCount (s : State) (d : Nat) : (raiseFlags s d).freeCount = s.freeCount := by
  simp only [raiseFlags]; split; · rfl
  split <;> rfl
@[simp] theorem raiseFlags_timeUs (s : State) (d : Nat) : (raiseFlags s d).timeUs = s.timeUs := by
  simp only [raiseFlags]; split; · rfl
  split <;> rfl
@[simp] theorem raiseFlags_mbx (s : State) (d : Nat) : (raiseFlags s d).mbx = s.mbx := by
  simp only [raiseFlags]; split; · rfl
  split <;> rfl
@[simp] theorem raiseFlags_flt (s : State) (d : Nat) : (raiseFlags s d).flt = s.flt := by
  simp only [raiseFlags]; split; · rfl
  split <;> rfl
@[simp] theorem raiseFlags_map (s : State) (d : Nat) : (raiseFlags s d).map = s.map := by
  simp only [raiseFlags]; split; · rfl
  split <;> rfl
@[simp] theorem raiseFlags_fch (s : State) (d : Nat) : (raiseFlags s d).fch = s.fch := by
  simp only [raiseFlags]; split; · rfl
  split <;> rfl
@[simp] theorem raiseFlags_cdc (s : State) (d : Nat) : (raiseFlags s d).cdc = s.cdc := by
  simp only [raiseFlags]; split; · rfl
  split <;> rfl
@[simp] theorem raiseFlags_trk (s : State) (d : Nat) : (raiseFlags s d).trk = s.trk := by
  simp only [raiseFlags]; split; · rfl
  split <;> rfl
@[simp] theorem raiseFlags_hbm (s : State) (d : Nat) : (raiseFlags s d).hbm = s.hbm := by
  simp only [raiseFlags]; split; · rfl
  split <;> rfl
@[simp] theorem raiseFlags_bur (s : State) (d : Nat) : (raiseFlags s d).bur = s.bur := by
  simp only [raiseFlags]; split; · rfl
  split <;> rfl
@[simp] theorem raiseFlags_hif (s : State) (d : Nat) : (raiseFlags s d).hif = s.hif := by
  simp only [raiseFlags]; split; · rfl
  split <;> rfl
@[simp] theorem raiseFlags_cmd (s : State) (d : Nat) : (raiseFlags s d).cmd = s.cmd := by
  simp only [raiseFlags]; split; · rfl
  split <;> rfl
@[simp] theorem raiseFlags_nvm (s : State) (d : Nat) : (raiseFlags s d).nvm = s.nvm := by
  simp only [raiseFlags]; split; · rfl
  split <;> rfl
@[simp] theorem raiseFlags_bpm (s : State) (d : Nat) : (raiseFlags s d).bpm = s.bpm := by
  simp only [raiseFlags]; split; · rfl
  split <;> rfl
@[simp] theorem raiseFlags_udm (s : State) (d : Nat) : (raiseFlags s d).udm = s.udm := by
  simp only [raiseFlags]; split; · rfl
  split <;> rfl
@[simp] theorem raiseFlags_cry (s : State) (d : Nat) : (raiseFlags s d).cry = s.cry := by
  simp only [raiseFlags]; split; · rfl
  split <;> rfl
@[simp] theorem raiseFlags_sys (s : State) (d : Nat) : (raiseFlags s d).sys = s.sys := by
  simp only [raiseFlags]; split; · rfl
  split <;> rfl
@[simp] theorem raiseFlags_media (s : State) (d : Nat) : (raiseFlags s d).media = s.media := by
  simp only [raiseFlags]; split; · rfl
  split <;> rfl
@[simp] theorem raiseFlags_cpr (s : State) (d : Nat) : (raiseFlags s d).cpr = s.cpr := by
  simp only [raiseFlags]; split; · rfl
  split <;> rfl
@[simp] theorem raiseFlags_fw (s : State) (d : Nat) : (raiseFlags s d).fw = s.fw := by
  simp only [raiseFlags]; split; · rfl
  split <;> rfl
@[simp] theorem raiseFlags_pwr (s : State) (d : Nat) : (raiseFlags s d).pwr = s.pwr := by
  simp only [raiseFlags]; split; · rfl
  split <;> rfl
@[simp] theorem raiseFlags_tap (s : State) (d : Nat) : (raiseFlags s d).tap = s.tap := by
  simp only [raiseFlags]; split; · rfl
  split <;> rfl
@[simp] theorem raiseFlags_latch (s : State) (d : Nat) : (raiseFlags s d).latch = s.latch := by
  simp only [raiseFlags]; split; · rfl
  split <;> rfl
@[simp] theorem raiseFlags_pending (s : State) (d : Nat) : (raiseFlags s d).pending = s.pending := by
  simp only [raiseFlags]; split; · rfl
  split <;> rfl

theorem rget_raiseFlags (s : State) (d : Nat) (f : Fld) (i j : Nat) (h : f.id ≠ OOB_STATUS_ALERT.id) :
    rget (raiseFlags s d).regs f i j = rget s.regs f i j := by
  simp only [raiseFlags]
  split
  · rfl
  · split <;> simp only [State.emit_regs, State.set_regs] <;> exact rget_rset_id _ _ _ _ (Ne.symm h)

@[simp] theorem healthDiff_phase (s t : State) : (healthDiff s t).phase = t.phase := by simp [healthDiff]
@[simp] theorem healthDiff_mem (s t : State) : (healthDiff s t).mem = t.mem := by simp [healthDiff]
@[simp] theorem healthDiff_bus (s t : State) : (healthDiff s t).bus = t.bus := by simp [healthDiff]
@[simp] theorem healthDiff_freeCount (s t : State) : (healthDiff s t).freeCount = t.freeCount := by simp [healthDiff]
@[simp] theorem healthDiff_timeUs (s t : State) : (healthDiff s t).timeUs = t.timeUs := by simp [healthDiff]
@[simp] theorem healthDiff_mbx (s t : State) : (healthDiff s t).mbx = t.mbx := by simp [healthDiff]
@[simp] theorem healthDiff_flt (s t : State) : (healthDiff s t).flt = t.flt := by simp [healthDiff]
@[simp] theorem healthDiff_map (s t : State) : (healthDiff s t).map = t.map := by simp [healthDiff]
@[simp] theorem healthDiff_fch (s t : State) : (healthDiff s t).fch = t.fch := by simp [healthDiff]
@[simp] theorem healthDiff_cdc (s t : State) : (healthDiff s t).cdc = t.cdc := by simp [healthDiff]
@[simp] theorem healthDiff_trk (s t : State) : (healthDiff s t).trk = t.trk := by simp [healthDiff]
@[simp] theorem healthDiff_hbm (s t : State) : (healthDiff s t).hbm = t.hbm := by simp [healthDiff]
@[simp] theorem healthDiff_bur (s t : State) : (healthDiff s t).bur = t.bur := by simp [healthDiff]
@[simp] theorem healthDiff_hif (s t : State) : (healthDiff s t).hif = t.hif := by simp [healthDiff]
@[simp] theorem healthDiff_cmd (s t : State) : (healthDiff s t).cmd = t.cmd := by simp [healthDiff]
@[simp] theorem healthDiff_nvm (s t : State) : (healthDiff s t).nvm = t.nvm := by simp [healthDiff]
@[simp] theorem healthDiff_bpm (s t : State) : (healthDiff s t).bpm = t.bpm := by simp [healthDiff]
@[simp] theorem healthDiff_udm (s t : State) : (healthDiff s t).udm = t.udm := by simp [healthDiff]
@[simp] theorem healthDiff_cry (s t : State) : (healthDiff s t).cry = t.cry := by simp [healthDiff]
@[simp] theorem healthDiff_sys (s t : State) : (healthDiff s t).sys = t.sys := by simp [healthDiff]
@[simp] theorem healthDiff_media (s t : State) : (healthDiff s t).media = t.media := by simp [healthDiff]
@[simp] theorem healthDiff_cpr (s t : State) : (healthDiff s t).cpr = t.cpr := by simp [healthDiff]
@[simp] theorem healthDiff_fw (s t : State) : (healthDiff s t).fw = t.fw := by simp [healthDiff]
@[simp] theorem healthDiff_pwr (s t : State) : (healthDiff s t).pwr = t.pwr := by simp [healthDiff]
@[simp] theorem healthDiff_tap (s t : State) : (healthDiff s t).tap = t.tap := by simp [healthDiff]
@[simp] theorem healthDiff_latch (s t : State) : (healthDiff s t).latch = t.latch := by simp [healthDiff]
@[simp] theorem healthDiff_pending (s t : State) : (healthDiff s t).pending = t.pending := by simp [healthDiff]

/-- The health watch changes no register but the three that show health out of band. -/
theorem rget_healthDiff (s t : State) (f : Fld) (i j : Nat) (h1 : f.id ≠ OOB_STATUS_ALERT.id) (h2 : f.id ≠ OOB_HEALTH_CW.id)
    (h3 : f.id ≠ OOB_HEALTH_PDLU.id) : rget (healthDiff s t).regs f i j = rget t.regs f i j := by
  simp only [healthDiff, State.set_regs]
  rw [rget_rset_id _ _ _ _ (Ne.symm h3), rget_rset_id _ _ _ _ (Ne.symm h2), rget_raiseFlags _ _ _ _ _ h1]

end Sys2Proof.Machine
end

