-- ==== Sys2Proof/Laws/Memory.lean ====
section
/-! SUPPORT. Memory: the canonical form is kept by every operation, and a read after a write. -/

namespace Sys2Proof.Machine

/-! Tables. -/

theorem tget_tdel_same {α : Type} (t : Tbl α) (k : Nat) : tget (tdel t k) k = none := by
  induction t with
  | nil => rfl
  | cons c r ih =>
    obtain ⟨a, v⟩ := c
    unfold tdel
    split
    · exact ih
    · rename_i h
      rw [tget, if_neg h, ih]

theorem tget_tdel_other {α : Type} (t : Tbl α) {k x : Nat} (h : k ≠ x) : tget (tdel t k) x = tget t x := by
  induction t with
  | nil => rfl
  | cons c r ih =>
    obtain ⟨a, v⟩ := c
    unfold tdel
    split
    · rename_i hc
      rw [ih, tget, if_neg]
      omega
    · rw [tget, tget, ih]

@[simp] theorem tget_tput_same {α : Type} (t : Tbl α) (k : Nat) (v : α) : tget (tput t k v) k = some v := by
  induction t with
  | nil => simp [tput, tget]
  | cons c r ih =>
    obtain ⟨a, w⟩ := c
    unfold tput
    split
    · simp [tget]
    · split
      · simp [tget]
      · rw [tget, if_neg (by omega), ih]

theorem tget_tput_other {α : Type} (t : Tbl α) {k x : Nat} (v : α) (h : k ≠ x) : tget (tput t k v) x = tget t x := by
  induction t with
  | nil => simp [tput, tget, h]
  | cons c r ih =>
    obtain ⟨a, w⟩ := c
    unfold tput
    split
    · rw [tget, if_neg h]
    · split
      · subst_vars
        rw [tget, tget, if_neg h, if_neg h]
      · rw [tget, tget, ih]

/-! The canonical form. -/

/-- The canonical form at every length: the head lies below every later address, and holds no default. -/
theorem memWf_cons (a : Nat) (b : Byte) (r : List Host.Cell) :
    memWf ((a, b) :: r) = true ↔ b ≠ memDefault ∧ (∀ c ∈ r, a < c.1) ∧ memWf r = true := by
  induction r generalizing a b with
  | nil => simp [memWf]
  | cons c r ih =>
    obtain ⟨c, d⟩ := c
    have e : memWf ((a, b) :: (c, d) :: r) = (decide (a < c) && decide (b ≠ memDefault) && memWf ((c, d) :: r)) := rfl
    rw [e]
    simp only [Bool.and_eq_true, decide_eq_true_eq, List.mem_cons, forall_eq_or_imp]
    constructor
    · rintro ⟨⟨h1, h2⟩, h3⟩
      exact ⟨h2, ⟨h1, fun x hx => Nat.lt_trans h1 (((ih c d).1 h3).2.1 x hx)⟩, h3⟩
    · rintro ⟨h2, ⟨h1, _⟩, h3⟩
      exact ⟨⟨h1, h2⟩, h3⟩

theorem mem_tdel {α : Type} (t : Tbl α) (k : Nat) (c : Nat × α) (h : c ∈ tdel t k) : c ∈ t := by
  induction t with
  | nil => exact h
  | cons x r ih =>
    obtain ⟨a, v⟩ := x
    unfold tdel at h
    split at h
    · exact List.mem_cons_of_mem _ (ih h)
    · rcases List.mem_cons.1 h with h | h
      · exact h ▸ List.mem_cons_self
      · exact List.mem_cons_of_mem _ (ih h)

theorem mem_tput {α : Type} (t : Tbl α) (k : Nat) (v : α) (c : Nat × α) (h : c ∈ tput t k v) : c = (k, v) ∨ c ∈ t := by
  induction t with
  | nil => exact .inl (by simpa [tput] using h)
  | cons x r ih =>
    obtain ⟨a, w⟩ := x
    unfold tput at h
    split at h
    · exact List.mem_cons.1 h
    · split at h
      · exact (List.mem_cons.1 h).imp id (List.mem_cons_of_mem _)
      · rcases List.mem_cons.1 h with h | h
        · exact .inr (h ▸ List.mem_cons_self)
        · exact (ih h).imp id (List.mem_cons_of_mem _)

theorem memWf_tdel (m : List Host.Cell) (a : Nat) (h : memWf m = true) : memWf (tdel m a) = true := by
  induction m with
  | nil => rfl
  | cons c r ih =>
    obtain ⟨x, v⟩ := c
    have hc := (memWf_cons x v r).1 h
    unfold tdel
    split
    · exact ih hc.2.2
    · exact (memWf_cons x v _).2 ⟨hc.1, fun c hm => hc.2.1 c (mem_tdel r a c hm), ih hc.2.2⟩

theorem memWf_tput (m : List Host.Cell) (a : Nat) (b : Byte) (hb : b ≠ memDefault) (h : memWf m = true) :
    memWf (tput m a b) = true := by
  induction m with
  | nil => simpa [tput, memWf] using hb
  | cons c r ih =>
    obtain ⟨x, v⟩ := c
    have hc := (memWf_cons x v r).1 h
    unfold tput
    split
    · rename_i hlt
      refine (memWf_cons a b _).2 ⟨hb, fun c hm => ?_, h⟩
      rcases List.mem_cons.1 hm with e | hm
      · exact e ▸ hlt
      · exact Nat.lt_trans hlt (hc.2.1 c hm)
    · split
      · rename_i e
        exact (memWf_cons a b _).2 ⟨hb, e ▸ hc.2.1, hc.2.2⟩
      · refine (memWf_cons x v _).2 ⟨hc.1, fun c hm => ?_, ih hc.2.2⟩
        rcases mem_tput r a b c hm with e | hm
        · rw [e]; simp only; omega
        · exact hc.2.1 c hm

/-- A written byte keeps the canonical form. -/
theorem memWf_memPut (m : List Host.Cell) (a : Nat) (b : Byte) (h : memWf m = true) : memWf (memPut m a b) = true := by
  unfold memPut
  split
  · exact memWf_tdel m a h
  · rename_i hb
    exact memWf_tput m a b hb h

/-- Memory cleared over a range keeps the canonical form. -/
theorem memWf_filter (m : List Host.Cell) (p : Host.Cell → Bool) (h : memWf m = true) : memWf (m.filter p) = true := by
  induction m with
  | nil => rfl
  | cons c r ih =>
    obtain ⟨x, v⟩ := c
    have hc := (memWf_cons x v r).1 h
    rw [List.filter_cons]
    split
    · exact (memWf_cons x v _).2 ⟨hc.1, fun c hm => hc.2.1 c (List.mem_filter.1 hm).1, ih hc.2.2⟩
    · exact ih hc.2.2

theorem memWf_hbmPut (s : State) (a : Nat) (b : Byte) (h : memWf s.mem = true) : memWf (hbmPut s a b).mem = true := by
  simp only [hbmPut]
  repeat' split
  all_goals simp_all [memWf_memPut]

/-- A written byte keeps the canonical form, with the parity byte that follows it (R164). -/
theorem memWf_writeByte (s : State) (a : Nat) (b : Byte) (h : memWf s.mem = true) : memWf (writeByte s a b).mem = true := by
  unfold writeByte
  split
  · exact memWf_hbmPut s a b h
  · exact memWf_memPut _ _ _ h

theorem memWf_putBytes (l : List Byte) (s : State) (a : Nat) (h : memWf s.mem = true) : memWf (putBytes s a l).mem = true := by
  induction l generalizing s a with
  | nil => exact h
  | cons b r ih => exact ih _ _ (memWf_writeByte s a b h)

theorem memWf_foldPut (f : Nat → Byte) (a : Nat) (l : List Nat) (m : List Host.Cell) (h : memWf m = true) :
    memWf (l.foldl (fun m k => memPut m (a + k) (f k)) m) = true := by
  induction l generalizing m with
  | nil => exact h
  | cons k r ih => exact ih _ (memWf_memPut _ _ _ h)

/-- The parity of a group keeps the canonical form (R164). -/
theorem memWf_groupParity (a : Nat) (l : List Byte) (s : State) (g : Nat × Nat × Nat) (h : memWf s.mem = true) :
    memWf (groupParity a l s g).mem = true := by
  unfold groupParity
  split
  · exact h
  · split
    · exact h
    · exact memWf_foldPut _ _ _ _ h

theorem memWf_foldl {α : Type} (f : State → α → State) (hf : ∀ s x, memWf s.mem = true → memWf (f s x).mem = true)
    (l : List α) (s : State) (h : memWf s.mem = true) : memWf (l.foldl f s).mem = true := by
  induction l generalizing s with
  | nil => exact h
  | cons x r ih => exact ih _ (hf _ _ h)

/-- Written bytes keep the canonical form. -/
theorem memWf_writeBytes (l : List Byte) (s : State) (a : Nat) (h : memWf s.mem = true) :
    memWf (writeBytes s a l).mem = true := by
  unfold writeBytes
  split
  · exact memWf_putBytes l s a h
  · exact memWf_foldl _ (memWf_groupParity a l) _ _ (memWf_putBytes l s a h)

theorem memWf_writeLe (s : State) (a n v : Nat) (h : memWf s.mem = true) : memWf (writeLe s a n v).mem = true :=
  memWf_writeBytes _ _ _ h

theorem memWf_zeroBytes (s : State) (a n : Nat) (h : memWf s.mem = true) : memWf (zeroBytes s a n).mem = true :=
  memWf_writeBytes _ _ _ h

/-- Memory after reset has the canonical form. -/
theorem memWf_reset : memWf State.reset.mem = true := rfl

/-! A read after a write. -/

@[simp] theorem memGet_memPut_same (m : List Host.Cell) (a : Nat) (b : Byte) : memGet (memPut m a b) a = b := by
  unfold memGet memPut
  split
  · rename_i h
    rw [tget_tdel_same, h]; rfl
  · rw [tget_tput_same]; rfl

theorem memGet_memPut_other (m : List Host.Cell) {a x : Nat} (b : Byte) (h : a ≠ x) : memGet (memPut m a b) x = memGet m x := by
  unfold memGet memPut
  split
  · rw [tget_tdel_other _ h]
  · rw [tget_tput_other _ _ h]

/-- Outside HBM a write changes its own byte only. -/
theorem writeByte_memGet_other (s : State) {a x : Nat} (b : Byte) (ha : ¬ a < hbmEnd) (h : a ≠ x) :
    memGet (writeByte s a b).mem x = memGet s.mem x := by
  rw [writeByte, if_neg ha]
  exact memGet_memPut_other _ _ h

theorem writeByte_memGet_same (s : State) (a : Nat) (b : Byte) (ha : ¬ a < hbmEnd) : memGet (writeByte s a b).mem a = b := by
  rw [writeByte, if_neg ha]
  exact memGet_memPut_same _ _ _

/-- Bytes written outside HBM change no byte below or above them. -/
theorem writeBytes_memGet_outside (l : List Byte) (s : State) (a x : Nat) (ha : ¬ a < hbmEnd) (h : x < a ∨ a + l.length ≤ x) :
    memGet (writeBytes s a l).mem x = memGet s.mem x := by
  rw [writeBytes, if_pos (by omega)]
  induction l generalizing s a with
  | nil => rfl
  | cons b r ih =>
    have hl : (b :: r).length = r.length + 1 := rfl
    rw [putBytes, ih _ _ (by omega) (by omega)]
    exact writeByte_memGet_other s b ha (by omega)

end Sys2Proof.Machine
end

