-- ==== Sys2Proof/Laws/Power.lean ====
section
/-! SUPPORT. Outcomes of the commands that PWR and SYS see, and what a hold leaves of the registers. -/

namespace Sys2Proof.Machine

/-- With the rails in range an event that PWR sees has its effect. -/
theorem actPwr_on (r : Reach) (s : State) (f : State → State) (h : s.phase ≠ .off) :
    actPwr r s f = .next (confine r s (f s)) := by
  rw [actPwr, if_neg h]

/-- Without power it has none. -/
theorem actPwr_off (r : Reach) (s : State) (f : State → State) (h : s.phase = .off) : actPwr r s f = .next s := by
  rw [actPwr, if_pos h]

/-- Every window lies in the reach of a start or a hold. -/
theorem reset_reg (id : Nat) : Reach.reset.reg id = true := by
  simp only [Reach.reg, Reach.reset, windowOf]; simp <;> omega

theorem mem_rdel (l : List RCell) (id i j : Nat) (c : RCell) (h : c ∈ rdel l id i j) : c ∈ l := by
  induction l with
  | nil => exact h
  | cons x r ih =>
    unfold rdel at h
    split at h
    · exact List.mem_cons_of_mem _ (ih h)
    · rcases List.mem_cons.1 h with h | h
      · exact h ▸ List.mem_cons_self
      · exact List.mem_cons_of_mem _ (ih h)

theorem mem_rput (l : List RCell) (id i j v : Nat) (c : RCell) (h : c ∈ rput l id i j v) : c = ⟨id, i, j, v⟩ ∨ c ∈ l := by
  induction l with
  | nil => exact .inl (by simpa [rput] using h)
  | cons x r ih =>
    unfold rput at h
    split at h
    · exact (List.mem_cons.1 h).imp (fun x => x) (List.mem_cons_of_mem _)
    · split at h
      · exact List.mem_cons.1 h
      · rcases List.mem_cons.1 h with h | h
        · exact .inr (h ▸ List.mem_cons_self)
        · exact (ih h).imp (fun x => x) (List.mem_cons_of_mem _)

/-- A cell after a register write: the written one, or one that was there. -/
theorem mem_rset (l : List RCell) (f : Fld) (v i j : Nat) (c : RCell) (h : c ∈ rset l f v i j) :
    c = ⟨f.id, i, j, v % 2 ^ f.width⟩ ∨ c ∈ l := by
  unfold rset at h
  split at h
  · exact .inr (mem_rdel _ _ _ _ _ h)
  · exact (mem_rput _ _ _ _ _ _ h).imp id (mem_rdel _ _ _ _ _)

/-- A cell after a command: one of the effect's, or one that was there and lies outside the reach. -/
theorem mem_blend (r : Reach) (a b : List RCell) (c : RCell) (h : c ∈ blendRegs r a b) :
    c ∈ b ∨ (c ∈ a ∧ r.reg c.id = false) := by
  unfold blendRegs at h
  generalize hb : (b.filter fun c => r.reg c.id) = l at h
  have sub : ∀ x ∈ l, x ∈ b := fun x hx => (List.mem_filter.1 (hb ▸ hx)).1
  clear hb
  induction l with
  | nil =>
    have := List.mem_filter.1 h
    exact .inr ⟨this.1, by simpa using this.2⟩
  | cons x t ih =>
    rw [List.foldr_cons] at h
    rcases mem_rput _ _ _ _ _ _ h with e | h
    · exact .inl (by rw [e]; exact sub x List.mem_cons_self)
    · exact ih h fun y hy => sub y (List.mem_cons_of_mem _ hy)

/-- After a hold only SYS and PWR cells are left (R20, R391). -/
theorem resetBlocks_kept (s : State) (c : RCell) (h : c ∈ (resetBlocks s).regs) : keptCell c = true := by
  simp only [resetBlocks, List.mem_filter] at h
  exact h.2

end Sys2Proof.Machine
end

