-- ==== Sys2Proof/WellFormed.lean ====
section
/-! DEFINITION. Which commands are well-formed: each operand names something that the machine has, or fits the width that the
spec gives it. A command that is not well-formed is one that no sender can send; the machine answers it all the same. -/

namespace Sys2Proof

/-! How many of each thing there are. -/

abbrev mapSlots : Nat := 64
abbrev trkSlots : Nat := 16
abbrev rebuildSlots : Nat := 16
abbrev copySlots : Nat := 32
abbrev burSlots : Nat := 8
abbrev lockSlots : Nat := 16
abbrev cprSlots : Nat := 16
abbrev oobSlots : Nat := 4
abbrev keySlots : Nat := 4096
abbrev ports : Nat := 4
abbrev links : Nat := 8
abbrev functions : Nat := 256
abbrev vectors : Nat := 2048
abbrev tags : Nat := 8192
abbrev contexts : Nat := 327680
abbrev dens : Nat := 16
abbrev channels : Nat := 256
abbrev dies : Nat := 2048
abbrev stripes : Nat := 1048576
abbrev rows : Nat := 8192
abbrev queues : Nat := 65536
abbrev cores : Nat := 64
abbrev masters : Nat := 512
abbrev keyRegs : Nat := 4
abbrev gcmJobs : Nat := 16
abbrev engines : Nat := 4
abbrev tables : Nat := 8
abbrev udmChannels : Nat := 128
abbrev pools : Nat := 4
abbrev groups : Nat := 39
abbrev windows : Nat := 16
abbrev pcs : Nat := 64
abbrev thCells : Nat := 20
abbrev elements : Nat := 32
abbrev namespaces : Nat := 4096
abbrev oobPorts : Nat := 2
abbrev frames : Nat := 786432

/-! Operands with parts. -/

/-- Sizes: 1 to 8 bytes, and up to 64 for a write of several doorbells (R198). -/
def sizeOk (n : Nat) : Bool := decide (1 ≤ n) && decide (n ≤ 8)

/-- The bytes that a write target takes. -/
def targetBytes : WriteTarget → Nat
  | .bus _ _ n _ => n
  | .bar0 _ _ n => n
  | .bar2 _ _ n => n
  | .bar4 _ _ n => n
  | .config _ _ n => n

/-- A write target: a master of Table 14.1, an address of 48 bits, or a function with an offset of its BAR or of its configuration
space. -/
def targetWf : WriteTarget → Bool
  | .bus m a n _ => decide (m < masters) && decide (a < 2 ^ 48) && sizeOk n
  | .bar0 f o n => decide (f < functions) && decide (o < 2 ^ 32) && decide (1 ≤ n) && decide (n ≤ 64)
  | .bar2 f o n => decide (f < functions) && decide (o < 2 ^ 32) && sizeOk n
  | .bar4 f o n => decide (f < functions) && decide (o < 2 ^ 32) && sizeOk n
  | .config f o n => decide (f < functions) && decide (o < 4096) && decide (1 ≤ n) && decide (n ≤ 4)

/-- The fields of a submission entry fit their widths. -/
def sqeWf (e : Sqe) : Bool :=
  decide (e.opcode < 256) && decide (e.fuse < 4) && decide (e.psdt < 4) && decide (e.cid < 65536)
    && [e.nsid, e.cdw2, e.cdw3, e.cdw10, e.cdw11, e.cdw12, e.cdw13, e.cdw14, e.cdw15].all (fun v => decide (v < 2 ^ 32))
    && [e.mptr, e.dptr1, e.dptr2].all fun v => decide (v < 2 ^ 64)

/-- A completion TLP of a link and a tag. -/
def cplWf (c : CplTlp) : Bool := decide (c.link < links) && decide (c.tag < tags)

/-- A rate of 0 to 6, in the encoding of RATE_LIMIT, and a width of at most 16 lanes (R188). -/
def linkWf (p : LinkParams) : Bool := decide (p.rate ≤ 6) && decide (p.width ≤ 16) && decide (p.polarity < 65536)

/-- A range of Dataset Management or Secure Deallocate. -/
def dsmWf (r : DsmRange) : Bool := decide (r.attrs < 2 ^ 32) && decide (r.len < 2 ^ 32) && decide (r.slba < 2 ^ 64)

/-- A source range of Copy. -/
def descWf (d : CopyDesc) : Bool := decide (d.slba < 2 ^ 64) && decide (d.nlb < 65536) && decide (d.app < 65536) && decide (d.mask < 65536)

/-- The data of Namespace Management Create. -/
def nsWf (d : NsCreate) : Bool :=
  decide (d.nsze < 2 ^ 64) && decide (d.ncap < 2 ^ 64) && decide (d.flbas < 256) && decide (d.dps < 256) && decide (d.nmic < 256)
    && d.handles.all fun h => decide (h < 65536)

/-- A continuity fault: its kind, and lines of a channel (R68). -/
def faultWf (x : ContFault) : Bool :=
  decide (x.kind < 4) && decide (x.line < 32) && decide (x.partnerCh < channels) && decide (x.partnerLine < 32)

/-- What a die answers: its place on the channel and its identification bytes. -/
def idWf (x : DieId) : Bool := decide (x.d < 8) && x.id.all fun b => decide (b < 256)

/-- The outcome of a training step. -/
def outcomeWf : TrainOutcome → Bool
  | .cont f => f.all faultWf
  | .ready => true
  | .order p d => p.all (fun v => decide (v < 2 ^ 24)) && d.all fun v => decide (v < 2 ^ 24)
  | .ids l => l.all idWf
  | .result _ => true

/-- A die's response: each codeword with its raw bytes and one of the two verdicts. -/
def respWf (r : DieResponse) : Bool :=
  r.fail.all (fun p => decide (p < 4)) && r.words.all fun w => decide (w.verdict < 2) && decide (w.raw.length = 4608)

/-- The two mark bytes of a block. -/
def markWf (m : MarkRead) : Bool := decide (m.plane < 4) && decide (m.block < 16384) && decide (m.first < 256) && decide (m.last < 256)

/-- A locking range (R276). -/
def rangeWf (r : OpalRange) : Bool := decide (r.kind < 3) && decide (r.ns < namespaces)

/-- What a start finds: four strap bits, training of channels that exist. -/
def bootWf (b : BootInputs) : Bool :=
  decide (b.straps < 16) && b.chans.all (fun c => decide (c.ch < channels) && c.fault.all faultWf && c.ids.all idWf
        && c.passes.all (fun v => decide (v < 2 ^ 24)) && c.drives.all fun v => decide (v < 2 ^ 24))
    && b.pcFail.all fun p => decide (p < pcs)

/-- A vendor-defined message on a link. -/
def vdmWf (p : VdmPacket) : Bool := decide (p.link < links) && decide (p.route < 8)

/-- Whether a command is well-formed. -/
def Instr.wf : Instr → Bool
  | .registerWrite t value => targetWf t && decide (value < 2 ^ (8 * targetBytes t))
  | .clockLoss => true
  | .holdoverEnd => true
  | .refclkPLoss port => decide (port < ports)
  | .railOutOfRange => true
  | .start b => bootWf b
  | .warmStart b => bootWf b
  | .fltRestart => true
  | .autoWarmStart => true
  | .settOnlyClear => true
  | .advanceSecver _ => true
  | .revokeKey _ => true
  | .burnRemap _ => true
  | .spiCmd _ => true
  | .spiStatusPoll bank status => decide (bank < 2) && decide (status < 256)
  | .norWindowRead master addr size _ norData => 
    decide (master < masters) && decide (addr < 2 ^ 48)
      && sizeOk size && decide (norData < 2 ^ (8 * size))
  | .hifEnable => true
  | .linkUp link p => decide (link < links) && linkWf p
  | .perstNAssert port => decide (port < ports)
  | .perstNDeassert port => decide (port < ports)
  | .hotReset link => decide (link < links)
  | .linkDown link => decide (link < links)
  | .busMasterEnableClear f => decide (f < functions)
  | .busMasterEnableSet f => decide (f < functions)
  | .initiateFunctionLevelReset f => decide (f < functions)
  | .functionLevelResetDone f => decide (f < functions)
  | .vfEnableSet link => decide (link < links)
  | .vfEnableClear link => decide (link < links)
  | .d3hotEntry f => decide (f < functions)
  | .d0Return f => decide (f < functions)
  | .msixUnmask f vector => decide (f < functions) && decide (vector < vectors)
  | .completionReceived c => cplWf c
  | .completionTimeout link tag => decide (link < links) && decide (tag < tags)
  | .quarantineEnd link tag => decide (link < links) && decide (tag < tags)
  | .ccEnable f cc => decide (f < functions) && decide (cc < 2 ^ 32)
  | .controllerReset f => decide (f < functions)
  | .normalShutdown f => decide (f < functions)
  | .abruptShutdown f => decide (f < functions)
  | .shutdownComplete f => decide (f < functions)
  | .sqTailDoorbell f q v => decide (f < functions) && decide (q < queues) && decide (v < 2 ^ 32)
  | .cqHeadDoorbell f q v => decide (f < functions) && decide (q < queues) && decide (v < 2 ^ 32)
  | .submissionFetch => true
  | .submissionEntriesArrive link tag entries => decide (link < links) && decide (tag < tags) && entries.all sqeWf
  | .lockGrant ctx _ => decide (ctx < contexts)
  | .commit ctx => decide (ctx < contexts)
  | .completionPost f cq => decide (f < functions) && decide (cq < queues)
  | .interruptCoalescingTimer f cq => decide (f < functions) && decide (cq < queues)
  | .firmwareRingTake head => decide (head < 65536)
  | .fwcplGo => true
  | .acquire slot => decide (slot < lockSlots)
  | .release slot => decide (slot < lockSlots)
  | .cancel slot => decide (slot < lockSlots)
  | .cmdEnable => true
  | .pause => true
  | .drained => true
  | .resume => true
  | .read ctx => decide (ctx < contexts)
  | .write ctx => decide (ctx < contexts)
  | .writeAdmission => true
  | .partialSectorMerge ctx sector => decide (ctx < contexts) && decide (sector < 2 ^ 44)
  | .stagingRelease _ => true
  | .flush ctx => decide (ctx < contexts)
  | .compare ctx => decide (ctx < contexts)
  | .verify ctx => decide (ctx < contexts)
  | .writeZeroes ctx => decide (ctx < contexts)
  | .writeUncorrectable ctx => decide (ctx < contexts)
  | .datasetManagement ctx ranges => decide (ctx < contexts) && ranges.all dsmWf
  | .copy ctx descs => decide (ctx < contexts) && descs.all descWf
  | .ioManagementSend ctx _ => decide (ctx < contexts)
  | .ioManagementReceive ctx => decide (ctx < contexts)
  | .fence ctx => decide (ctx < contexts)
  | .fenceCommit ctx => decide (ctx < contexts)
  | .burrowAdvisePrefetch ctx => decide (ctx < contexts)
  | .burrowAdvisePin ctx => decide (ctx < contexts)
  | .burrowAdviseUnpin ctx => decide (ctx < contexts)
  | .secureDeallocate ctx ranges => decide (ctx < contexts) && ranges.all dsmWf
  | .compress ctx _ _ => decide (ctx < contexts)
  | .decompress ctx _ => decide (ctx < contexts)
  | .createIoCompletionQueue ctx => decide (ctx < contexts)
  | .createIoSubmissionQueue ctx => decide (ctx < contexts)
  | .deleteIoCompletionQueue ctx => decide (ctx < contexts)
  | .deleteIoSubmissionQueue ctx => decide (ctx < contexts)
  | .identify ctx => decide (ctx < contexts)
  | .getLogPage ctx => decide (ctx < contexts)
  | .abort ctx => decide (ctx < contexts)
  | .setFeatures ctx _ => decide (ctx < contexts)
  | .setFeaturesNumberOfQueues ctx => decide (ctx < contexts)
  | .setFeaturesPowerManagement ctx => decide (ctx < contexts)
  | .setFeaturesVolatileWriteCache ctx => decide (ctx < contexts)
  | .setFeaturesTemperatureThreshold ctx => decide (ctx < contexts)
  | .setFeaturesHctm ctx => decide (ctx < contexts)
  | .getFeatures ctx => decide (ctx < contexts)
  | .asynchronousEventRequest ctx => decide (ctx < contexts)
  | .asyncEventPost f => decide (f < functions)
  | .namespaceCreate ctx d => decide (ctx < contexts) && nsWf d
  | .namespaceDelete ctx => decide (ctx < contexts)
  | .namespaceAttach ctx _ => decide (ctx < contexts)
  | .namespaceDetach ctx _ => decide (ctx < contexts)
  | .firmwareImageDownload ctx _ => decide (ctx < contexts)
  | .firmwareCommitReplace ctx => decide (ctx < contexts)
  | .firmwareCommitReplaceActivateReset ctx => decide (ctx < contexts)
  | .firmwareCommitActivateReset ctx => decide (ctx < contexts)
  | .firmwareCommitActivateNow ctx => decide (ctx < contexts)
  | .directiveSend ctx _ => decide (ctx < contexts)
  | .directiveReceive ctx => decide (ctx < contexts)
  | .nvmeMiSend ctx _ => decide (ctx < contexts)
  | .nvmeMiReceive ctx => decide (ctx < contexts)
  | .formatNvm ctx => decide (ctx < contexts)
  | .formatNvmBlockErase ctx => decide (ctx < contexts)
  | .formatNvmCryptoErase ctx => decide (ctx < contexts)
  | .securitySend ctx _ => decide (ctx < contexts)
  | .securityReceive ctx => decide (ctx < contexts)
  | .opalLockStateChange r => rangeWf r
  | .opalGenkey _ => true
  | .opalRevert _ => true
  | .sanitizeBlockErase ctx => decide (ctx < contexts)
  | .sanitizeCryptoErase ctx => decide (ctx < contexts)
  | .sanitizeExitFailureMode ctx => decide (ctx < contexts)
  | .sanitizeDestructivePhases => true
  | .sanitizeEntropyFailure => true
  | .confirmFirmware ctx => decide (ctx < contexts)
  | .autoConfirmation => true
  | .serviceDumpCapture ctx => decide (ctx < contexts)
  | .serviceDumpRead ctx => decide (ctx < contexts)
  | .serviceDumpRelease ctx => decide (ctx < contexts)
  | .requalifyDie ctx => decide (ctx < contexts)
  | .readOnlyEntry => true
  | .spareBelowThreshold => true
  | .telemetryRefresh => true
  | .healthCounterSave => true
  | .mapEnable => true
  | .walkerLookup ns sector => decide (ns < namespaces) && decide (sector < 2 ^ 44)
  | .rowRetire stripe row => decide (stripe < stripes) && decide (row < rows)
  | .mapRerunPop => true
  | .runRead slot => decide (slot < mapSlots)
  | .runCas slot => decide (slot < mapSlots)
  | .excCas slot => decide (slot < mapSlots)
  | .excDealloc slot => decide (slot < mapSlots)
  | .excMarkLost slot => decide (slot < mapSlots)
  | .runClear slot => decide (slot < mapSlots)
  | .rerunOpen slot => decide (slot < mapSlots)
  | .rerunCommit slot => decide (slot < mapSlots)
  | .stripeHdr slot => decide (slot < mapSlots)
  | .stripeMember slot => decide (slot < mapSlots)
  | .lookup slot => decide (slot < mapSlots)
  | .jnlAppend slot => decide (slot < mapSlots)
  | .jnlSync slot => decide (slot < mapSlots)
  | .journalFlushTimer => true
  | .mapJnlSyncSync => true
  | .mapJnlSyncShutdown => true
  | .journalPageProgramDone seq _ media _ => decide (seq < 2 ^ 64) && decide (media < 2 ^ 64)
  | .mapCkptBeginWrite seq => decide (seq < 2 ^ 64)
  | .mapReplayGo => true
  | .mapReplaySweep => true
  | .mapNsWrite n value => decide (n < namespaces) && decide (value < 2 ^ 128)
  | .fchEnable => true
  | .denEnable den => decide (den < dens)
  | .trainingStepComplete ch o => decide (ch < channels) && outcomeWf o
  | .channelFence ch => decide (ch < channels)
  | .contCheck ch fault => decide (ch < channels) && fault.all faultWf
  | .retrain ch => decide (ch < channels)
  | .scheduledRetrain ch => decide (ch < channels)
  | .dqsTimeout die => decide (die < dies)
  | .dieFence die => decide (die < dies)
  | .retire die => decide (die < dies)
  | .requalify die => decide (die < dies)
  | .requalifyDone die fault id _ => decide (die < dies) && fault.all faultWf && idWf id
  | .activate die => decide (die < dies)
  | .dieStateRestore die state => decide (die < dies) && decide (state < 5)
  | .ringEnable den => decide (den < dens)
  | .ringTailWrite den tail => decide (den < dens) && decide (tail < 32768)
  | .mediaOperationIssue die => decide (die < dies)
  | .statusPoll die status => decide (die < dies) && decide (status < 256)
  | .pollTimeout die => decide (die < dies)
  | .mediaOperationComplete die r => decide (die < dies) && respWf r
  | .mediaSuspend die => decide (die < dies)
  | .mediaResume die => decide (die < dies)
  | .agingPromotion die _ => decide (die < dies)
  | .cdcEnable => true
  | .reconstruction _ => true
  | .readAroundRecheck => true
  | .raBudgetTick => true
  | .rowEncode stripe row => decide (stripe < stripes) && decide (row < rows)
  | .rebuildGo slot => decide (slot < rebuildSlots)
  | .rebuildRow slot => decide (slot < rebuildSlots)
  | .rebuildAbort slot => decide (slot < rebuildSlots)
  | .packedRowCopy slot => decide (slot < copySlots)
  | .runRowCopy slot => decide (slot < copySlots)
  | .markScan slot marks => decide (slot < copySlots) && marks.all markWf
  | .copySlotAbort slot => decide (slot < copySlots)
  | .trkEnable => true
  | .thEnable => true
  | .thermalCellEnable n => decide (n < thCells)
  | .frameStart => true
  | .swap => true
  | .cellRead slot => decide (slot < trkSlots)
  | .cellInit slot => decide (slot < trkSlots)
  | .cellClear slot => decide (slot < trkSlots)
  | .cellDisable slot => decide (slot < trkSlots)
  | .ageSet slot => decide (slot < trkSlots)
  | .ageGet slot => decide (slot < trkSlots)
  | .dieDisable slot => decide (slot < trkSlots)
  | .garbageCollection stripe => decide (stripe < stripes)
  | .fold stripe => decide (stripe < stripes)
  | .scrubPass => true
  | .keygenMigration key => decide (key < keySlots)
  | .secureDeallocationPhase2 _ => true
  | .fdpPadTimer handle => decide (handle < 128)
  | .hbmEnable => true
  | .holdupMeasurement mj => decide (mj < 65536)
  | .hbmWindowEnable w => decide (w < windows)
  | .pseudoChannelTimeout p => decide (p < pcs)
  | .burEnable => true
  | .sketchAging => true
  | .burrowFillComplete frame => decide (frame < frames)
  | .burrowReadDone frame => decide (frame < frames)
  | .prefetch slot => decide (slot < burSlots)
  | .pin slot => decide (slot < burSlots)
  | .unpin slot => decide (slot < burSlots)
  | .cool slot => decide (slot < burSlots)
  | .boost slot => decide (slot < burSlots)
  | .inval slot => decide (slot < burSlots)
  | .estimate slot => decide (slot < burSlots)
  | .bpmEnable => true
  | .bufferRequest _ _ => true
  | .bpmPoolAllocRead pool => decide (pool < pools)
  | .bpmFree addr => decide (addr < 2 ^ 48)
  | .bpmRebuild => true
  | .freeListRebuildDone pool => decide (pool < pools)
  | .minFreeRead pool => decide (pool < pools)
  | .correctedWordWriteback => true
  | .mergeEntryWriteback _ => true
  | .laneSweepDone group => decide (group < groups)
  | .udmGo c => decide (c < udmChannels)
  | .udmDescriptor c _ => decide (c < udmChannels)
  | .udmStop c => decide (c < udmChannels)
  | .udmRingBaseWrite c value => decide (c < udmChannels) && decide (value < 2 ^ 64)
  | .genKey reg => decide (reg < keyRegs)
  | .eraseKey reg => decide (reg < keyRegs)
  | .retireOld reg => decide (reg < keyRegs)
  | .exportKey reg => decide (reg < keyRegs)
  | .importKey reg => decide (reg < keyRegs)
  | .deriveKey reg => decide (reg < keyRegs)
  | .dkClear reg => decide (reg < keyRegs)
  | .changeoverInstall slot => decide (slot < keySlots)
  | .sealJob job => decide (job < gcmJobs)
  | .openJob job => decide (job < gcmJobs)
  | .entropyHealthFail test => decide (test < 2)
  | .entropyRecovery => true
  | .drbgReseed => true
  | .compressJob slot => decide (slot < cprSlots)
  | .decompressJob slot => decide (slot < cprSlots)
  | .cprJobStart engine => decide (engine < engines)
  | .cprJobEnd engine _ => decide (engine < engines)
  | .loadableTableValid t => decide (t < tables)
  | .messageWrite master c word => decide (master < masters) && decide (c < channels) && decide (word < 2 ^ 64)
  | .messageAck master c rcode => decide (master < masters) && decide (c < channels) && decide (rcode < 65536)
  | .mailboxTimeout c => decide (c < channels)
  | .watchdogWarn core => decide (core < cores)
  | .watchdogExpiry core => decide (core < cores)
  | .kick core => decide (core < cores)
  | .coreFault core cause addr => decide (core < cores) && decide (cause < 6) && decide (addr < 2 ^ 48)
  | .coreImageLoaded core => decide (core < cores)
  | .coreRestart core => decide (core < cores)
  | .coreRetire core => decide (core < cores)
  | .coreHoldClear core => decide (core < cores)
  | .powerSample mw => decide (mw < 2 ^ 20)
  | .sensorFrame _ => true
  | .analogThermalTrip => true
  | .pfailAssert => true
  | .flushMark => true
  | .flushDone => true
  | .flushLimit => true
  | .smbusPacket _ => true
  | .vdmMessage p => vdmWf p
  | .nvmeMiMessage port => decide (port < oobPorts)
  | .setEndpointId port => decide (port < oobPorts)
  | .getEndpointId port => decide (port < oobPorts)
  | .getMctpVersionSupport port => decide (port < oobPorts)
  | .getMessageTypeSupport port => decide (port < oobPorts)
  | .readNvmeMiDataStructure slot => decide (slot < oobSlots)
  | .nvmSubsystemHealthStatusPoll slot => decide (slot < oobSlots)
  | .controllerHealthStatusPoll slot => decide (slot < oobSlots)
  | .configurationGet slot => decide (slot < oobSlots)
  | .configurationSet slot => decide (slot < oobSlots)
  | .vpdRead slot => decide (slot < oobSlots)
  | .vpdWrite slot => decide (slot < oobSlots)
  | .nvmeMiReset slot => decide (slot < oobSlots)
  | .tunnelledAdminCommand slot => decide (slot < oobSlots)
  | .basicManagementRead n => decide (n < 256)
  | .alertResponseAddressRead _ => true
  | .smbusClockLowTimeout => true
  | .smbSwapDetect => true
  | .smbSwapResume => true
  | .fwReadyWrite _ => true
  | .fltEvent elem code data => decide (elem < 65536) && decide (code < 65536) && decide (data < 2 ^ 64)
  | .fltClear elem => decide (elem < 65536)
  | .fltAppend cause elem => decide (cause < 65536) && decide (elem < 65536)
  | .pwrElemTempMaxRead k => decide (k < elements)
  | .tckRisingEdge _ _ _ => true
  | .trstNAssert => true
  | .malformedTlp link err header => decide (link < links) && decide (err < 13) && decide (header < 2 ^ 128)

end Sys2Proof
end

