-- ==== Sys2Proof/Tests/Slice0.lean ====
section
/-! SUPPORT. Tests: ill-formed commands that the check refuses, witnesses of the statements' hypotheses, and worked examples of the
spec. -/

open Sys2Proof Sys2Proof.Machine Sys2Proof.Safety

namespace Sys2Proof.Tests

set_option Elab.async false

/-! ## Small states -/

/-- A running machine whose registers stand at their reset values. -/
def up : State := { State.reset with phase := .running }

/-- A running machine with register fields set: field, value, index. -/
def w (l : List (Fld × Nat × Nat)) : State := l.foldl (fun s x => s.set x.1 x.2.1 x.2.2) up

/-- A function of a host that is present, with Bus Master Enable. -/
def hostUp (l : List (Fld × Nat × Nat)) : State :=
  w ([(HIF_CTRL_ENABLE, 1, 0), (HIF_PORTp_CFG_ENABLE, 1, 0), (HIF_PORTp_CFG_ENABLE, 1, 3), (HIF_PORTp_CFG_BIFURCATE, 1, 3),
    (HIF_FNf_STATE_PRESENT, 1, 0), (HIF_FNf_STATE_PRESENT, 1, 224), (HIF_FNf_STATE_BME, 1, 0), (HIF_FNf_STATE_BME, 1, 224)] ++ l)

/-- An image that declares nothing: every default stands. -/
def decl0 : ImageDecl := ⟨false, 0, [], 0, 0, 0, 0, 0, 0, 0, 0, 0, 0, []⟩

/-- What a start finds in a test: nothing but its straps and whether OTP holds. -/
def boot (straps : Nat) (otpOk : Bool) : BootInputs :=
  ⟨straps, [], otpOk, 28, true, [], [], decl0, [], false, [], false, [], 0, false⟩

/-- A command of queue `sq` of function 224 with an opcode, from context 9. -/
def ctxIn (sq op : Nat) (stage : Stage) : Ctx :=
  { ctx0 224 sq 1 with sqe := { sqe0 with opcode := op, nsid := 1 }, stage := stage, left := 0 }

/-- A state that holds commands in contexts. -/
def holds (s : State) (l : List (Nat × Ctx)) : State := { s with cmd := { s.cmd with ctxs := l } }

/-- Namespace index 0 of 4 KiB blocks, without protection information, attached to function 224. -/
def ns1 : NsInfo := ⟨1000, 3, false, 0, 0, [224], [0], 1⟩

/-- A host's function with a namespace. -/
def hostNs (l : List (Fld × Nat × Nat)) : State :=
  { hostUp ([(MAP_NSn_LBA_4K, 1, 0)] ++ l) with nvm := { up.nvm with ns := [(0, ns1)] } }

/-- A submission queue and a completion queue. -/
def sqA : Sq := ⟨0x10000, 64, 1, 0, 5, 7, 1, none, none, false, false⟩
def cqA : Cq := ⟨0x20000, 64, 0, true, 63, 5, true, []⟩

/-- Queues 1 of function 224 in a state. -/
def queues (s : State) (x : Sq) (y : Cq) : State :=
  { s with cmd := { s.cmd with sqs := [(qkey 224 1, x)], cqs := [(qkey 224 1, y)] } }

theorem isTaken {s : State} {c : Nat} {x : Ctx} {io : Bool} {op : Nat} (h : ctxOf s c = some x ∧ c < 2 ^ 19 ∧ x.stage = .taken ∧
    decide (x.sq ≠ 0) = io ∧ x.sqe.opcode = op ∧ x.dmaNeed = 0 ∧ x.err = 0 ∧ x.tunnel = none ∧ bme s x.f = true) : Taken s c x io op :=
  ⟨h.1, h.2.1, h.2.2.1, h.2.2.2.1, h.2.2.2.2.1, h.2.2.2.2.2.1, h.2.2.2.2.2.2.1, h.2.2.2.2.2.2.2.1, h.2.2.2.2.2.2.2.2⟩

theorem isReady {s : State} {c : Nat} {x : Ctx} {op : Nat} (h : ctxOf s c = some x ∧ x.stage = .running ∧ x.started = false ∧
    x.sq ≠ 0 ∧ x.sqe.opcode = op ∧ [0x00, 0x01, 0x02, 0x05, 0x0C, 0x80].contains op = true ∧ bme s x.f = true) : Ready s c x op :=
  ⟨h.1, h.2.1, h.2.2.1, h.2.2.2.1, h.2.2.2.2.1, h.2.2.2.2.2.1, h.2.2.2.2.2.2⟩

/-- A read request of link 7, of one command. -/
def aReq : Req := ⟨7, 3, 224, .data 0 0, 4096, 8, [1], 0⟩

/-! ## Well-formedness: each check refuses a term that breaks it, and nothing else -/

/-- A submission entry, a die's identification and a start's inputs for the tests of the checks. -/
def sqeT : Sqe := ⟨255, 3, 3, 65535, 0, 0, 0, 0, 0, 0, 0, 0, 0, 0, 0, 2 ^ 32 - 1⟩
def dieT : DieId := ⟨7, true, [255], [], 4, 16384, 2048⟩
def bootT : BootInputs := ⟨15, [], true, 28, true, [], [], decl0, [], false, [63], false, [], 0, false⟩

theorem test_wf_accepts : [Instr.registerWrite (.bus 511 (2 ^ 48 - 1) 8 true) (2 ^ 64 - 1), .registerWrite (.config 255 4095 4) (2 ^ 32 - 1),
    .registerWrite (.bar0 255 (2 ^ 32 - 1) 1) 255, .start bootT, .linkUp 7 ⟨6, 16, true, true, 65535⟩, .perstNAssert 3,
    .msixUnmask 255 2047, .completionReceived ⟨7, 8191, false, false, []⟩, .submissionEntriesArrive 7 8191 [sqeT], .read 327679,
    .copy 0 [⟨2 ^ 64 - 1, 65535, 0, 65535, 65535⟩], .datasetManagement 0 [⟨0, 2 ^ 32 - 1, 2 ^ 64 - 1⟩], .namespaceCreate 0 ⟨0, 0, 255, 255, 255, [65535]⟩,
    .trainingStepComplete 255 (.ids [dieT]), .contCheck 255 (some ⟨3, 31, 255, 31⟩), .mediaOperationComplete 2047 ⟨[3], [⟨1, List.replicate 4608 0, [], 0, 0⟩], []⟩,
    .markScan 31 [⟨3, 16383, 255, 255⟩], .registerWrite (.bar0 255 0x1000 64) (2 ^ 512 - 1), .trainingStepComplete 0 (.order [2 ^ 24 - 1] [0]), .opalLockStateChange ⟨0, 2, 4095, 0, 0, true, true, true⟩, .vdmMessage ⟨7, 7, true, []⟩, .runRead 63,
    .mapNsWrite 4095 (2 ^ 128 - 1), .udmGo 127, .genKey 3, .openJob 15, .messageAck 511 255 65535, .fltEvent 65535 65535 (2 ^ 64 - 1)].all Instr.wf = true := by
  decide +kernel

/-- Operands with parts, one broken part each. -/
theorem test_wf_refuses_parts : [Instr.registerWrite (.bus 512 0 8 true) 0, .registerWrite (.bus 0 (2 ^ 48) 8 true) 0, .registerWrite (.bus 0 0 0 true) 0,
    .registerWrite (.bus 0 0 9 true) 0, .registerWrite (.bus 0 0 4 true) (2 ^ 32), .registerWrite (.bar0 256 0 4) 0, .registerWrite (.bar0 0 0 65) 0, .registerWrite (.bar2 0 (2 ^ 32) 4) 0,
    .registerWrite (.bar4 0 0 9) 0, .registerWrite (.config 0 4096 4) 0, .registerWrite (.config 0 0 8) 0, .registerWrite (.config 256 0 4) 0,
    .start { bootT with straps := 16 }, .warmStart { bootT with pcFail := [64] }, .start { bootT with chans := [⟨0, none, [2 ^ 24], [], [], true⟩] }, .linkUp 0 ⟨7, 16, true, true, 0⟩,
    .linkUp 0 ⟨1, 17, true, true, 0⟩, .linkUp 0 ⟨1, 1, true, true, 65536⟩,
    .completionReceived ⟨8, 0, false, false, []⟩, .completionReceived ⟨0, 8192, false, false, []⟩,
    .submissionEntriesArrive 0 0 [{ sqeT with opcode := 256 }], .submissionEntriesArrive 0 0 [{ sqeT with fuse := 4 }],
    .submissionEntriesArrive 0 0 [{ sqeT with psdt := 4 }], .submissionEntriesArrive 0 0 [{ sqeT with cid := 65536 }],
    .submissionEntriesArrive 0 0 [{ sqeT with nsid := 2 ^ 32 }], .submissionEntriesArrive 0 0 [{ sqeT with dptr1 := 2 ^ 64 }],
    .datasetManagement 0 [⟨2 ^ 32, 0, 0⟩], .datasetManagement 0 [⟨0, 2 ^ 32, 0⟩], .secureDeallocate 0 [⟨0, 0, 2 ^ 64⟩], .copy 0 [⟨2 ^ 64, 0, 0, 0, 0⟩],
    .copy 0 [⟨0, 65536, 0, 0, 0⟩], .copy 0 [⟨0, 0, 0, 65536, 0⟩], .copy 0 [⟨0, 0, 0, 0, 65536⟩], .namespaceCreate 0 ⟨2 ^ 64, 0, 0, 0, 0, []⟩,
    .namespaceCreate 0 ⟨0, 2 ^ 64, 0, 0, 0, []⟩, .namespaceCreate 0 ⟨0, 0, 256, 0, 0, []⟩, .namespaceCreate 0 ⟨0, 0, 0, 256, 0, []⟩,
    .namespaceCreate 0 ⟨0, 0, 0, 0, 256, []⟩, .namespaceCreate 0 ⟨0, 0, 0, 0, 0, [65536]⟩, .contCheck 0 (some ⟨4, 0, 0, 0⟩),
    .contCheck 0 (some ⟨0, 32, 0, 0⟩), .contCheck 0 (some ⟨0, 0, 256, 0⟩), .contCheck 0 (some ⟨0, 0, 0, 32⟩), .requalifyDone 0 none { dieT with d := 8 } true,
    .requalifyDone 0 none { dieT with id := [256] } true, .trainingStepComplete 0 (.cont (some ⟨4, 0, 0, 0⟩)), .trainingStepComplete 0 (.order [2 ^ 24] []), .trainingStepComplete 0 (.order [] [2 ^ 24]),
    .mediaOperationComplete 0 ⟨[4], [], []⟩, .mediaOperationComplete 0 ⟨[], [⟨2, List.replicate 4608 0, [], 0, 0⟩], []⟩,
    .mediaOperationComplete 0 ⟨[], [⟨0, [], [], 0, 0⟩], []⟩, .markScan 0 [⟨4, 0, 0, 0⟩], .markScan 0 [⟨0, 16384, 0, 0⟩], .markScan 0 [⟨0, 0, 256, 0⟩], .markScan 0 [⟨0, 0, 0, 256⟩], .opalLockStateChange ⟨0, 3, 0, 0, 0, true, true, true⟩,
    .opalLockStateChange ⟨0, 2, 4096, 0, 0, true, true, true⟩, .vdmMessage ⟨8, 0, true, []⟩, .vdmMessage ⟨0, 8, true, []⟩].all (fun i => !i.wf) = true := by
  decide +kernel

/-- Numbers beyond what the machine has. -/
theorem test_wf_refuses_numbers : [Instr.refclkPLoss 4, .spiStatusPoll 2 0, .spiStatusPoll 0 256, .norWindowRead 512 0 1 true 0, .norWindowRead 0 (2 ^ 48) 1 true 0,
    .norWindowRead 0 0 9 true 0, .norWindowRead 0 0 1 true 256, .hotReset 8, .busMasterEnableSet 256, .msixUnmask 0 2048, .completionTimeout 0 8192, .ccEnable 0 (2 ^ 32),
    .sqTailDoorbell 256 0 0, .sqTailDoorbell 0 65536 0, .cqHeadDoorbell 0 0 (2 ^ 32), .commit 327680, .completionPost 0 65536, .firmwareRingTake 65536, .acquire 16,
    .partialSectorMerge 0 (2 ^ 44), .walkerLookup 4096 0, .rowRetire 1048576 0, .rowEncode 0 8192, .lookup 64, .journalPageProgramDone (2 ^ 64) true 0 true,
    .mapNsWrite 0 (2 ^ 128), .denEnable 16, .channelFence 256, .dieFence 2048, .dieStateRestore 0 5, .ringTailWrite 0 32768, .statusPoll 0 256, .rebuildGo 16,
    .copySlotAbort 32, .thermalCellEnable 20, .cellRead 16, .keygenMigration 4096, .fdpPadTimer 128, .holdupMeasurement 65536, .hbmWindowEnable 16, .pseudoChannelTimeout 64,
    .burrowFillComplete 786432, .prefetch 8, .bpmPoolAllocRead 4, .bpmFree (2 ^ 48), .laneSweepDone 39, .udmGo 128, .udmRingBaseWrite 0 (2 ^ 64), .genKey 4,
    .changeoverInstall 4096, .sealJob 16, .entropyHealthFail 2, .compressJob 16, .cprJobStart 4, .loadableTableValid 8, .messageWrite 512 0 0, .messageWrite 0 256 0,
    .messageWrite 0 0 (2 ^ 64), .messageAck 0 0 65536, .kick 64, .coreFault 0 6 0, .coreFault 0 0 (2 ^ 48), .powerSample (2 ^ 20), .nvmeMiMessage 2, .vpdRead 4,
    .basicManagementRead 256, .fltEvent 65536 0 0, .fltEvent 0 65536 0, .fltEvent 0 0 (2 ^ 64), .fltAppend 65536 0, .pwrElemTempMaxRead 32,
    .malformedTlp 0 13 0, .malformedTlp 0 0 (2 ^ 128)].all (fun i => !i.wf) = true := by
  decide +kernel

/-! ## Worked examples of the spec -/

/-- A running machine with a field of two indices set beside others. -/
def w2 (l : List (Fld × Nat × Nat × Nat)) : State := l.foldl (fun s x => s.set x.1 x.2.1 x.2.2.1 x.2.2.2) up

/-- Table 1.3: one media address. -/
theorem test_media_address : mkMedia 1189 2 3000 1200 3 = 0x0252C5DC12C3 := by decide

/-- The worked example of R25: the run of LBA 512,000,299, its entry, the member's position. -/
theorem test_run_entry :
    (let s := writeLe (w [(MAP_NSn_BASE_RUN, 4000000, 3), (MAP_NSn_LBA_4K, 1, 3), (MAP_RUN_BASE_BASE, 0x40000, 0)]) 0x000042625A00 8 0x00012C0445C1
     nsBase s 3 + lbaSector s 3 512000299 / 512 = 5000000 ∧ lbaSector s 3 512000299 % 512 = 299 ∧
      bits (runEntry s 5000000) 0 2 = 1 ∧ bits (runEntry s 5000000) 2 20 = 70000 ∧ bits (runEntry s 5000000) 22 13 = 1200) ∧
    posOf 1200 18 = 6 ∧ dataOf 1200 20 = none ∧ dataOf 1200 21 = none ∧ dataOf 1200 22 = some 0 ∧ dataOf 1200 19 = some 31 := by
  decide +kernel

/-- The worked example of R28: a home bucket. -/
theorem test_home_bucket : homeOf ⟨0, 26, 0, false⟩ 5000000 = 62670109 := by decide

/-- The worked example of R70: identity and full reversal are orders, a repeated bit is none. -/
theorem test_bit_order : orderOk 0xFAC688 = true ∧ orderOk 342391 = true ∧ orderOk 0 = false := by decide

/-- The worked example of R169: the units of four energies, and the cap. -/
theorem test_holdup_units : (energyUnits 1500, energyUnits 2400, energyUnits 4000, energyUnits 948) = (8, 16, 30, 3) ∧
    ceilCap (w [(HBM_STG_SIZE_SECTORS, 1048576, 0)]) = 21 := by decide +kernel

/-- The worked example of R344: HIF_PORT1_CFG takes 0x77. -/
theorem test_port_config :
    (match exec (.registerWrite (.bus 0x1C0 0x00F001000110 4 false) 0x77) up with
      | .next t => (t.get HIF_PORTp_CFG_ENABLE 1, t.get HIF_PORTp_CFG_BIFURCATE 1, t.get HIF_PORTp_CFG_SRIS 1, t.get HIF_PORTp_CFG_RATE_LIMIT 1,
          t.get HIF_PORTp_CFG_FLIT_EN 1)
      | _ => (0, 0, 0, 0, 0)) = (1, 1, 1, 6, 1) := by decide +kernel

/-- The worked example of R333: MBX_BIND5. -/
theorem test_mailbox_bind :
    (match exec (.registerWrite (.bus 0x1C0 0x00F00C004028 8 false) 0x00000271C0342440) up with
      | .next t => (t.get MBX_BINDc_SENDER 5, t.get MBX_BINDc_RECEIVER 5, t.get MBX_BINDc_DB_BIT 5, t.get MBX_BINDc_ACK_BIT 5,
          t.get MBX_BINDc_ACK_DB_EN 5, t.get MBX_BINDc_VALID 5, t.get MBX_BINDc_TMO 5)
      | _ => (0, 0, 0, 0, 0, 0, 0)) = (0x040, 0x109, 3, 0, 1, 1, 625) := by decide +kernel

/-- Table 14.4: core 13 takes an ITCM parity trap; source 20 moves to core 14. -/
theorem test_core_failover :
    (match exec (.coreFault 13 2 0) (w [(MBX_COREn_CTL_STATE, 2, 13), (MBX_COREn_CTL_STATE, 2, 14), (MBX_ROUTEi_CORE, 13, 20)]) with
      | .next t => (t.get MBX_ROUTEi_CORE 20, t.get MBX_COREn_LOCAL_FROM 14, t.get MBX_COREn_FAULT_CAUSE 13, coreState t 13)
      | _ => (0, 0, 0, 0)) = (14, 13, 2, 1) := by decide +kernel

/-- The worked example of R287: the code of symbol 73 in table 0. -/
theorem test_code_of_run : (lenOf (builtinTable 0) 73, codeOf (builtinTable 0) 73) = (4, 12) ∧
    (lenOf (builtinTable 0) 77, codeOf (builtinTable 0) 77) = (2, 1) ∧ (lenOf (builtinTable 0) 75, codeOf (builtinTable 0) 75) = (3, 4) := by decide +kernel

/-- The worked example of Table 5.1: the cell of the read, and its first evaluation. -/
def trkS : State :=
  let s := w2 [(TRK_CTRL_ENABLE, 1, 0, 0), (FCH_DIEd_MODEL, 2, 148, 5), (FCH_DIEd_STATE, 1, 148, 5), (FCH_MODELm_GEOM_CELL, 1, 2, 0), (TRK_MODELm_CFG_STRINGS, 4, 2, 0),
    (TRK_MODELm_CFG_LAYERS, 176, 2, 0), (TRK_MODELm_PAGEt_LEVELS, 8, 2, 0), (TRK_COEFb_s_W0_BAND_OUT, 200, 0, 3), (TRK_COEFb_s_W0_BAND_IN, 80, 0, 3),
    (TRK_COEFb_s_W0_STEP_LO, 1, 0, 3), (TRK_COEFb_s_W0_STEP_HI, 2, 0, 3), (TRK_COEFb_s_W0_C_HIGH, 120, 0, 3), (TRK_COEFb_s_W0_MIN_SAMPLES, 16, 0, 3),
    (TRK_FF_F, 254 * 2 ^ 24, 1124, 0)]
  let x := { cell0 with valid := true, mode := 1, set := 3, lv := [0, 0, 0, -6] ++ List.replicate 11 0, stepCnt := 40, acc := [⟨24, 6480, 2640⟩, acc0, acc0, acc0] }
  { writeByte s (ageAddr s 1189 3000) 2 with trk := { s.trk with cells := [(38068, x)] } }

theorem test_tracking_cell :
    (let r := (capture trkS 1189 (mkMedia 1189 2 3000 1200 3) false).1
     (r.cell, r.tag, r.pageType, r.offs.getD 3 0) = (some 38068, 40, 0, -8)) ∧
    (let t := evalCell trkS 38068; (intAt (cellOf t 38068).lv 3, (cellOf t 38068).stepCnt) = (-7, 41)) := by decide +kernel

/-- Table 19.5: the timeout at 61 s opens a new window, and the sixteenth of a window is lasting. -/
theorem test_fault_window :
    (let s := { w [(FLT_ELEMe_WIN_CNT, 15, 1189)] with timeUs := 61000000 }
     ((fltCount s 1189 0 0 false).1.get FLT_ELEMe_WIN_CNT 1189, (fltCount s 1189 0 0 false).2)) = (1, false) ∧
    (let s := { w [(FLT_ELEMe_WIN_CNT, 15, 1189), (FLT_ELEMe_T0, 61000, 1189)] with timeUs := 100000000 }
     ((fltCount s 1189 0 0 false).1.get FLT_ELEMe_WIN_CNT 1189, (fltCount s 1189 0 0 false).2)) = (16, true) := by decide +kernel

/-- The worked examples of R435 and R436: balls and what they carry. -/
theorem test_balls : ballCells 31 129 = [.channelControl 148, .flash 148 0 0] ∧ ballCells 32 132 = [.flash 148 1 1] ∧
    ballCells 33 137 = [.flash 148 2 4] ∧ ballCells 3 105 = [.lane 1 false 5 false] := by decide +kernel

/-- The worked example of R255: the ninth segment of a PIN finds the pin limit reached. -/
theorem test_pin_limit :
    pinLimit (w [(BUR_AVAIL_COUNT, 786432, 0)]) = 196608 := by decide +kernel

/-! ## Witnesses: for each statement with hypotheses, states and operands that meet those of each of its clauses -/

theorem witness_StepRunsFrontCommand : ∃ s : State, s.pending = [Instr.clockLoss] := ⟨{ up with pending := [.clockLoss] }, rfl⟩

theorem witness_IdleStep : ∃ s : State, s.pending = [] := ⟨up, rfl⟩

theorem witness_CommandsStayInReach : ∃ t, exec (.kick 63) up = .next t := ⟨_, rfl⟩

theorem witness_HeldBlocksDoNothing : State.reset.live = false ∧ runsHeld (.runRead 63) = false := by decide

theorem witness_HeldResetKept : ∃ s t : State, HeldReset s ∧ step s = .next t :=
  ⟨up, { up with timeUs := 1 }, fun h => absurd h (by decide), rfl⟩

theorem witness_OtpCommands :
    (let s := w [(SYS_OTP_ARG_V, 257, 0)]; s.live = true ∧ 256 < s.get SYS_OTP_ARG_V) ∧
    (let s := w [(SYS_OTP_ARG_V, 256, 0)]; s.live = true ∧ s.sys.otp.secver < s.get SYS_OTP_ARG_V ∧ s.get SYS_OTP_ARG_V ≤ 256) ∧
    (let s := w [(SYS_OTP_ARG_V, 0, 0)]; s.live = true ∧ s.get SYS_OTP_ARG_V = s.sys.image.bootKey) ∧
    (let s := w [(SYS_OTP_ARG_V, 3, 0)]; s.get SYS_OTP_ARG_V < 4 ∧ s.get SYS_OTP_ARG_V ≠ s.sys.image.bootKey ∧
      garnikKeys s ≠ [s.get SYS_OTP_ARG_V]) ∧
    (let s := w [(SYS_OTP_ARG_V, 38, 0)]; bits (s.get SYS_OTP_ARG_V) 0 6 < 39 ∧
      tget s.sys.otp.remaps (bits (s.get SYS_OTP_ARG_V) 0 6 * 8 + bits (s.get SYS_OTP_ARG_V) 6 3) = none) ∧
    (let s := w [(SYS_OTP_ARG_V, 38, 0)]
     let t := { s with sys := { s.sys with otp := { s.sys.otp with remaps := [(304, 5)] } } }
     t.live = true ∧ (tget t.sys.otp.remaps (bits (t.get SYS_OTP_ARG_V) 0 6 * 8 + bits (t.get SYS_OTP_ARG_V) 6 3)).isSome = true) := by
  decide

theorem witness_NorFlash :
    (let s := w [(SYS_SPI_CMD_PROG, 1, 0), (SYS_SPI_CMD_ADDR_EN, 1, 0), (SYS_SPI_CFG_DENSITY, 28, 0)]
     s.live = true ∧ s.on SYS_SPI_CMD_PROG = true ∧ s.on SYS_SPI_CMD_ADDR_EN = true ∧
      norBank s (s.get SYS_SPI_ADDR_V) = s.get SYS_SPI_STAT_BOOT_BANK) ∧
    (let s := w [(SYS_SPI_CMD_PROG, 1, 0)]; s.live = true ∧ s.on SYS_SPI_CMD_PROG = true ∧ s.on SYS_SPI_CMD_ADDR_EN = false) ∧
    (let s := w [(SYS_SPI_CMD_DIR, 1, 0)]; s.live = true ∧ s.on SYS_SPI_CMD_PROG = false ∧ s.on SYS_SPI_CMD_DIR = true) ∧
    (let s := w [(SYS_SPI_STAT_BUSY1, 1, 0), (SYS_SPI_CFG_RWW, 1, 0)]
     s.live = true ∧ bankIsBusy s 1 = true ∧ s.on SYS_SPI_CFG_RWW = true) ∧
    (let s := w [(SYS_SPI_STAT_BUSY1, 1, 0), (SYS_SPI_CFG_RWW, 0, 0)]; bankIsBusy s 1 = true ∧ s.on SYS_SPI_CFG_RWW = false) ∧
    (inNorWin norWinBase = true ∧ mayReach 0x100 norWinBase = true ∧ norWinBase % 8 = 0 ∧
      bankIsBusy up (norBank up (norAddr up norWinBase)) = false) ∧
    (up.live = true ∧ up.on FCH_GCTRL_ENABLE = false) := by
  decide

theorem witness_PowerFailFlush :
    (up.phase = .running ∧ up.on PWR_STATE_FLUSH_ACTIVE = false) ∧
    (let s := { w [(PWR_STATE_FLUSH_ACTIVE, 1, 0), (PWR_STATE_CAUSE, 2, 0), (PWR_CFG_FLUSH_LIMIT, 30, 0)] with timeUs := 30000 }
     s.phase = .running ∧ s.on PWR_STATE_FLUSH_ACTIVE = true ∧ s.get PWR_STATE_CAUSE = 2 ∧
      s.pwr.flushUs + 1000 * s.get PWR_CFG_FLUSH_LIMIT ≤ s.timeUs ∧ s.pwr.flushUs + 30000 ≤ s.timeUs) ∧
    (let s := { up with phase := .held }; s.phase ≠ .off ∧ s.phase ≠ .running) := by
  decide

theorem witness_PowerAndThermal :
    (up.phase ≠ .off ∧ up.get PWR_STATE_P ≤ 7 ∧ up.on PWR_CTRL_ENABLE = false) ∧
    (let s := { up with pwr := { up.pwr with tripped := true } }; s.pwr.tripped = true) ∧
    (let s := { up with phase := .held }; s.phase = .held ∧ s.on PWR_STATE_FLUSH_ACTIVE = false) ∧
    (let s := w [(HBM_HOLDUP_ENERGY_MJ, 2, 0)]; s.live = true ∧ 1 < s.get HBM_HOLDUP_ENERGY_MJ) ∧
    (let s := w [(PWR_STATE_FLUSH_ACTIVE, 1, 0), (MAP_CTRL_ENABLE, 1, 0)]
     s.live = true ∧ s.on PWR_STATE_FLUSH_ACTIVE = true ∧ s.on MAP_CTRL_ENABLE = true ∧ (openPage s).recs.length + 1 < pageRecs) := by
  decide

theorem witness_StartsAndHolds :
    (State.reset.phase = .off ∧ (boot 0 false).otpOk = false ∧ (boot 8 true).otpOk = true ∧ bits (boot 8 true).straps 3 1 = 1) ∧
    (let s := { up with phase := .held }; s.phase = .held ∧ s.pwr.tripped = false) ∧
    (let s := { w [(FLT_FATAL_ACTIVE, 1, 0), (FLT_FATAL_AUTO_S, 1, 0)] with timeUs := 1000000, flt := { up.flt with fatalUs := some 0 } }
     s.phase = .running ∧ s.on PWR_STATE_FLUSH_ACTIVE = false ∧ s.on FLT_FATAL_ACTIVE = true ∧ s.get FLT_FATAL_AUTO_S ≠ 0 ∧
      s.flt.fatalUs = some 0 ∧ 0 + 1000000 * s.get FLT_FATAL_AUTO_S ≤ s.timeUs) := by
  decide

theorem witness_LinksAndPins :
    (let s := w [(HIF_PORTp_CFG_ENABLE, 1, 3), (HIF_PORTp_CFG_BIFURCATE, 1, 3), (HIF_LINKl_CFG_TOTAL_VFS, 32, 7)]
     s.live = true ∧ s.on HIF_CTRL_ENABLE = false ∧ linkEnabled s 7 = true ∧ vfLimit s 7 < s.get HIF_LINKl_CFG_TOTAL_VFS 7) ∧
    (up.on HIF_CTRL_ENABLE = false ∧ vectorSum up ≤ 131072 ∧
      ∀ l, l < 8 → linkEnabled up l = true → up.get HIF_LINKl_CFG_TOTAL_VFS l ≤ vfLimit up l) ∧
    (let s := hostUp []
     s.live = true ∧ linkEnabled s 7 = true ∧ s.on HIF_CTRL_ENABLE = true ∧ s.on HIF_LINKl_STATUS_UP 7 = false ∧
      s.hif.perst.contains 3 = false ∧ widthOk s 7 8 = true ∧
      min 2 (s.get HIF_PORTp_CFG_RATE_LIMIT 3) < 3) ∧
    (let s := hostUp [(HIF_LINKl_STATUS_UP, 1, 6)]
     linkEnabled s 6 = true ∧ s.on HIF_LINKl_STATUS_UP 6 = true ∧ s.on HIF_LINKl_STATUS_UP 7 = false ∧
      s.on HIF_PORTp_CFG_SRIS 3 = false) ∧
    (let s := hostUp [(HIF_LINKl_STATUS_UP, 1, 6), (HIF_PORTp_CFG_SRIS, 1, 3)]
     s.on HIF_LINKl_STATUS_UP 6 = true ∧ s.on HIF_LINKl_STATUS_UP 7 = false ∧ s.on HIF_PORTp_CFG_SRIS 3 = true) := by
  decide

theorem witness_FunctionResets :
    (let s := hostUp []; s.live = true ∧ fnPresent s 224 = true ∧ s.on HIF_FNf_STATE_FLR_BUSY 224 = false ∧ isPf s 224 = true ∧
      bme s 224 = true ∧ s.hif.reqWait = [] ∧ s.hif.held = [] ∧ s.cmd.cqs = []) ∧
    (let s := hostUp [(HIF_FNf_STATE_BME, 0, 224)]; fnPresent s 224 = true ∧ bme s 224 = false ∧ fnPresent s 3 = false) ∧
    (let s := hostUp [(HIF_FNf_STATE_FLR_BUSY, 1, 255)]; s.on HIF_FNf_STATE_FLR_BUSY 255 = true) ∧
    (let s := hostUp []; linkEnabled s 7 = true ∧ fnPresent s (pfOf 7) = true ∧ s.on CFG_SRIOV_CTL_VFE (pfOf 7) = false) ∧
    (let s := hostUp [(CFG_SRIOV_CTL_VFE, 1, 224)]; s.on CFG_SRIOV_CTL_VFE (pfOf 7) = true) := by
  decide

theorem witness_VectorsCompletionsErrors :
    (let s := hostUp [(VEC_PBA_P, 1, 224), (HIF_LINKl_CFG_MSIX_PF, 1, 7)]
     s.live = true ∧ fnPresent s 224 = true ∧ 0 < vecCount s 224 ∧ s.on VEC_PBA_P 224 0 = true ∧ s.on CFG_MSIX_FMASK 224 = false ∧
      bme s 224 = true) ∧
    (let s := hostUp [(HIF_LINKl_CFG_MSIX_PF, 1, 7)]; 0 < vecCount s 224 ∧ s.on VEC_PBA_P 224 0 = false) ∧
    (let s := hostUp [(HIF_LINKl_STATUS_UP, 1, 7)]; s.on HIF_LINKl_STATUS_UP 7 = true ∧ s.get CFG_AER_UNC_STS (pfOf 7) = 0) ∧
    (let s := { hostUp [] with hif := { up.hif with reqs := [aReq] }, timeUs := 1000000000 }
     reqOf s 7 3 = some aReq ∧ bme s aReq.f = true ∧ aReq.got.length + [2].length < aReq.len ∧
      s.on CFG_DEVCTL2_CTOD aReq.f = false ∧ allHere s aReq = false ∧ aReq.sentUs + ctoUs s aReq.f ≤ s.timeUs) ∧
    (reqOf up 7 3 = none ∧ (up.hif.quar.any fun q => q.link = 7 && q.tag = 3 && q.silent) = false ∧ up.hif.reqWait = []) := by
  decide

theorem witness_ControllerLife :
    (let s := hostUp [(HIF_FNf_STATE_MSE, 1, 224)]
     s.live = true ∧ memOk s 224 0x14 = true ∧ s.on NVME_CC_EN 224 = false ∧ s.phase = .running ∧ s.on MAP_CTRL_REPLAY = false ∧
      s.on FLT_FATAL_ACTIVE = false ∧ bits (2 ^ 7 * 4) 7 4 ≤ 4 ∧ s.get NVME_ASQ_BASE 224 % 2 ^ (12 + 4) = 0 ∧
      s.get NVME_ACQ_BASE 224 % 2 ^ (12 + 4) = 0 ∧ bits 16 4 3 ≠ 0) ∧
    (let s := hostUp [(HIF_FNf_STATE_MSE, 1, 224), (NVME_CC_EN, 1, 224)]
     memOk s 224 0x14 = true ∧ s.on NVME_CC_EN 224 = true ∧ s.get NVME_CSTS_SHST 224 = 0) ∧
    (let s := { up with fw := { up.fw with table := { up.fw.table with order := [2] } } }
     pendingSlot s = some 2 ∧ s.fw.activating = none) ∧
    (let s := w [(NVME_CSTS_SHST, 1, 255)]
     s.get NVME_CSTS_SHST 255 = 1 ∧ stagedDone s 255 = true ∧ s.on PWR_STATE_FLUSH_ACTIVE = false ∧ s.map.page = none ∧
      s.map.closed = [] ∧ s.on MAP_CTRL_ENABLE = false) := by
  decide

theorem witness_QueuesAndEntries :
    (let s := queues (hostUp [(HIF_FNf_STATE_MSE, 1, 224)]) sqA cqA
     memOk s 224 0x1008 = true ∧ sqOf s 224 1 = some sqA ∧ 63 < sqA.size ∧ sqA.size ≤ 64 ∧ memOk s 224 0x100C = true ∧
      cqOf s 224 1 = some cqA ∧ (6 + cqA.size - cqA.head) % cqA.size ≤ cqUsed cqA ∧ sqOf s 224 2 = none ∧ cqOf s 224 2 = none ∧
      memOk up 224 0x1008 = false) ∧
    (up.on CMD_CTRL_ENABLE = false ∧
      let s := queues (hostUp [(CMD_CTRL_ENABLE, 1, 0), (NVME_CSTS_RDY, 1, 224), (CMD_FNf_CFG1_CTX_MAX, 64, 224)]) sqA cqA
      s.cmd.paused = false ∧ s.cmd.flushStop = false ∧ (pickFn s).1 = some 224 ∧
        pickQueue (pickFn s).2 224 = some ((1, sqA), ⟨1, 8, 0, 0, 0⟩) ∧ (takeContexts (pickFn s).2 224 1 1 1).1 ≠ []) ∧
    (let x : Ctx := { ctxIn 1 0 .fetching with left := 1 }
     let s := { holds (queues (hostNs []) sqA cqA) [(9, x)] with hif := { up.hif with reqs := [{ aReq with kind := .sqe 1 5 [9] }] } }
     reqOf s 7 3 = some { aReq with kind := .sqe 1 5 [9] } ∧ bme s 224 = true ∧ s.hif.reqWait = [] ∧ x.f = aReq.f ∧ x.tunnel = none ∧
      x.recA = none ∧ x.recB = none ∧ sqOf s 224 1 = some sqA ∧ sqA.fence = none ∧ sqA.deleting = none ∧ s.fw.san = none ∧
      s.fw.failed = none ∧ s.on HBM_CEIL_VWC = false) := by
  decide

theorem witness_CommitOfRead :
    let x : Ctx := { ctxIn 1 2 .running with started := true, got := [(0, List.replicate 16 7)], dma := [(0x1000, 16)], dmaNeed := 0 }
    let s := holds (queues (hostNs [(BPM_POOLn_CFG_SIZE, 8, 0), (BPM_POOLn_CFG_COUNT, 4, 0)]) sqA cqA) [(9, x)]
    let t := { s with bpm := { s.bpm with grants := [(9, sramBase)], bad := [sramBase / 8 + 1] } }
    t.live = true ∧ ctxOf t 9 = some x ∧ bme t x.f = true ∧ x.left = 0 ∧ x.err = 0 ∧ x.tunnel = none ∧ cqOf t x.f x.cq = some cqA ∧
      dmaReady x = true ∧ mdBytes (nsFmt t (cmdNs x)) = 0 ∧ ((readBlocks t x).flatMap Prod.fst).length = 16 ∧
      portBad t 9 0 16 = [sramBase / 8 + 1] ∧ portBad s 9 0 16 = [] := by
  decide

/-- R208: the uncorrectable word lies in the second of three 128 B TLPs; that one has EP set, and the Read ends with Data Transfer
Error. -/
theorem test_poisoned_tlp :
    (let x : Ctx := { ctxIn 1 2 .running with started := true, dma := [(0x1000, 300)], dmaNeed := 0 }
     let s := holds (queues (hostNs [(BPM_POOLn_CFG_SIZE, 8, 0), (BPM_POOLn_CFG_COUNT, 4, 0)]) sqA cqA) [(9, x)]
     let t := sendRead { s with bpm := { s.bpm with grants := [(9, sramBase)], bad := [sramBase / 8 + 20] } } 9 x (List.replicate 300 7) []
     (t.out.filterMap fun o => match o with | .memWrite _ a d _ ep => some (a, d.length, ep) | _ => none) =
       [(0x1000, 128, false), (0x1080, 128, true), (0x1100, 44, false)] ∧ (ctxOf t 9).map (·.err) = some stDataTransfer) := by
  decide +kernel

theorem witness_CommitsAndRing :
    (let x : Ctx := { ctxIn 1 0 .running with started := true }
     let s := holds (queues (hostNs []) sqA cqA) [(9, x)]
     s.live = true ∧ ctxOf s 9 = some x ∧ bme s x.f = true ∧ x.left = 0 ∧ x.err = 0 ∧ x.waitDur = false ∧ x.tunnel = none ∧
      cqOf s x.f x.cq = some cqA ∧ mdBytes (nsFmt s (cmdNs x)) = 0) ∧
    (let q : Cq := { cqA with head := 9, wait := [⟨9, 1, 0, 0, 0, 0, 0⟩] }
     let s := holds (queues (hostNs []) sqA q) [(9, ctxIn 1 0 .committed)]
     cqOf s 224 1 = some q ∧ bme s 224 = true ∧ cqUsed q + 1 < q.size ∧ ctxOf s 9 = some (ctxIn 1 0 .committed) ∧
      sqOf s 224 1 = some sqA ∧ sqA.deleting = none) ∧
    (let s := queues (hostUp [(CFG_MSIX_EN, 1, 224), (HIF_LINKl_CFG_MSIX_PF, 1, 7), (VEC_CTRL_MASK, 0, 224)]) sqA cqA
     let t := { s with cmd := { s.cmd with coal := [(qkey 224 0, ⟨1, 0⟩)] } }
     cqOf t 224 1 = some cqA ∧ tget t.cmd.coal (qkey 224 cqA.iv) = some ⟨1, 0⟩ ∧ t.on CFG_MSIX_EN 224 = true ∧
      0 + bits (feat t 224 8 0) 8 8 * 100 ≤ t.timeUs ∧ cqA.iv < vecCount t 224 ∧ t.on VEC_PBA_P 224 cqA.iv = false ∧
      vecGated t 224 cqA.iv = false) ∧
    (let s := w [(CMD_FWQ_CFG_ENABLE, 1, 0), (CMD_FWQ_CFG_SIZE_LOG2, 4, 0), (CMD_FWQ_TAIL_INDEX, 15, 0)]
     let t := holds s [(9, ctxIn 0 6 (.ringed 14))]
     15 < ringEntries t ∧ (15 + ringEntries t - t.get CMD_FWQ_HEAD_INDEX) % ringEntries t
        ≤ (t.get CMD_FWQ_TAIL_INDEX + ringEntries t - t.get CMD_FWQ_HEAD_INDEX) % ringEntries t ∧
      ctxOf t 9 = some (ctxIn 0 6 (.ringed 14)) ∧ (14 + ringEntries t - t.get CMD_FWQ_HEAD_INDEX) % ringEntries t
        < (15 + ringEntries t - t.get CMD_FWQ_HEAD_INDEX) % ringEntries t) ∧
    (let s := holds (w [(CMD_FWCPL_CTL_CTX, 9, 0)]) [(9, ctxIn 0 6 .taken)]
     ctxOf s (s.get CMD_FWCPL_CTL_CTX) = some (ctxIn 0 6 .taken) ∧ ctxOf up (up.get CMD_FWCPL_CTL_CTX) = none) := by
  decide

/-- A record of sectors 8 and 9 of namespace index 0. -/
def aRec (granted : Bool) : LockRec := ⟨0, 8, 2, true, false, 1, granted⟩

theorem witness_LocksAndPause :
    (let x : Ctx := { ctxIn 1 1 .waiting with recA := some (aRec false) }
     let s := holds up [(9, x)]
     ctxOf s 9 = some x ∧ x.recB = none ∧ grantable s 9 (aRec false) = true ∧ s.cmd.acquires = [] ∧ byCmd x = true) ∧
    (let s := holds (w [(CMD_CTRL_ENABLE, 1, 0), (CMD_LKn_ARG0_CTX, 9, 15), (CMD_LKn_ARG0_COUNT, 512, 15)]) [(9, ctxIn 1 9 .taken)]
     s.on CMD_CTRL_ENABLE = true ∧ s.on CMD_LKn_CTL_GO 15 = false ∧ ctxOf s (s.get CMD_LKn_ARG0_CTX 15) = some (ctxIn 1 9 .taken) ∧
      (ctxIn 1 9 .taken).recA = none ∧ s.get CMD_LKn_ARG0_COUNT 15 ≤ 512 ∧ s.on CMD_LKn_ARG0_REC 15 = false ∧
      s.on CMD_LKn_ARG2_VALID_B 15 = false ∧ s.cmd.acquires = [] ∧ ctxOf (w [(CMD_CTRL_ENABLE, 1, 0)]) 0 = none) ∧
    (let s := { holds up [(9, ctxIn 1 9 .taken)] with cmd := { up.cmd with acquires := [(15, (9, false, false))] } }
     tget s.cmd.acquires 15 = some (9, false, false)) ∧
    (up.on CMD_CTRL_ENABLE = false ∧ cmdCfgOk up = true ∧ cmdCfgOk (w [(CMD_FNf_CFG0_CTX_MIN, 64, 0), (CMD_FNf_CFG1_CTX_MAX, 1, 0)]) = false) ∧
    (let s := w [(CMD_ACT_CTL_PAUSE, 1, 0)]; s.on CMD_ACT_CTL_PAUSE = true ∧ drainedNow s = true ∧ s.fw.activating = none) ∧
    (let s := { w [(CMD_ACT_CTL_DRAINED, 1, 0)] with fw := { up.fw with activating := some ⟨some 9, 2, 0, 0⟩ } }
     s.fw.activating = some ⟨some 9, 2, 0, 0⟩ ∧ s.on CMD_ACT_CTL_DRAINED = true) := by
  decide +kernel

theorem witness_SectorReads :
    ∀ op ∈ [2, 5, 12], let x := ctxIn 1 op .running
      let s := holds (hostNs []) [(9, x)]
      Ready s 9 x op ∧ cmdSectors s x = 1 ∧ s.on BUR_CTRL_ENABLE = false ∧ s.bur.fills = [] ∧ x.tunnel = none ∧
        translate s (secRun s (cmdNs x) (secBase s x)) (secQ (secBase s x)) false = .zeros ∧
        translate s (secRun s (cmdNs x) (secBase s x)) (secQ (secBase s x)) true = .zeros := by
  intro op h
  simp only [List.mem_cons, List.not_mem_nil, or_false] at h
  rcases h with rfl | rfl | rfl <;> exact ⟨isReady (by decide), by decide⟩

/-- The command of context 9 reads the first sector of a run that is staged, closed on a stripe of media, or lost. -/
def readS (s : State) : State := holds s [(9, ctxIn 1 2 .running)]
def secMap : State := hostNs [(MAP_STG_BASE_BASE, 1, 0), (MAP_STG_CFG_STG_LOG2, 4, 0), (HBM_STG_BASE_BASE, 0x100, 0), (HBM_STG_META_BASE, 0x200, 0),
  (MAP_STRIPE_BASE_BASE, 2, 0), (MAP_STRIPE_COUNT_COUNT, 1, 0), (FCH_DIEd_STATE, 1, 0), (MAP_CTRL_REPLAY, 1, 0), (CDC_RA_CFG_ENABLE, 0, 0)]
def stagedS : State :=
  readS (match insertSpan secMap (0, 0, 0, 1) with | .ok t => t | .error _ => secMap)

set_option maxRecDepth 1000000 in
theorem witness_SectorReads2 :
    (Ready stagedS 9 (ctxIn 1 2 .running) 2 ∧ translate stagedS 0 0 false = .staging 0 ∧
      (readBytes stagedS (stgAddr stagedS 0) 4096).isSome = true ∧ (readBytes stagedS (stgMeta stagedS 0) 64).isSome = true) ∧
    (let s := readS (runSet secMap 0 3)
     Ready s 9 (ctxIn 1 2 .running) 2 ∧ translate s 0 0 false = .unrecovered ∧ secRun s (cmdNs (ctxIn 1 2 .running)) (secBase s (ctxIn 1 2 .running)) = 0 ∧
      secQ (secBase s (ctxIn 1 2 .running)) = 0) ∧
    (let s := readS (runSet secMap 0 1)
     Ready s 9 (ctxIn 1 2 .running) 2 ∧ translate s 0 0 false = .media 0 0 (some (0, 0)) ∧ dieState s (mediaDie 0) = 1 ∧
      s.on CDC_RA_CFG_ENABLE = false ∧ s.fch.flushing = false) := by
  refine ⟨⟨isReady ?_, ?_⟩, ⟨isReady ?_, ?_⟩, isReady ?_, ?_⟩ <;> decide +kernel

theorem witness_Writes :
    (let x := ctxIn 1 1 .running
     let s := holds (hostNs []) [(9, x)]
     Ready s 9 x 1 ∧ (writeHandle s x).isSome = true ∧ s.hbm.held = [] ∧ mayAdmit s (cmdNs x) (cmdSectors s x) = false) ∧
    (let x := ctxIn 1 1 .running
     let s := { holds (hostNs [(HBM_CTRL_ENABLE, 1, 0), (HBM_CEIL_UNITS, 1, 0)]) [(9, x)] with
       hbm := { up.hbm with stgFree := ⟨[], 1, 100⟩, held := [⟨9, 1⟩] } }
     mayAdmit s (cmdNs x) (cmdSectors s x) = true ∧ nsLba4k s (cmdNs x) = true ∧ ctxOf s 9 = some x ∧
      s.hbm.held.find? (fun h => !keyWait s h.ctx) = some ⟨9, 1⟩ ∧ isIo x 1 = true) ∧
    (let x := ctxIn 1 1 .running
     let s := { holds (hostNs [(HBM_CTRL_ENABLE, 1, 0), (HBM_CEIL_UNITS, 1, 0)]) [(9, x)] with
       hbm := { up.hbm with stgFree := ⟨[], 1, 100⟩ } }
     mayAdmit s (cmdNs x) (cmdSectors s x) = true ∧ heldBefore s x.seq = false) ∧
    (let x : Ctx := { ctxIn 1 1 .running with merges := [(1, some [7])], raw := (List.range 9).map fun k => (k, List.replicate 512 5), sqe := { sqe0 with opcode := 1, nsid := 1, cdw12 := 8 } }
     let s := holds (hostUp []) [(9, x)]
     ctxOf s 9 = some x ∧ isIo x 1 = true ∧ x.staged = false ∧ x.err = 0 ∧ tget x.merges 1 = some (some [7]) ∧ dataHere s x = true ∧
      (tput x.got 1 (writeSector s x (hostBlocks s x) 1 [7])).length ≠ cmdSectors s x) ∧
    (let x : Ctx := { ctxIn 1 1 .running with err := 0x281 }
     x.err ≠ 0 ∧ x.left = 0 ∧ bme (hostUp []) x.f = true ∧ x.tunnel = none) := by
  refine ⟨⟨isReady ?_, ?_⟩, ?_, ?_, ?_, ?_⟩ <;> decide +kernel

theorem witness_FlushFenceAbort :
    (let s := holds (hostNs []) [(9, ctxIn 1 0 .running)]; Ready s 9 (ctxIn 1 0 .running) 0 ∧ s.map.page = none) ∧
    (let s := holds (queues (hostNs []) sqA cqA) [(9, ctxIn 1 0x80 .running)]
     Ready s 9 (ctxIn 1 0x80 .running) 0x80 ∧ sqOf s 224 1 = some sqA) ∧
    (let x : Ctx := { ctxIn 1 0x80 .running with started := true }
     let q : Sq := { sqA with fence := some 9 }
     let s := holds (queues (hostNs []) q cqA) [(9, x)]
     ctxOf s 9 = some x ∧ isIo x 0x80 = true ∧ bme s x.f = true ∧ x.fences = [] ∧ x.waitDur = false ∧ s.map.page = none ∧
      x.tunnel = none ∧ sqOf s 224 1 = some q ∧ q.fence = some 9) ∧
    (let x : Ctx := { ctxIn 0 8 .running with sqe := { sqe0 with opcode := 8, cdw10 := 1 + 5 * 65536 } }
     let y : Ctx := { ctxIn 1 2 .running with sqe := { sqe0 with opcode := 2, cid := 5 } }
     let s := holds (hostNs []) [(9, y), (400000, x)]
     ctxOf s 400000 = some x ∧ isAdmin x 8 = true ∧ bme s x.f = true ∧ abortTarget s 400000 x = some (9, y) ∧
      s.nvm.aers.contains 9 = false ∧ isCommitted y = false ∧ y.tunnel = none ∧ abortTarget (holds up [(400000, x)]) 400000 x = none) := by
  refine ⟨⟨isReady ?_, ?_⟩, ⟨isReady ?_, ?_⟩, ?_, ?_⟩ <;> decide +kernel

/-- The command of context 9 taken by firmware, with records granted. -/
def takenRec (op cdw10 cdw11 cdw12 : Nat) : Ctx :=
  { ctxIn 1 op .taken with recA := some (aRec true), sqe := { sqe0 with opcode := op, nsid := 1, cdw10 := cdw10, cdw11 := cdw11, cdw12 := cdw12 } }

/-- The operands of a Copy of one sector. -/
def aPiece : CopyDesc := ⟨8, 0, 0, 0, 0⟩

/-- A namespace with staging space and its map in place. -/
def staged : State :=
  { hostNs [(HBM_CTRL_ENABLE, 1, 0), (HBM_CEIL_UNITS, 1, 0), (MAP_CTRL_ENABLE, 1, 0), (MAP_RUN_LIMIT_RUN_COUNT, 100, 0),
      (MAP_NSn_RUN_COUNT, 50, 0), (MAP_NSn_VALID, 1, 0)] with
    hbm := { up.hbm with stgFree := ⟨[], 1, 100⟩ } }

set_option maxRecDepth 1000000 in
theorem witness_RangeCommands :
    (let x := takenRec 8 0 0 1
     let s := holds staged [(9, x)]
     let r := markSpans s .dealloc (nsSpans s (cmdNs x) (cmdSlba x) (cmdSlba x + cmdNlb x))
     Taken s 9 x true 0x08 ∧ nsLba4k s (cmdNs x) = true ∧ x.recA = some (aRec true) ∧ x.recB = none ∧ x.dw1 = 0 ∧ x.started = false ∧
      cmdNlb x ≤ 512 ∧ r.2 = true ∧ ctxOf r.1 9 = some x ∧ writeWaits r.1 { x with started := true } = false) ∧
    (let x := takenRec 4 0 0 511
     let s := holds staged [(9, x)]
     let r := markSpans s .lost (nsSpans s (cmdNs x) (cmdSlba x) (cmdSlba x + cmdNlb x))
     Taken s 9 x true 0x04 ∧ cmdNlb x ≤ 512 ∧ r.2 = true ∧ ctxOf r.1 9 = some x ∧ writeWaits r.1 { x with started := true } = false) ∧
    (let x := ctxIn 1 9 .taken
     let s := holds (hostNs []) [(9, x)]
     Taken s 9 x true 0x09 ∧ x.recA = none ∧ x.recB = none ∧ x.dw1 = 0 ∧ x.sqe.cdw10 < 256 ∧ s.on BUR_CTRL_ENABLE = false ∧
      x.sqe.cdw11 = 0 ∧ rangesStatus s (cmdNs x) (cmdRanges x [⟨0, 1000, 0⟩]) false = 0 ∧
      (cmdRanges x [⟨0, 1001, 0⟩]).any (fun r => !rangeFits s (cmdNs x) r.slba r.len) = true) ∧
    (let x := takenRec 9 0 4 0
     let s := holds staged [(9, x)]
     let r := markSpans s .dealloc (nsSpans s (cmdNs x) 8 10)
     Taken s 9 x true 0x09 ∧ cmdRanges x [⟨0, 2, 8⟩] = [⟨0, 2, 8⟩] ∧ nsLba4k s (cmdNs x) = true ∧ x.recB = none ∧ x.dw1 = 0 ∧
      s.on BUR_CTRL_ENABLE = false ∧ r.2 = true ∧ ctxOf r.1 9 = some x ∧ writeWaits r.1 { x with started := true } = false) ∧
    (let x : Ctx := { takenRec 0x19 0 0 0 with recB := some (aRec true), raw := [(0, List.replicate 4096 1)] }
     let s := holds staged [(9, x)]
     let p : CopyPiece := ⟨aPiece.slba, cmdSlba x, aPiece.nlb + 1, 0, 0, 0, aPiece⟩
     let r := putSectors (updCtx s 9 fun z => { z with dw0 := 0 }) 9 (cmdNs x) ((writeHandle s x).getD 0)
       (copySectors s (cmdNs x) p (copyBlocks s (cmdNs x) x p) [])
     Taken s 9 x true 0x19 ∧ x.staged = false ∧ (tget x.raw 0).isSome = true ∧ mdBytes (nsFmt s (cmdNs x)) = 0 ∧
      bits x.sqe.cdw12 0 8 = 0 ∧ aPiece.nlb + 1 ≤ 512 ∧ r.2 = true ∧ (ctxOf r.1 9).isSome = true) := by
  refine ⟨⟨isTaken ?_, ?_⟩, ⟨isTaken ?_, ?_⟩, ⟨isTaken ?_, ?_⟩, ⟨isTaken ?_, ?_⟩, isTaken ?_, ?_⟩ <;> decide +kernel

theorem witness_AdviceAndPlacement :
    (let x := ctxIn 1 0x1D .taken
     let s := holds (hostNs []) [(9, x)]
     Taken s 9 x true 0x1D ∧ nsInfo s (cmdNs x) = some ns1 ∧
      ([0] : List Nat).take (bits x.sqe.cdw10 16 16 + 1) = [0] ∧ 0 < ns1.handles.length) ∧
    (let s := holds (hostNs []) [(9, ctxIn 1 0x12 .taken)]; Taken s 9 (ctxIn 1 0x12 .taken) true 0x12) ∧
    (let x := ctxIn 1 0x84 .taken
     let s := holds (hostNs [(BUR_CTRL_ENABLE, 1, 0), (BUR_AVAIL_COUNT, 64, 0), (BUR_PIN_LIMIT_PCT, 50, 0)]) [(9, x)]
     Taken s 9 x true 0x84 ∧ x.started = false ∧ x.dw1 = 0 ∧ adviseStatus s x = 0 ∧ bits x.sqe.cdw13 0 4 = 0 ∧
      fillsLeft (prefetchAll s (adviseSegs s x)).2 (adviseSegs s x) = false ∧ (prefetchAll s (adviseSegs s x)).1 < 2 ^ 32 ∧
      fillsLeft (pinAll s (adviseSegs s x)).2 (adviseSegs s x) = false ∧ (pinAll s (adviseSegs s x)).1.count < 2 ^ 32 ∧
      fillsLeft (unpinAll s (adviseSegs s x)).2 (adviseSegs s x) = false ∧
      tget (prefetchAll s (adviseSegs s x)).2.bur.pinWait (8 + 9) = none ∧ tget (unpinAll s (adviseSegs s x)).2.bur.pinWait (8 + 9) = none) ∧
    (let x := ctxIn 1 0x84 .taken
     let s := holds (hostNs []) [(9, x)]
     adviseCount s x ≤ 1048576 ∧ rangeFits s (cmdNs x) (cmdSlba x) (adviseNlb x) = true ∧
      rangeLocked s (cmdNs x) (cmdSlba x) (adviseNlb x) false = false ∧ s.on BUR_CTRL_ENABLE = false) ∧
    (let x : Ctx := { ctxIn 1 0x85 .taken with dw1 := 1 }
     let s := holds (hostNs []) [(9, x)]
     Taken s 9 x true 0x85 ∧ x.dw1 ≠ 0 ∧ (cmdRanges x [⟨0, 5, 0⟩]).length ≤ x.dw1) ∧
    (let s := { holds (hostNs []) [(9, ctxIn 1 0x85 .taken)] with
       nvm := { up.nvm with secReqs := (List.range 64).map fun k => ⟨k, 0, 0, [], 0, 0, 0, 0⟩ } }
     64 ≤ secActive s) := by
  refine ⟨⟨isTaken ?_, ?_⟩, isTaken ?_, ⟨isTaken ?_, ?_⟩, ?_, ⟨isTaken ?_, ?_⟩, ?_⟩ <;> decide +kernel

theorem witness_CompressCommands :
    (let s := holds (hostNs [(CPR_CTRL_ENABLE, 1, 0), (CPR_ENG_OFF, 15, 0)]) [(9, ctxIn 1 0x8B .taken)]
     Taken s 9 (ctxIn 1 0x8B .taken) true 0x8B ∧ s.on CPR_CTRL_ENABLE = true ∧ anyEngine s = none) ∧
    (let s := holds (hostNs [(CPR_CTRL_ENABLE, 1, 0), (CPR_ENG_OFF, 7, 0)]) [(9, ctxIn 1 0x8F .taken)]
     Taken s 9 (ctxIn 1 0x8F .taken) true 0x8F ∧ anyEngine s = some 3) ∧
    (bits 0 4 12 = 0 ∧ (cprEncode 0 0 0 [] 0 (fit [] 64)).length < 64 ∧
      compressResult (cprEncode 0 0 0 [] 0 (fit [] 64)) 64 64 true = cprOk ∧
      compressResult (cprEncode 0 0 0 [] 0 (fit [] 1)) 1 64 true = cprNotSmaller ∧
      decompressResult up (cprEncode 0 0 0 [] 0 (fit [] 64)) 64 = (cprOk, fit [] 64)) := by
  refine ⟨⟨isTaken ?_, ?_⟩, ⟨isTaken ?_, ?_⟩, ?_⟩ <;> decide +kernel

/-! ## Admin commands -/

/-- An admin command taken by firmware in context 9. -/
def adm (op cdw10 cdw11 : Nat) : Ctx :=
  { ctxIn 0 op .taken with cq := 0, sqe := { sqe0 with opcode := op, nsid := 1, cdw10 := cdw10, cdw11 := cdw11 } }

/-- A machine with a map and a namespace that holds one command in context 9. -/
def admS (l : List (Fld × Nat × Nat)) (x : Ctx) : State :=
  holds (hostNs ([(MAP_CTRL_ENABLE, 1, 0), (MAP_RUN_LIMIT_RUN_COUNT, 100, 0), (MAP_NSn_RUN_COUNT, 2, 0), (MAP_NSn_VALID, 1, 0)] ++ l)) [(9, x)]

theorem witness_IdentifyLogsFeatures :
    (let x := adm 6 1 0; let s := admS [] x
     Taken s 9 x false 6 ∧ (identifyData s x).1 = 0) ∧
    (let x := adm 6 0xFF 0; let s := admS [] x
     Taken s 9 x false 6 ∧ (identifyData s x).1 ≠ 0 ∧ (identifyData s x).1 < 2 ^ 15) ∧
    (let x : Ctx := { adm 2 (2 + 127 * 65536) 0 with sqe := { sqe0 with opcode := 2, cdw10 := 2 + 127 * 65536 } }; let s := admS [] x
     Taken s 9 x false 2 ∧ bits x.sqe.cdw10 0 8 = 2 ∧ x.sqe.nsid = 0 ∧ x.sqe.cdw12 = 0 ∧ x.sqe.cdw13 = 0 ∧
      dataLen s x = 512 ∧ (smartLog s).length = 512 ∧ (logPage s x 2 0).isSome = true ∧ logPage s x 0x10 0 = none) ∧
    (let x := adm 9 (0x0B + 2 ^ 31) 0; let s := admS [] x
     Taken s 9 x false 9 ∧ bits x.sqe.cdw10 31 1 = 1 ∧ cmdFid x = 0x0B) ∧
    (let x := adm 9 0x0B 0x7FF; let s := admS [] x
     Taken s 9 x false 9 ∧ setStatus x = 0 ∧ cmdFid x = 0x0B ∧ x.sqe.cdw11 < 2 ^ 11) ∧
    (let x := adm 9 5 (2 ^ 16 - 1); let s := admS [] x
     Taken s 9 x false 9 ∧ setStatus x = 0 ∧ plainLimit (cmdFid x) = some (2 ^ 16) ∧ x.sqe.cdw11 < 2 ^ 16 ∧ plainLimit (cmdFid (adm 9 0x0A 2)) = some 2) ∧
    (let x := adm 9 9 0; let s := admS [(HIF_LINKl_CFG_MSIX_PF, 1, 7)] x
     Taken s 9 x false 9 ∧ setStatus x = 0 ∧ cmdFid x = 9 ∧ bits x.sqe.cdw11 0 16 < vecCount s x.f ∧ x.sqe.cdw11 < 2 ^ 17 ∧
      setStatus (adm 9 1 7) = 0 ∧ cmdFid (adm 9 1 7) = 1 ∧ bits 7 3 5 = 0 ∧ setStatus (adm 9 0x0E 0) = 0 ∧ cmdFid (adm 9 0x0E 0) = 0x0E ∧
      setStatus (adm 9 0x81 1) = 0 ∧ cmdFid (adm 9 0x81 1) = 0x81) ∧
    (let x := adm 9 7 0; let s := admS [] x
     Taken s 9 x false 9 ∧ setStatus x = 0 ∧ cmdFid x = 7 ∧ s.cmd.created.contains x.f = false ∧
      ({ s with cmd := { s.cmd with created := [224] } } : State).cmd.created.contains x.f = true) ∧
    (let x := adm 9 2 4; let s := admS [] x
     Taken s 9 x false 9 ∧ setStatus x = 0 ∧ cmdFid x = 2 ∧ x.sqe.cdw11 ≤ 4) ∧
    (let x := adm 9 6 1; let s := admS [(HBM_CEIL_VWC, 1, 0)] x
     Taken s 9 x false 9 ∧ setStatus x = 0 ∧ cmdFid x = 6 ∧ s.on HBM_CEIL_VWC = true ∧ x.sqe.cdw11 < 2) ∧
    (let x := adm 9 4 (300 + 15 * 65536); let s := admS [] x
     Taken s 9 x false 9 ∧ setStatus x = 0 ∧ cmdFid x = 4 ∧ 8 ∈ thresholdSubs x.sqe.cdw11 true) ∧
    (let x := adm 9 0x10 368; let s := admS [] x
     Taken s 9 x false 9 ∧ setStatus x = 0 ∧ cmdFid x = 0x10 ∧ bits x.sqe.cdw11 16 16 = 0 ∧ bits x.sqe.cdw11 0 16 = 368) ∧
    (let x := adm 10 0x0B 0; let s := admS [] x
     Taken s 9 x false 0x0A ∧ x.sqe.cdw10 < 2 ^ 11 ∧ bits x.sqe.cdw10 8 3 = 0 ∧ cmdFid x = 0x0B) ∧
    (let x := adm 10 (0x81 + 256) 0; let s := admS [] x
     Taken s 9 x false 0x0A ∧ x.sqe.cdw10 < 2 ^ 11 ∧ bits x.sqe.cdw10 8 3 = 1 ∧ (getFeature s x true).isSome = true ∧
      getFeature s (adm 10 0x7F 0) false = none ∧ (getFeature s (adm 10 (0x0B + 768) 0) false).isSome = true) := by
  refine ⟨⟨isTaken ?_, ?_⟩, ⟨isTaken ?_, ?_⟩, ⟨isTaken ?_, ?_⟩, ⟨isTaken ?_, ?_⟩, ⟨isTaken ?_, ?_⟩, ⟨isTaken ?_, ?_⟩, ⟨isTaken ?_, ?_⟩,
    ⟨isTaken ?_, ?_⟩, ⟨isTaken ?_, ?_⟩, ⟨isTaken ?_, ?_⟩, ⟨isTaken ?_, ?_⟩, ⟨isTaken ?_, ?_⟩, ⟨isTaken ?_, ?_⟩, isTaken ?_, ?_⟩ <;> decide +kernel

theorem witness_QueuesAndEvents :
    (let x : Ctx := { adm 5 (1 + 63 * 65536) 1 with sqe := { (adm 5 (1 + 63 * 65536) 1).sqe with dptr1 := 0x20000 } }
     let s := admS [(CMD_FNf_STATE_QALLOC, 8, 224), (NVME_CC_IOCQES, 4, 224)] x
     Taken s 9 x false 5 ∧ x.cq = 0 ∧ createCqStatus s x = 0) ∧
    (let x := adm 5 0 1; let s := admS [] x
     Taken s 9 x false 5 ∧ x.cq = 0 ∧ createCqStatus s x ≠ 0) ∧
    (let x : Ctx := { adm 1 (1 + 63 * 65536) 65537 with sqe := { (adm 1 (1 + 63 * 65536) 65537).sqe with dptr1 := 0x10000 } }
     let s := { admS [(CMD_FNf_STATE_QALLOC, 8, 224), (NVME_CC_IOSQES, 6, 224)] x with
       cmd := { (admS [] x).cmd with cqs := [(qkey 224 1, cqA)] } }
     Taken s 9 x false 1 ∧ x.cq = 0 ∧ createSqStatus s x = 0) ∧
    (let x := adm 4 1 0; let s := { admS [] x with cmd := { (admS [] x).cmd with cqs := [(qkey 224 1, cqA)] } }
     Taken s 9 x false 4 ∧ x.cq = 0 ∧ cmdQid x ≠ 0 ∧ (cqOf s x.f (cmdQid x)).isSome = true ∧ cqUsedBy s x.f (cmdQid x) = false) ∧
    (let x := adm 0 1 0; let s := queues (admS [] x) sqA cqA
     Taken s 9 x false 0 ∧ x.cq = 0 ∧ cmdQid x ≠ 0 ∧ sqOf s x.f (cmdQid x) = some sqA ∧ sqA.deleting = none ∧
      ∀ y ∈ s.cmd.ctxs, y.2.f = x.f → y.2.sq ≠ cmdQid x) ∧
    (let x := adm 0x0C 0 0; let s := admS [] x
     Taken s 9 x false 0x0C ∧ s.nvm.aers = []) ∧
    (let x := adm 0x0C 0 0
     let s := holds { hostUp [] with nvm := { up.nvm with aers := List.range 8 } } ((List.range 10).map fun k => (k, x))
     Taken s 9 x false 0x0C ∧ s.nvm.aers.contains 9 = false ∧
      8 ≤ (s.nvm.aers.filter fun a => match ctxOf s a with | some y => y.f = x.f | none => false).length) ∧
    (let x := adm 0x0C 0 0
     let s := holds { hostUp [] with nvm := { up.nvm with aers := [9], events := [⟨224, 7, 255, 255⟩] } } [(9, x)]
     Taken s 9 x false 0x0C ∧ s.nvm.aers = [9] ∧ s.nvm.events = [⟨224, 7, 255, 255⟩] ∧ s.nvm.blocked = []) := by
  refine ⟨⟨isTaken ?_, ?_⟩, ⟨isTaken ?_, ?_⟩, ⟨isTaken ?_, ?_⟩, ⟨isTaken ?_, ?_⟩, ⟨isTaken ?_, ?_⟩, ⟨isTaken ?_, ?_⟩, ⟨isTaken ?_, ?_⟩,
    isTaken ?_, ?_⟩ <;> decide +kernel

theorem witness_Namespaces :
    (let d : NsCreate := ⟨1000, 1000, 3, 0, 0, []⟩
     let x := adm 0x0D 0 0
     let s := { holds (hostUp [(MAP_CTRL_ENABLE, 1, 0), (MAP_RUN_LIMIT_RUN_COUNT, 100, 0), (CRY_ENT_OK, 1, 0)]) [(9, x)] with
       sys := { up.sys with image := { up.sys.image with tnvmcap := 2 ^ 40 } } }
     Taken s 9 x false 0x0D ∧ bits x.sqe.cdw10 0 4 = 0 ∧ bits x.sqe.cdw11 24 8 = 0 ∧ tfree s.nvm.ns 0 4096 = some 0 ∧
      freeBase s (runsOf d.nsze (d.flbas % 16)) = some 0 ∧ createNsStatus s d (some 0) (some 0) = 0 ∧ s.on MAP_CTRL_ENABLE = true ∧
      ringFits s 1 = true ∧ (makeNs s 0 0 d).isSome = true ∧ ((makeNs s 0 0 d).bind fun u => ctxOf u 9) = some x) ∧
    (let x : Ctx := { adm 0x0D 1 0 with recA := some ⟨0, 0, 0, true, true, 0, true⟩ }
     let s := admS [] x
     let u := clearNs s 9 0
     Taken s 9 x false 0x0D ∧ bits x.sqe.cdw10 0 4 = 1 ∧ x.sqe.nsid = 0 + 1 ∧ (nsInfo s 0).isSome = true ∧ x.recB = none ∧
      x.started = false ∧ u.2 = true ∧ ringFits u.1 1 = true ∧ (ctxOf (removeNs u.1 0) 9).map (fun y => y.stage) = some .taken ∧
      (ctxOf (removeNs u.1 0) 9).map (fun y => y.tunnel) = some none) ∧
    (let x := adm 0x15 0 0
     let s := { admS [] x with nvm := { up.nvm with ns := [(0, { ns1 with attached := [] })] } }
     Taken s 9 x false 0x15 ∧ x.sqe.nsid ≠ 0 ∧ (nsInfo s 0).map (fun i => i.attached) = some [] ∧ ctrlFns s [225] = some [224] ∧
      bits x.sqe.cdw10 0 4 = 0) ∧
    (let x := adm 0x15 0 0; let s := admS [] x
     Taken s 9 x false 0x15 ∧ nsInfo s 0 = some ns1 ∧ ctrlFns s [1] = some [0] ∧ 0 ∉ ns1.attached ∧ ns1.nmic = 0 ∧
      1 < (ns1.attached ++ [0]).length) ∧
    (let x := adm 0x15 1 0; let s := admS [] x
     Taken s 9 x false 0x15 ∧ nsInfo s 0 = some ns1 ∧ ctrlFns s [225] = some [224] ∧ 224 ∈ ns1.attached ∧ bits x.sqe.cdw10 0 4 = 1) := by
  refine ⟨⟨isTaken ?_, ?_⟩, ⟨isTaken ?_, ?_⟩, ⟨isTaken ?_, ?_⟩, ⟨isTaken ?_, ?_⟩, isTaken ?_, ?_⟩ <;> decide +kernel

/-- A package with one core image for every core, but for its signature. -/
def aPkg : List Byte :=
  (ascii "GRNK" ++ natLe 1 2 ++ natLe 128 2 ++ natLe 528640 4 ++ natLe 0x88400001 4 ++ natLe 3 4 ++ natLe 1 2 ++ natLe 0 2
    ++ natLe 7 8 ++ natLe 2 2 ++ natLe 1 2 ++ List.replicate 92 0
    ++ natLe 1 2 ++ List.replicate 6 0 ++ natLe 4096 4 ++ natLe 524288 4 ++ natLe (2 ^ 64 - 1) 8 ++ List.replicate 8 0)
  ++ List.replicate 528480 0

/-- A firmware slot with a settings format. -/
def aSlot (valid : Bool) : FwSlot := ⟨valid, false, 8192, 0, 0, 1, 1, false, []⟩

/-- A slot table whose slots 1 to 3 are valid, the settings of format 1 in force. -/
def aTable : FwTable := ⟨5, 1, 2, true, false, [1, 2], 0, 1, 0, [aSlot true, aSlot true, aSlot true, aSlot false]⟩

/-- A running machine with that table, some pieces of a download, and an admin command. -/
def fwS (x : Ctx) (pieces : Tbl (List Byte)) : State :=
  { holds (hostUp [(SYS_HWTYPE_V, 0x88400001, 0)]) [(9, x)] with fw := { up.fw with pieces := pieces, activating := none, table := aTable } }

theorem aPkg_length : aPkg.length = 528640 := by
  unfold aPkg
  rw [List.length_append, List.length_replicate]
  decide +kernel

theorem aPkg_len : pkgLen aPkg = 528640 := by decide +kernel

theorem aPkg_ok (s : State) (hw : s.get SYS_HWTYPE_V = 0x88400001) (sv : s.get SYS_OTP_STATE_SECVER ≤ 3) (h : sigOk s aPkg 528640 1 = true) : pkgOk s aPkg = true := by
  have hl := aPkg_length
  have hn := aPkg_len
  have hs : pkgSecver aPkg = 3 := by decide +kernel
  have hh : leAt aPkg 12 4 = 0x88400001 := by decide +kernel
  have hu : pkgUnits aPkg = 0 := by decide +kernel
  have hc : pkgComps aPkg = [⟨1, 4096, 524288, 2 ^ 64 - 1⟩] := by decide +kernel
  simp only [pkgOk, hl, hn, hs, hh, hw, hu, hc, h, pkgCores]
  simp only [Bool.and_eq_true, decide_eq_true_eq]
  refine ⟨⟨⟨⟨⟨⟨⟨⟨⟨⟨⟨⟨⟨⟨⟨⟨⟨⟨⟨⟨⟨⟨?_, ?_⟩, ?_⟩, ?_⟩, ?_⟩, ?_⟩, ?_⟩, ?_⟩, ?_⟩, ?_⟩, ?_⟩, ?_⟩, ?_⟩, ?_⟩, ?_⟩, ?_⟩, ?_⟩, ?_⟩, ?_⟩, ?_⟩, ?_⟩, sv⟩, trivial⟩ <;> first | rfl | decide +kernel

theorem aPkg_commits (ca : Nat) (hca : ca = 0 ∨ ca = 1) (h : sigOk (fwS (adm 0x10 0 0) [(0, aPkg)]) aPkg 528640 1 = true) :
    commitStatus (fwS (adm 0x10 (4 + 8 * ca) 0) [(0, aPkg)]) ca 4 4 true = 0 := by
  have hb : bufferBytes [(0, aPkg)] = aPkg := by simp [bufferBytes]
  have ht : aPkg.take 528640 = aPkg := List.take_of_length_le (Nat.le_of_eq aPkg_length)
  have hi : pkgImage aPkg = none := by decide +kernel
  have hf : pkgFmtMin aPkg = 1 ∧ pkgFmt aPkg = 2 := by decide +kernel
  have hp : pkgOk (fwS (adm 0x10 (4 + 8 * ca) 0) [(0, aPkg)]) aPkg = true := by
    refine aPkg_ok _ ?_ ?_ h <;> rcases hca with rfl | rfl <;> decide +kernel
  have hk : bufferPkg (fwS (adm 0x10 (4 + 8 * ca) 0) [(0, aPkg)]) = aPkg := by
    show (bufferBytes [(0, aPkg)]).take (pkgLen (bufferBytes [(0, aPkg)])) = aPkg
    rw [hb, aPkg_len, ht]
  unfold commitStatus
  rw [hk, show (fwS (adm 0x10 (4 + 8 * ca) 0) [(0, aPkg)]).fw.pieces = [(0, aPkg)] from rfl, hb, hp]
  have hl := aPkg_length
  have hn := aPkg_len
  rcases hca with rfl | rfl <;> simp [imageFollows, hi, formatOk, slotOf, hf, fwS, aTable, hl, hn]

/-- The clauses that load a package hold where its signature passes: the signature check is opaque. -/
theorem witness_FirmwareUpdate :
    (let x := adm 0x11 1023 0; let s := fwS x []
     Taken s 9 x false 0x11 ∧ (takePiece s.fw.pieces (x.sqe.cdw11 * 4) (fit [] (numd x * 4))).1 = 0) ∧
    (sigOk (fwS (adm 0x10 0 0) [(0, aPkg)]) aPkg 528640 1 = true → ∀ ca, ca = 0 ∨ ca = 1 →
      let x := adm 0x10 (4 + 8 * ca) 0; let s := fwS x [(0, aPkg)]
      Taken s 9 x false 0x10 ∧ s.fw.activating = none ∧ slotFor s.fw.table (cmdFs x) = 4 ∧ cmdCa x = ca ∧
        commitStatus s ca (cmdFs x) 4 (commitLoads s ca) = 0) ∧
    (let x := adm 0x10 (1 + 8 * 2) 0; let s := fwS x []
     Taken s 9 x false 0x10 ∧ s.fw.activating = none ∧ slotFor s.fw.table (cmdFs x) = 1 ∧ cmdCa x = 2 ∧
      commitStatus s 2 (cmdFs x) 1 (commitLoads s 2) = 0) ∧
    (let x := adm 0x10 (3 + 8 * 3) 0; let s := fwS x []
     Taken s 9 x false 0x10 ∧ s.fw.activating = none ∧ slotFor s.fw.table (cmdFs x) = 3 ∧ cmdCa x = 3 ∧
      commitStatus s 3 (cmdFs x) 3 (commitLoads s 3) = 0) ∧
    (let x := adm 0xC0 0 0; let s := fwS x []
     Taken s 9 x false 0xC0 ∧ s.fw.table.confirmPending = true ∧ s.fw.table.confirmAt ≤ pohHours s ∧
      (holds up [(9, x)]).fw.table.confirmPending = false) := by
  refine ⟨⟨isTaken ?_, ?_⟩, fun h ca hca => ⟨isTaken ?_, ?_, ?_, ?_, ?_⟩, ⟨isTaken ?_, ?_⟩, ⟨isTaken ?_, ?_⟩, isTaken ?_, ?_⟩
  case refine_7 =>
    have := aPkg_commits ca hca h
    rcases hca with rfl | rfl <;> exact this
  all_goals first | decide +kernel | (rcases hca with rfl | rfl <;> decide +kernel)

theorem witness_SecurityAndDump :
    (let x := adm 0x81 (2 ^ 24) 4; let s := admS [] x
     Taken s 9 x false 0x81 ∧ secp x = 1 ∧ (List.replicate 4 (0 : Byte)).length = dataLen s x) ∧
    (let x := adm 0x82 0 8; let s := admS [] x; Taken s 9 x false 0x82 ∧ secp x = 0 ∧ spsp x = 0) ∧
    (let x : Ctx := { adm 0x19 0 1 with sqe := { (adm 0x19 0 1).sqe with cdw12 := 1 } }; let s := admS [] x
     Taken s 9 x false 0x19 ∧ dirType x = 0 ∧ dirOp x = 1 ∧ bits x.sqe.cdw12 8 8 = 0 ∧ bits x.sqe.cdw12 0 1 = 1) ∧
    (let x := adm 0x1A 1023 1; let s := admS [] x; Taken s 9 x false 0x1A ∧ dirType x = 0 ∧ dirOp x = 1) ∧
    (let x := adm 0x1D 0 7; let s := admS [] x; Taken s 9 x false 0x1D ∧ bits x.sqe.cdw11 0 8 = 7) ∧
    (let x : Ctx := { adm 0x1D 0 3 with sqe := { (adm 0x1D 0 3).sqe with cdw12 := 3 + 2 ^ 24, cdw13 := 1024 } }; let s := admS [] x
     Taken s 9 x false 0x1D ∧ bits x.sqe.cdw11 0 8 = 3 ∧ miSet s x.sqe.cdw12 x.sqe.cdw13 = some { s.oob with mtu1 := 1024 }) ∧
    (let x := adm 0x1E 0 1; let s := admS [] x
     Taken s 9 x false 0x1E ∧ bits x.sqe.cdw11 0 8 = 1 ∧ bits x.sqe.cdw13 31 1 = 0) ∧
    (let x := adm 0xC2 0 0; let s := admS [] x; Taken s 9 x false 0xC2 ∧ x.sqe.cdw10 % 16 = 0) ∧
    (let x := adm 0xC2 1 0; let s := admS [] x; Taken s 9 x false 0xC2 ∧ x.sqe.cdw10 % 16 = 1 ∧ s.nvm.dump = none) ∧
    (let x := adm 0xC2 1 1023; let s := { admS [] x with nvm := { up.nvm with dump := some ⟨1, 0⟩ } }
     Taken s 9 x false 0xC2 ∧ x.sqe.cdw10 % 16 = 1 ∧ s.nvm.dump = some ⟨1, 0⟩ ∧ dumpOff x + dataLen s x = 4096) ∧
    (let x := adm 0xC2 2 0; let s := { admS [] x with nvm := { up.nvm with dump := some ⟨1, 0⟩ } }
     Taken s 9 x false 0xC2 ∧ x.sqe.cdw10 % 16 = 2 ∧ s.nvm.dump.isSome = true) := by
  refine ⟨⟨isTaken ?_, ?_⟩, ⟨isTaken ?_, ?_⟩, ⟨isTaken ?_, ?_⟩, ⟨isTaken ?_, ?_⟩, ⟨isTaken ?_, ?_⟩, ⟨isTaken ?_, ?_⟩, ⟨isTaken ?_, ?_⟩,
    ⟨isTaken ?_, ?_⟩, ⟨isTaken ?_, ?_⟩, ⟨isTaken ?_, ?_⟩, isTaken ?_, ?_⟩ <;> decide +kernel

/-- The other forms of these commands: refused protocols, directives and opcodes, and the management commands that read or write. -/
theorem witness_SecurityAndDump_forms :
    (let x := adm 0x81 (3 * 2 ^ 24) 4; let s := admS [] x
     Taken s 9 x false 0x81 ∧ secp x ≠ 1 ∧ secp x ≠ 2 ∧ ([] : List Byte).length ≠ dataLen s (adm 0x81 (2 ^ 24) 4)) ∧
    (let x := adm 0x82 (2 ^ 24) 8; let s := admS [] x
     Taken s 9 x false 0x82 ∧ secp x = 1 ∧ 3 ≤ secp (adm 0x82 (3 * 2 ^ 24) 8) ∧ secp (adm 0x82 256 8) = 0 ∧ spsp (adm 0x82 256 8) ≠ 0) ∧
    (let x := adm 0x19 0 2; let s := admS [] x; Taken s 9 x false 0x19 ∧ dirOp x ≠ 1 ∧ dirType (adm 0x19 0 257) ≠ 0) ∧
    (let x := adm 0x1A 0 2; let s := admS [] x; Taken s 9 x false 0x1A ∧ dirOp x ≠ 1) ∧
    (let x := adm 0x1D 0 6; let s := admS [] x; Taken s 9 x false 0x1D ∧ bits x.sqe.cdw11 0 8 = 6) ∧
    (let x := adm 0x1D 0 0; let s := admS [] x; Taken s 9 x false 0x1D ∧ bits x.sqe.cdw11 0 8 ∉ [3, 6, 7]) ∧
    (let x := adm 0x1E 0 0; let s := admS [] x; Taken s 9 x false 0x1E ∧ bits x.sqe.cdw11 0 8 = 0) ∧
    (let x : Ctx := { adm 0x1E 0 5 with sqe := { (adm 0x1E 0 5).sqe with cdw12 := 255, cdw13 := 1 } }; let s := admS [] x
     Taken s 9 x false 0x1E ∧ bits x.sqe.cdw11 0 8 = 5 ∧ (miVpdRead s x.sqe.cdw12 x.sqe.cdw13).isSome = true) ∧
    (let x : Ctx := { adm 0x1E 0 4 with sqe := { (adm 0x1E 0 4).sqe with cdw12 := 3 + 2 ^ 24 } }; let s := admS [] x
     Taken s 9 x false 0x1E ∧ bits x.sqe.cdw11 0 8 = 4 ∧ (miGet s x.sqe.cdw12).isSome = true) := by
  refine ⟨⟨isTaken ?_, ?_⟩, ⟨isTaken ?_, ?_⟩, ⟨isTaken ?_, ?_⟩, ⟨isTaken ?_, ?_⟩, ⟨isTaken ?_, ?_⟩, ⟨isTaken ?_, ?_⟩, ⟨isTaken ?_, ?_⟩,
    ⟨isTaken ?_, ?_⟩, isTaken ?_, ?_⟩ <;> decide +kernel

/-- A log that is not there, and an offset past a log's end. -/
theorem witness_IdentifyAndLogs_refused :
    let x : Ctx := { adm 2 0 0 with sqe := { sqe0 with opcode := 2, cdw10 := 2, cdw12 := 516 } }; let s := admS [] x
    Taken s 9 x false 2 ∧ bits x.sqe.cdw10 0 8 = 2 ∧ x.sqe.cdw12 + x.sqe.cdw13 * 2 ^ 32 = 516 ∧ 516 % 4 = 0 ∧ x.sqe.nsid = 0 ∧
      2 ∉ [0x07, 0x08, 0x22] ∧ ((logPage s x 2 0).map fun d => decide (d.length < 516)) = some true := by
  refine ⟨isTaken ?_, ?_⟩ <;> decide +kernel

/-- A Format in its last phase, its completion record durable. -/
def fmtS (ses : Nat) : Ctx × State :=
  let x : Ctx := { adm 0x80 (3 + ses * 512) 0 with recA := some ⟨0, 0, 0, true, true, 0, true⟩ }
  (x, { admS [] x with fw := { up.fw with formats := [⟨0, 3, false, 0, ses, 5, 1, []⟩] } })

/-- A range over a whole run. -/
def aRange (kind : Nat) : OpalRange := ⟨1, kind, 0, 512, 512, true, true, false⟩

theorem witness_FormatSanitizeOpal :
    (let x := adm 0x80 (1 * 256) 0; let s := admS [] x
     Quiet s ∧ Taken s 9 x false 0x80 ∧ fmtStatus x ≠ 0 ∧ bits x.sqe.cdw10 9 3 = 0) ∧
    (∀ ses, ses < 3 →
     let x := (fmtS ses).1; let s := (fmtS ses).2
     Quiet s ∧ Taken s 9 x false 0x80 ∧ fmtStatus x = 0 ∧ x.sqe.nsid = 0 + 1 ∧ (nsInfo s 0).isSome = true ∧
      (x.recA.map fun k => k.granted) = some true ∧ x.recB = none ∧ x.started = false ∧ x.dw1 = 0 ∧
      s.fw.formats.find? (fun y => y.ns = 0) = some ⟨0, 3, false, 0, ses, 5, 1, []⟩ ∧ mayUpdate s 4 = true ∧ s.map.page = none ∧
      s.map.closed = [] ∧ bits x.sqe.cdw10 9 3 = ses) ∧
    (let x := adm 0x84 2 0; let s := admS [] x; Taken s 9 x false 0x84 ∧ sanAct x = 2) ∧
    (let x := adm 0x84 4 0; let s := admS [] x; Taken s 9 x false 0x84 ∧ sanAct x = 4) ∧
    (let x := adm 0x84 1 0; let s := admS [] x
     Taken s 9 x false 0x84 ∧ sanAct x = 1 ∧ s.fw.failed ≠ some false ∧
      ({ s with fw := { s.fw with failed := some false } } : State).fw.failed = some false) ∧
    (let s := { w [(MAP_CTRL_ENABLE, 1, 0)] with fw := { up.fw with san := some ⟨1, 5, true, 1, []⟩ } }
     s.live = true ∧ Quiet s ∧ mayUpdate s 4 = true ∧ s.map.page = none ∧ s.map.closed = []) ∧
    (let s := { up with timeUs := 60000000, fw := { up.fw with san := some ⟨2, 2, false, 0, []⟩ } }
     s.live = true ∧ s.on CRY_ENT_OK = false ∧ s.cry.entLostUs + 60000000 ≤ s.timeUs) ∧
    (let s := admS [] (adm 0x82 0 0); s.live = true ∧ rangeOk s (aRange 2) = true ∧ opalCtx s = none) ∧
    (let s := { w [(CRY_ENT_OK, 1, 0), (MAP_CTRL_ENABLE, 1, 0)] with cry := { up.cry with opal := [aRange 1] } }
     s.media.readOnly = false ∧ s.cry.opal.find? (fun y => y.num = 1) = some (aRange 1) ∧ mayJournal s (uniq ((rangeNs s (aRange 1)).map (nsSlot s))).length = true ∧
      ((uniq ((rangeNs s (aRange 1)).map (nsSlot s))).foldlM (fun s k => (cryptoErase s k).map fun s => appendFw s (opalRec k)) s).isSome =
        true) ∧
    (let s := { w [(MAP_CTRL_ENABLE, 1, 0), (MAP_RUN_LIMIT_RUN_COUNT, 100, 0)] with cry := { up.cry with opal := [aRange 2] } }
     s.cry.opal.find? (fun y => y.num = 1) = some (aRange 2) ∧ (aRange 2).kind = 2 ∧ opalCtx s = none ∧
      (markSpans s .secure (nsSpans s 0 512 1024)).2 = true) ∧
    (let s := { up with cry := { up.cry with opal := [aRange 2] }, media := { up.media with readOnly := true } }
     s.media.readOnly = true ∧ (s.cry.opal.any fun y => y.num = 1) = true) ∧
    (let s := w [(CRY_ENT_OK, 1, 0), (MAP_CTRL_ENABLE, 1, 0)]
     s.media.readOnly = false ∧ (sanKeys s).isSome = true ∧ ((sanKeys s).map fun u => mayJournal u 1) = some true) := by
  refine ⟨⟨?_, isTaken ?_, ?_⟩, ?_, ⟨isTaken ?_, ?_⟩, ⟨isTaken ?_, ?_⟩, ⟨isTaken ?_, ?_⟩, ?_⟩
  case refine_4 =>
    intro ses h
    have : ses = 0 ∨ ses = 1 ∨ ses = 2 := by omega
    refine ⟨?_, isTaken ?_, ?_⟩ <;> rcases this with rfl | rfl | rfl <;> (try unfold Quiet) <;> decide +kernel
  all_goals ((try unfold Quiet); decide +kernel)

/-- Buffers of pool 1 in its free list. -/
def poolOne (s : State) : State :=
  let a := (List.range 16).map fun k => poolBase s 1 + k * poolSize s 1
  writeLinks { s with bpm := { s.bpm with heads := [(1, a.headD 0)] } } a

/-- A map of two stripes, the first open and dense. -/
def twoStripes (l : List (Fld × Nat × Nat)) : State :=
  writeLe (hostNs ([(MAP_CTRL_ENABLE, 1, 0), (MAP_RUN_LIMIT_RUN_COUNT, 100, 0), (MAP_NSn_RUN_COUNT, 2, 0), (MAP_NSn_VALID, 1, 0),
    (MAP_STRIPE_BASE_BASE, 256, 0), (MAP_STRIPE_COUNT_COUNT, 2, 0), (MAP_STG_BASE_BASE, 512, 0), (MAP_STG_CFG_STG_LOG2, 4, 0),
    (HBM_STG_BASE_BASE, 768, 0), (HBM_STG_META_BASE, 1024, 0), (FCH_MODELm_GEOM_PAGES, 100, 0), (FCH_MODELm_GEOM_BLOCKS, 100, 0), (FCH_DEN_CFG_ENABLE, 1, 0), (FCH_DEN_STATUS_ACTIVE, 1, 0), (FCH_DIEd_STATE, 1, 0),
    (CDC_CTRL_ENABLE, 1, 0), (CRY_SLOTs_STATE_VALID0, 1, 0), (BPM_POOLn_CFG_SIZE, 8, 1), (BPM_POOLn_CFG_COUNT, 16, 1), (BPM_POOLn_STATE_FREE, 16, 1)] ++ l)) (256 * 4096) 8 5

/-- A staged sector of run 0 in staging sector 0. -/
def fdpS : State :=
  let s := poolOne (twoStripes [])
  let s := { s with
    fch := { s.fch with chans := [(0, ⟨1, 0, 0, false, false, false, 0, 0, 0, none, 0, 0, 0⟩)] }
    sys := { s.sys with image := { s.sys.image with fdp := true, reserve := 0 } }
    nvm := { s.nvm with handles := [(0, ⟨0, 3200⟩)], ruStripe := [(0, 0)] }
    timeUs := 1000000000000
    cry := { s.cry with key0 := [(0, List.replicate 32 1)] }
    hbm := { s.hbm with stg := [(0, ⟨0, 0, 0, 0, true, false, 0, 0, false⟩)] } }
  (insertEntry s (stgPool s) 0 (2 ^ 63 + 2 ^ 57)).toOption.getD s

/-- That sector. -/
def fdpY : Nat × StgSec := (0, ⟨0, 0, 0, 0, true, false, 0, 0, false⟩)

set_option maxRecDepth 1000000 in
theorem fdpS_row :
    handleUnit fdpS 0 = fdpS ∧ unitOf fdpS 0 = some ⟨0, 3200⟩ ∧
      (List.range (rowCap fdpS 0)).find? (rowOpen fdpS 0) = some 0 ∧
      fdpS.cdc.accs.length < (encodeSectors fdpS 0 0 (rowGroup fdpS (unprogrammed fdpS) fdpY.2).2).cdc.accs.length := by
  decide +kernel

theorem witness_BackgroundAndHealth :
    (let s := { w [(MAP_CTRL_ENABLE, 1, 0), (MAP_STRIPE_COUNT_COUNT, 4, 0)] with media := { up.media with colls := [(3, ⟨.gc, none, 0, true, []⟩)] } }
     s.live = true ∧ Quiet s ∧ tget s.media.colls 3 = some ⟨.gc, none, 0, true, []⟩ ∧ mayUpdate s 1 = true ∧
      3 < s.get MAP_STRIPE_COUNT_COUNT) ∧
    (let s := { w [(MAP_CTRL_ENABLE, 1, 0), (CDC_CTRL_ENABLE, 1, 0)] with media := { up.media with scrub := some ⟨[(3, 7)], 0, 0, 0, true⟩ } }
     s.live = true ∧ Quiet s ∧ s.media.refreshJob = none ∧ s.media.refresh = [] ∧ bgStops s = false ∧ migrFirst s = false ∧
      s.on CDC_CTRL_ENABLE = true) ∧
    (let s := w [(MAP_CTRL_ENABLE, 1, 0), (CRY_SLOTs_STATE_OLD_VALID, 1, 4095)]
     s.live = true ∧ Quiet s ∧ tget s.media.migr 4095 = none ∧ s.on CRY_SLOTs_STATE_OLD_VALID 4095 = true ∧ bgStops s = false) ∧
    (let r : SecReq := ⟨5, 0, 1, [], 0, 0, 0, 0⟩
     let s := { up with nvm := { up.nvm with secReqs := [r] } }
     s.live = true ∧ Quiet s ∧ s.nvm.secReqs.find? (fun y => y.id = 5) = some r ∧ r.state < 2 ∧ r.todo = []) ∧
    (let s := fdpS
     s.live = true ∧ Quiet s ∧ s.sys.image.fdp = true ∧
      (unprogrammed s).find? (fun z => placed s z.2 && decide (z.2.handle = 0)) = some fdpY ∧ s.on CDC_CTRL_ENABLE = true ∧
      mayUpdate s 1 = true ∧ fdpY.2.atUs + s.sys.image.padMs * 1000 ≤ s.timeUs) ∧
    (let x := adm 0xC4 0 0
     let s := { admS [(FCH_DIEd_STATE, 4, 0)] x with media := { up.media with requal := some ⟨9, 0, true, [], false⟩ } }
     Quiet s ∧ Taken s 9 x false 0xC4 ∧ (dieOf s 0).requal = none ∧ dieState s 0 = 4) ∧
    (let s := w [(MAP_STRIPE_COUNT_COUNT, 0, 0)]
     s.live = true ∧ s.media.readOnly = false ∧ spareStripes s ≤ 0 ∧ s.media.spareLow = false ∧ availableSpare s < s.sys.image.spareThresh) := by
  refine ⟨?_, ?_, ?_, ?_, ?_, ⟨?_, isTaken ?_, ?_⟩, ?_⟩ <;> (try unfold Quiet) <;> decide +kernel

/-! ## MAP and FCH -/

/-- A pool with some buffers in its free list, near the end of buffer SRAM. -/
def withPool (s : State) (p n : Nat) : State :=
  let s := ((s.set BPM_POOLn_CFG_SIZE 8 p).set BPM_POOLn_CFG_COUNT n p).set BPM_POOLn_STATE_FREE n p
  let a := (List.range n).map fun k => poolBase s p + k * poolSize s p
  writeLinks { s with bpm := { s.bpm with heads := [(p, a.headD 0)] } } a

/-- A map of two stripes and two runs' worth of buckets; slot 63 with arguments. -/
def mapS (l : List (Fld × Nat × Nat)) : State :=
  w ([(MAP_CTRL_ENABLE, 1, 0), (MAP_RUN_LIMIT_RUN_COUNT, 100, 0), (MAP_STRIPE_COUNT_COUNT, 2, 0), (MAP_STRIPE_BASE_BASE, 256, 0),
    (MAP_EXC_BASE_BASE, 512, 0), (MAP_EXC_CFG_PRIM_LOG2, 0, 0), (MAP_EXC_TOTAL_TOTAL, 2, 0), (MAP_OWNER_BASE_BASE, 1024, 0)] ++ l)

/-- Some exceptions of a run inserted. -/
def withExc (s : State) (run : Nat) (l : List Nat) : State :=
  l.foldl (fun s e => (insertEntry s (excPool s) run e).toOption.getD s) s

/-- A deallocated sector as an entry, and a media entry. -/
def deadSec (q : Nat) : Nat := 2 ^ 63 + 2 ^ 58 + q * 2 ^ 48
def mediaSec (q loc : Nat) : Nat := 2 ^ 63 + q * 2 ^ 48 + loc

/-- A page with one record. -/
def aPage : JPage := ⟨5, [⟨1, 0, 0, 0⟩], 0, 0, false, 0⟩

/-- The journal ring holds as many pages as it can. -/
def fullRing (s : State) : State :=
  { s with map := { s.map with closed := List.replicate ringPages ⟨aPage, .programming 2, .programming 1⟩ } }

theorem witness_RunCommands :
    (let s := mapS [(MAP_CMDn_ARG0_V, 100, 63)]; MapReady s 63 ∧ runOk s (mapArg0 s 63) = false ∧ MapFree s 63 2 ∧ MapFree s 63 6) ∧
    (let s := mapS [(MAP_CMDn_ARG0_V, 99, 63), (MAP_CMDn_ARG1_V, 5, 63), (MAP_CMDn_ARG2_V, 5, 63)]
     MapReady s 63 ∧ runOk s (mapArg0 s 63) = true ∧ runReadable s (mapArg0 s 63) = true ∧ MapFree s 63 2 ∧
      runWordOk s (mapArg1 s 63) = true ∧ runWordOk s (mapArg2 s 63) = true ∧
      bits (runEntry s (mapArg0 s 63)) 0 36 ≠ bits (mapArg1 s 63) 0 36) ∧
    (let s := mapS [(MAP_CMDn_ARG0_V, 99, 63), (MAP_CMDn_ARG2_V, 5, 63)]
     MapReady s 63 ∧ runWordOk s (mapArg2 s 63) = true ∧ bits (runEntry s (mapArg0 s 63)) 0 36 = bits (mapArg1 s 63) 0 36 ∧
      ringFits s 1 = true ∧ excReadable s (mapArg0 s 63) = true ∧ MapFree s 63 6 ∧ ringFits s 2 = true) ∧
    (let s := fullRing (mapS [(MAP_CMDn_ARG0_V, 99, 63), (MAP_CMDn_ARG2_V, 5, 63)])
     MapReady s 63 ∧ MapFree s 63 2 ∧ runReadable s (mapArg0 s 63) = true ∧ runWordOk s (mapArg1 s 63) = true ∧
      runWordOk s (mapArg2 s 63) = true ∧ bits (runEntry s (mapArg0 s 63)) 0 36 = bits (mapArg1 s 63) 0 36 ∧ ringFits s 1 = false) ∧
    (let s := mapS [(MAP_CMDn_ARG0_V, 99, 63), (MAP_CMDn_ARG0_V, 99, 0), (MAP_CMDn_CTL_OP, 2, 0)]
     let s := { s with map := { s.map with ringWait := [0] } }
     MapReady s 63 ∧ runWaits (mapTaken s 63 2) 63 = true) ∧
    (let s := mapS [(MAP_CMDn_ARG0_V, 4095, 63), (MAP_CMDn_ARG1_V, 1023, 63), (MAP_NSn_LBA_4K, 1, 4095), (MAP_NSn_RUN_COUNT, 2, 4095),
        (MAP_NSn_VALID, 1, 4095)]
     MapReady s 63 ∧ mapArg0 s 63 < 4096 ∧ nsValid s (mapArg0 s 63) = true ∧
      lbaSector s (mapArg0 s 63) (mapArg1 s 63) / 512 < nsRuns s (mapArg0 s 63) ∧
      (xlatKind (translate (mapTaken s 63 11) (nsBase s (mapArg0 s 63) + lbaSector s (mapArg0 s 63) (mapArg1 s 63) / 512)
        (lbaSector s (mapArg0 s 63) (mapArg1 s 63) % 512))).1 ≠ 15) := by
  unfold MapReady MapFree; decide +kernel

theorem witness_ExceptionsAndReruns :
    (let s := mapS [(MAP_CMDn_ARG0_V, 99, 63), (MAP_CMDn_ARG1_V, 511 * 2 ^ 48, 63), (MAP_CMDn_ARG2_V, mediaSec 511 77, 63)]
     MapReady s 63 ∧ MapFree s 63 3 ∧ runOk s 99 = true ∧ excReadable s 99 = true ∧ setBits (mapArg2 s 63) 63 1 1 = mediaSec 511 77 ∧
      bits (mapArg1 s 63) 48 9 = 511 ∧ eKind (mediaSec 511 77) ≠ 1 ∧ eSector (mediaSec 511 77) = 511 ∧
      511 + eSpan (mediaSec 511 77) ≤ 512 ∧ findEntry s (excPool s) 99 511 = none) ∧
    (let s := withExc (mapS [(MAP_CMDn_ARG0_V, 99, 63), (MAP_CMDn_ARG1_V, 511 * 2 ^ 48 + 55, 63), (MAP_CMDn_ARG2_V, mediaSec 511 77, 63)])
        99 [mediaSec 511 55]
     excReadable s 99 = true ∧ findEntry s (excPool s) 99 511 = some (0, 1, mediaSec 511 55) ∧ eKind (mediaSec 511 55) = 0 ∧
      eLoc (mediaSec 511 55) = bits (mapArg1 s 63) 0 48 ∧ ringFits s 1 = true ∧
      (setException (mapTaken s 63 3) 99 (mediaSec 511 77)).toOption.isSome = true) ∧
    (let s := mapS [(MAP_CMDn_ARG0_V, 99, 63), (MAP_CMDn_ARG1_V, 1 + 510 * 512, 63)]
     bits (mapArg1 s 63) 0 9 = 1 ∧ bits (mapArg1 s 63) 9 9 + 1 = 511 ∧ 1 + 511 ≤ 512 ∧ excReadable s 99 = true ∧ ringFits s 1 = true ∧
      (setException (mapTaken s 63 4) 99 (mkSpanEntry 2 1 511)).toOption.isSome = true ∧
      (setException (mapTaken s 63 5) 99 (mkSpanEntry 3 1 511)).toOption.isSome = true) ∧
    (let s := withExc (mapS [(MAP_CMDn_ARG0_V, 99, 63), (MAP_CMDn_ARG1_V, 20, 63)]) 99 ((List.range 7).map fun k => mediaSec (2 * k) k)
     excReadable s 99 = true ∧ bits (mapArg1 s 63) 0 9 = 20 ∧ bits (mapArg1 s 63) 9 9 + 1 = 1 ∧
      (match setException (mapTaken s 63 4) 99 (mkSpanEntry 2 20 1) with | .error (.poolFull, _) => true | _ => false) = true) ∧
    (let s := withExc (mapS [(MAP_CMDn_ARG0_V, 99, 63), (MAP_CMDn_ARG1_V, 20, 63)]) 5 [deadSec 0]
     excReadable s 99 = true ∧
      (match setException (mapTaken s 63 5) 99 (mkSpanEntry 3 20 1) with | .error (.probeFail, _) => true | _ => false) = true) ∧
    (let s := mapS [(MAP_CMDn_ARG0_V, 1, 0), (MAP_CMDn_ARG1_V, 33 + 64 * 5, 0)]
     MapReady s 0 ∧ jnlHard s = false ∧ runOk s (mapArg0 s 0) = true ∧ stgReadable s (mapArg0 s 0) = true ∧ tfree s.map.watches 0 4096 = some 0 ∧ mapArg0 s 0 < s.get MAP_STRIPE_COUNT_COUNT ∧
      ringFits s 1 = true ∧ bits (mapArg1 s 0) 0 6 ≤ 33) ∧
    (∀ d : Bool, let s := { mapS [(MAP_CMDn_ARG0_V, 4095, 0)] with map := { up.map with watches := [(4095, ⟨99, d, []⟩)] } }
     tget s.map.watches (mapArg0 s 0) = some ⟨99, d, []⟩ ∧ MapReady s 0 ∧ MapFree s 0 8 ∧ runWordOk s (mapArg1 s 0) = true ∧ excReadable s 99 = true ∧
      ringFits s 2 = true) := by
  unfold MapReady MapFree; decide +kernel

theorem witness_JournalPages :
    (let s := mapS []
     MapReady s 63 ∧ ringFits s 1 = true ∧ (openPage s).recs.length + 1 < pageRecs ∧ s.map.page = none ∧
      durableTo s s.map.lastClosed = true ∧ s.live = true ∧ s.on MAP_CTRL_ENABLE = true) ∧
    (let s := { mapS [(MAP_JNL_CFG_FLUSH_MS, 10, 0)] with map := { up.map with page := some aPage }, timeUs := 10000 }
     MapReady s 63 ∧ s.map.page = some aPage ∧ aPage.recs ≠ [] ∧ s.get MAP_JNL_CFG_FLUSH_MS ≠ 0 ∧
      aPage.firstUs + 1000 * s.get MAP_JNL_CFG_FLUSH_MS ≤ s.timeUs) ∧
    (let s := mapS []
     s.live = true ∧ s.on MAP_CTRL_ENABLE = true ∧ s.map.page = none ∧ ringUsed s < ringPages ∧ ringPages ≤ ringUsed (fullRing s) ∧
      (fullRing s).map.page = none) ∧
    (let s := { up with map := { up.map with closed := [⟨aPage, .programming 2, .programming 1⟩] } }
     s.live = true ∧ s.map.syncWait = [] ∧ s.map.ringWait = [] ∧ s.map.shutWait = false ∧ s.map.recov = none) ∧
    (let s := { up with map := { up.map with closed := [⟨aPage, .programming 1, .verified⟩] } }
     s.live = true ∧ s.map.syncWait = [] ∧ s.map.ringWait = [] ∧ s.map.shutWait = false ∧ s.map.recov = none) := by
  unfold MapReady; decide +kernel

theorem witness_MapRegisters :
    (let s := { mapS [] with map := { up.map with heldRows := [⟨1, 0, []⟩] } }
     s.live = true ∧ s.on MAP_CTRL_ENABLE = true ∧ s.hbm.probeWait = [] ∧ mayRetire s ⟨1, 0, []⟩ = true ∧ mayRetire s ⟨1, 1, []⟩ = false) ∧
    (up.map.rerun = [] ∧ ({ up with map := { up.map with rerun := [(7, 3)] } } : State).map.rerun = [(7, 3)]) ∧
    (let s := mapS [(MAP_NSn_VALID, 1, 7), (MAP_NSn_RUN_COUNT, 10, 7)]
     s.live = true ∧ bits (9 + 2 ^ 32 + 2 ^ 77) 77 1 = 1 ∧
      nsOverlaps s 4095 (bits (9 + 2 ^ 32 + 2 ^ 77) 0 29) (bits (9 + 2 ^ 32 + 2 ^ 77) 32 29) = true ∧
      nsOverlaps s 4095 (bits (10 + 90 * 2 ^ 32 + 2 ^ 77) 0 29) (bits (10 + 90 * 2 ^ 32 + 2 ^ 77) 32 29) = false ∧
      bits (10 + 90 * 2 ^ 32 + 2 ^ 77) 0 29 + bits (10 + 90 * 2 ^ 32 + 2 ^ 77) 32 29 = s.get MAP_RUN_LIMIT_RUN_COUNT ∧
      nsValid s 7 = true ∧ nsSlot s 7 = bits (10 + 90 * 2 ^ 32 + 2 ^ 77) 64 12 ∧
      nsSlot s 7 ≠ bits (10 + 90 * 2 ^ 32 + 5 * 2 ^ 64 + 2 ^ 77) 64 12 ∧ nsValid s 8 = false) ∧
    (let s := withPool up 3 8
     s.on MAP_CTRL_ENABLE = false ∧ s.map.ringBufs = [] ∧ (claim s 3 8).isSome = true) ∧
    (let s := { up with map := { up.map with ringBufs := [0] } }
     s.on MAP_CTRL_ENABLE = false ∧ s.map.ringBufs ≠ []) ∧
    ((w [(MAP_STATUS_READY, 1, 0)]).on MAP_STATUS_READY = true) ∧
    (let s := w [(MAP_CTRL_REPLAY, 1, 0)]
     s.on MAP_CTRL_REPLAY = true ∧ replayRecs s (s.get MAP_REPLAY_ADDR_ADDR * 65536) = none ∧ up.on MAP_CTRL_REPLAY = false) := by
  decide +kernel

/-- An operation of a die, and its running: what a poll last read of it is RDY and ARDY, or nothing yet. -/
def anOp (src : Src) (k : MKind) : MOp := ⟨src, k, 3, 3, false, 5 * 32768, 1, false, 0, 0, 0, false, [], none, 0, none⟩
def aRun (src : Src) (k : MKind) (susp ready : Bool) : Running := ⟨anOp src k, [], 0, 0, 0, 0, susp, 0, 0, false, none, ready⟩
def dieS (l : List (Fld × Nat × Nat)) (d : DieSt) : State := { w l with fch := { up.fch with dies := [(2047, d)] } }

/-- Dies at rest and one known channel. -/
def chS (l : List (Fld × Nat × Nat)) (ch : Nat) (c : ChSt) : State := { w l with fch := { up.fch with chans := [(ch, c)] } }

/-- A channel with eight dies at a training step. -/
def aCh (step : Nat) : ChSt := ⟨255, step, 0, false, false, false, 0, 0, 0, none, 0, 0, 0⟩

theorem chS_rests (l : List (Fld × Nat × Nat)) (k step ch : Nat) : ChannelsRest (chS l k (aCh step)) ch := by
  have hd : (chS l k (aCh step)).fch.dies = [] := rfl
  have hc : (chS l k (aCh step)).fch.chans = [(k, aCh step)] := rfl
  constructor
  · intro d _
    simp [DieIdle, dieOf, hd, tgetD, tget, emptyDie]
  · intro x
    simp only [chanOf, hc, tgetD, tget]
    split <;> simp_all [aCh] <;> split <;> simp_all

theorem witness_ChannelStates :
    (up.on FCH_GCTRL_ENABLE = false ∧ up.on FCH_DEN_CFG_ENABLE 15 = false ∧ vccqOk up 15 = false) ∧
    (let s := { chS [(FCH_GCTRL_ENABLE, 1, 0), (SYS_CTRL_SETT_ONLY, 0, 0)] 255 (aCh 0) with fch := { up.fch with chans := [(255, aCh 0)], vccq := [(15, 600)] } }
     s.on FCH_GCTRL_ENABLE = true ∧ vccqOk s 15 = true ∧ mayTrain s 255 = true ∧ (chanOf s 255).step = 0) ∧
    (let s := chS [] 255 (aCh 3)
     firstOrder s 255 [0x053977, 0xFAC688] = some 0xFAC688 ∧ firstOrder s 255 [1] = none ∧
      (∀ x ∈ denChans 15, (chanOf (chS [] 255 (aCh 6)) x).step = 0 ∨ 5 ≤ (chanOf (chS [] 255 (aCh 6)) x).step)) ∧
    (∀ k, k = 1 ∨ k = 2 ∨ k = 3 ∨ k = 4 ∨ k = 5 ∨ k = 6 →
      ChannelsRest (chS [(FCH_DEN_STATUS_ACTIVE, 1, 15)] 255 (aCh k)) 255 ∧
        (chanOf (chS [(FCH_DEN_STATUS_ACTIVE, 1, 15)] 255 (aCh k)) 255).step = k) ∧
    (orderOk 0xFAC688 = true ∧ (w [(FCH_DEN_STATUS_ACTIVE, 1, 15)]).on FCH_DEN_STATUS_ACTIVE (255 / 16) = true) ∧
    (let s := { chS [(FCH_CH_STATUS_TRAINED, 1, 255), (FCH_GCTRL_ENABLE, 1, 0), (FCH_DEN_CFG_ENABLE, 1, 15)] 255 (aCh 0) with
       timeUs := 600000000 }
     s.on FCH_GCTRL_ENABLE = true ∧ s.on FCH_DEN_CFG_ENABLE (255 / 16) = true ∧ retrainDue s 255 = true ∧ s.on FCH_CH_STATUS_TRAINED 255 = true ∧ chanQuiet s 255 = true ∧ (chanOf s 255).retraining = false ∧ (chanOf s 255).step = 0 ∧
      (chanOf s 255).contFault = false ∧ retrainSlot s 255 = true) ∧
    (let s := { dieS [(FCH_CH_STATUS_TRAINED, 1, 255)] { emptyDie with run := some (aRun .fch .erase false false) } with timeUs := 600000000 }
     retrainDue s 255 = true ∧ s.on FCH_CH_STATUS_TRAINED 255 = true ∧ chanQuiet s 255 = false) ∧
    (let s := chS [(FCH_DIEd_STATE, 1, 255), (FCH_GCTRL_ENABLE, 1, 0), (FCH_DEN_CFG_ENABLE, 1, 15)] 255 (aCh 0)
     Quiet s ∧ dieState s (255 * 8) = 1 ∧ dieEpoch s (255 * 8) < 0xFFFF ∧ (chanOf s 255).step = 0 ∧ (chanOf s 255).present ≠ 0 ∧
      (chanOf s 254).present = 0 ∧ s.on FCH_GCTRL_ENABLE = true ∧
      s.on FCH_DEN_CFG_ENABLE (255 / 16) = true ∧ s.on FCH_CH_STATUS_FENCED 255 = false) ∧
    ChannelsRest (chS [(FCH_DIEd_STATE, 1, 255), (FCH_GCTRL_ENABLE, 1, 0), (FCH_DEN_CFG_ENABLE, 1, 15)] 255 (aCh 0)) 255 := by
  refine ⟨?_, ?_, ?_, fun k h => ⟨chS_rests _ _ _ _, ?_⟩, ?_, ?_, ?_, ?_, chS_rests _ _ _ _⟩
  case refine_4 => rcases h with rfl | rfl | rfl | rfl | rfl | rfl <;> decide +kernel
  all_goals ((try unfold Quiet); decide +kernel)

theorem witness_DieStates :
    (let s := chS [(FCH_DIEd_STATE, 1, 255), (FCH_DIEd_EPOCH, 0xFFFE, 255)] 255 (aCh 0)
     Quiet s ∧ ChannelsRest s (chOf 2040) ∧ requalRuns s 2040 = false ∧ dieState s 2040 = 1 ∧ dieEpoch s 2040 < 0xFFFF) ∧
    (let s := chS [(FCH_DIEd_STATE, 1, 255), (FCH_DIEd_EPOCH, 0xFFFF, 255)] 255 (aCh 0)
     dieState s 2040 = 1 ∧ dieEpoch s 2040 = 0xFFFF ∧ dieState s 2040 ≠ 2 ∧ dieState s 2040 ≠ 4) ∧
    (let s := chS [(FCH_DIEd_STATE, 2, 255), (FCH_DIEd_EPOCH, 0xFFFF, 255), (FCH_DEN_STATUS_ACTIVE, 1, 15)] 255 (aCh 0)
     requalRuns s 2040 = false ∧ dieState s 2040 = 2 ∧ s.on FCH_DEN_STATUS_ACTIVE (denOf 2040) = true) ∧
    (let s := chS [(FCH_DIEd_STATE, 3, 255), (FCH_DIEd_EPOCH, 0xFFFF, 255), (FCH_DEN_STATUS_ACTIVE, 1, 15)] 255 (aCh 0)
     ChannelsRest s (chOf 2040) ∧ dieState s 2040 = 3 ∧ dieEpoch s 2040 = 0xFFFF) ∧
    (up.on FCH_GCTRL_LOCK = false ∧ (w [(FCH_GCTRL_LOCK, 1, 0)]).on FCH_GCTRL_LOCK = true) ∧
    (let s := chS [(FCH_DIEd_STATE, 4, 255)] 255 (aCh 0); requalRuns s 2040 = false ∧ dieState s 2040 = 4) ∧
    (let s := { w [(FCH_MODELm_ID_VALID, 1, 7), (FCH_MODELm_GEOM_CELL, 2, 7)] with
       fch := { up.fch with dies := [(2047, { emptyDie with requal := some 3 })] } }
     (dieOf s 2047).requal = some 3 ∧ s.on FCH_CH_STATUS_FENCED (chOf 2047) = false ∧ dieEpoch s 2047 < 0xFFFF ∧
      requalRuns s 2047 = true ∧ matchModel s ⟨7, true, [], [0], 4, 16384, 2048⟩ = some 7 ∧ s.get FCH_DEN_STATUS_RATE (denOf 2047) ≠ 5 ∧
      (let f := s.set FCH_CH_STATUS_FENCED 1 (chOf 2047)
       (dieOf f 2047).requal = some 3 ∧ DieIdle f 2047 ∧ f.on FCH_CH_STATUS_FENCED (chOf 2047) = true ∧
        matchModel f ⟨7, true, [], [0], 4, 16384, 2048⟩ = some 7 ∧ f.get FCH_DEN_STATUS_RATE (denOf 2047) ≠ 5)) := by
  refine ⟨⟨?_, chS_rests _ _ _ _, ?_⟩, ?_, ?_, ⟨chS_rests _ _ _ _, ?_⟩, ?_⟩ <;> (try unfold Quiet) <;> (try unfold DieIdle) <;> decide +kernel

theorem witness_DieOperations :
    (let s := dieS [(FCH_GCTRL_ENABLE, 1, 0), (FCH_DEN_CFG_ENABLE, 1, 15), (FCH_DEN_STATUS_ACTIVE, 1, 15), (FCH_CH_STATUS_TRAINED, 1, 255),
       (FCH_DEN_TOKENS_BUDGET, 100, 15)] { emptyDie with queue := [anOp (.desc 15 0) .erase] }
     s.live = true ∧ chanRuns s 2047 = true ∧ nextOp s 2047 = some (anOp (.desc 15 0) .erase) ∧
      tokensFor s 2047 (anOp (.desc 15 0) .erase) = true ∧ busTurn s 2047 = true ∧ RingRests s (denOf 2047) ∧ (dieOf s 2047).run = none) ∧
    (∀ o, o = (Src.desc 15 0, MKind.erase) ∨ o = (Src.desc 15 0, MKind.readStatus) ∨ o = (Src.fch, MKind.reset) → ∀ ready : Bool,
     let s := { dieS [(FLT_CLASSc_CFG_N, 0, 0), (FLT_CLASSc_CFG_N, 0, 1)] { emptyDie with run := some (aRun o.1 o.2 false ready) } with
       timeUs := 2 ^ 30 }
     s.live = true ∧ Quiet s ∧ answering (dieOf s 2047) = some (aRun o.1 o.2 false ready) ∧
      staleOp s 2047 (aRun o.1 o.2 false ready) = false ∧ RingRests s (denOf 2047) ∧
      (ready = false → o.2 ≠ .readStatus → pollDue s 2047 (aRun o.1 o.2 false ready) = true ∧
        pollExpired s 2047 (aRun o.1 o.2 false ready) = true) ∧
      s.get FLT_CLASSc_CFG_N 0 = 0 ∧ s.get FLT_CLASSc_CFG_N 1 = 0) ∧
    (let s := dieS [(FCH_DIEd_EPOCH, 1, 255)] { emptyDie with run := some (aRun (.desc 15 0) .erase false true) }
     staleOp { s with regs := rset s.regs FCH_DIEd_EPOCH 1 255 7 } 2047 (aRun (.desc 15 0) .erase false true) = true) ∧
    (∀ x, (chanOf up x).contWait = none ∧ (chanOf up x).retrain = false) ∧
    (let s := dieS [(FCH_GCTRL_ENABLE, 1, 0), (FCH_DEN_CFG_ENABLE, 1, 15), (FCH_DEN_STATUS_ACTIVE, 1, 15), (FCH_CH_STATUS_TRAINED, 1, 255),
         (FCH_MODELm_GEOM_ESUSP, 1, 0)]
       { emptyDie with queue := [{ anOp .fch .read with urgent := true }], run := some (aRun (.desc 15 0) .erase false false) }
     s.live = true ∧ maySuspend s 2047 = true ∧ chanRuns s 2047 = true) ∧
    (let s := { dieS [] { emptyDie with queue := [anOp (.desc 15 0) .erase] } with timeUs := 2 ^ 40 }
     s.live = true ∧ (dieOf s 2047).queue[0]? = some (anOp (.desc 15 0) .erase) ∧ agedNow s (denOf 2047) (anOp (.desc 15 0) .erase) = true) ∧
    (let s := dieS [] { emptyDie with run := some (aRun (.desc 15 0) .erase true false) }
     s.live = true ∧ mayResume s 2047 = true) := by
  refine ⟨?_, ?_, ?_, fun x => by simp [chanOf, up, State.reset, tgetD, tget], ?_, ?_, ?_⟩
  case refine_2 => rintro o (rfl | rfl | rfl) (_ | _) <;> unfold Quiet RingRests <;> decide +kernel
  all_goals (try unfold RingRests); decide +kernel

/-! ## Rings, CDC, TRK, HBM -/

theorem witness_DescriptorRings :
    (up.on FCH_GCTRL_ENABLE = false ∧ 0 < ringSize up 15 ∧ ringSize up 15 - 1 < ringSize up 15 ∧ ringSize up 15 ≤ ringSize up 15) ∧
    (let s := w [(FCH_GCTRL_ENABLE, 1, 0), (FCH_DEN_RING_CFG_ENABLE, 1, 15), (FCH_DEN_RING_CFG_SIZE_LOG2, 4, 15), (FCH_DEN_RING_HEAD_INDEX, 15, 15),
       (CDC_CTRL_ENABLE, 1, 0)]
     s.on FCH_GCTRL_ENABLE = true ∧ s.on FCH_DEN_RING_CFG_ENABLE 15 = true ∧ 0 < ringSize s 15 ∧ 0 < 2 ^ FCH_DEN_RING_TAIL_INDEX.width ∧
      0 = (s.get FCH_DEN_RING_HEAD_INDEX 15 + 1) % ringSize s 15 ∧ s.get FCH_DEN_RING_HEAD_INDEX 15 ≠ 0 ∧
      descKind (readLeD s (descAddr s 15 (s.get FCH_DEN_RING_HEAD_INDEX 15)) 1) = none ∧ s.on CDC_CTRL_ENABLE = true) := by
  decide +kernel

/-- A read of the host that knows its stripe row. -/
def aRead : MOp := { anOp .fch .read with cls := 1, eff := 1, home := some (0, 0, 5) }

/-- A stripe whose members, all on die 0, are active or not. -/
def memS (act : Nat) (l : List (Fld × Nat × Nat)) : State :=
  { w ([(FCH_DIEd_STATE, act, 0), (MAP_STRIPE_BASE_BASE, 256, 0), (MAP_STRIPE_COUNT_COUNT, 2, 0), (CDC_CTRL_ENABLE, 1, 0),
      (FCH_MODELm_GEOM_BLOCKS, 100, 0), (FCH_MODELm_GEOM_PAGES, 100, 0)] ++ l) with
    fch := { up.fch with chans := [(0, aCh 0)] } }

theorem witness_CodecWork :
    (∀ b : Bool, let r : Recon := ⟨.early, aRead, 0, 0, 5, [], [], false, true⟩
     let s := { memS 1 [] with cdc := { up.cdc with recons := [(3, r)] }, fch := { (memS 1 []).fch with flushing := b } }
     s.live = true ∧ tget s.cdc.recons 3 = some r ∧ r.kind ≠ .spent ∧ reconQueued s 3 r = false ∧ s.fch.flushing = b ∧ r.members = [] ∧
      ((activeMembers s 0 5 false).take 32).length = 32 ∧
      (∀ p ∈ (activeMembers s 0 5 false).take 32, mediaValid s (memberOp s 3 r p).media = true) ∧
      (activeMembers (memS 2 []) 0 5 false).length < 32) ∧
    ((w [(CDC_RA_CFG_RECHECK, 0, 0)]).get CDC_RA_CFG_RECHECK = 0) ∧
    (∀ b : Bool, let d : DieSt := { emptyDie with queue := [aRead], run := some (aRun .fch .erase false false) }
     let s := { memS 1 [(CDC_RA_CFG_RECHECK, 1, 0), (CDC_RA_CFG_ENABLE, 1, 0), (CDC_RA_CFG_THRESHOLD, 0, 0), (CDC_RA_CFG_MARGIN, 0, 0),
        (FCH_MODELm_TIME0_T_R, 50, 0), (FCH_MODELm_TIME1_T_BERS, 9000, 0), (FCH_MODELm_GEOM_ESUSP, 0, 0)] with
       fch := { up.fch with dies := [(8, d)] }, cdc := { up.cdc with level := if b then 32 * 1024 else 32 * 1024 - 1 } }
     s.get CDC_RA_CFG_RECHECK ≠ 0 ∧ s.on CDC_RA_CFG_ENABLE = true ∧ s.on CDC_CTRL_ENABLE = true ∧ s.fch.dies = [(8, d)] ∧
      aRead.home = some (0, 0, 5) ∧ overrun s 8 = false ∧
      s.get CDC_RA_CFG_THRESHOLD < predWaitBehind s 8 false [] ∧ 32 ≤ (activeMembers s 0 5 false).length ∧
      (((activeMembers s 0 5 false).take 32).map fun p => predWaitMode s (memberDie (memberWord s 0 p)) false).foldl max 0
        + s.get CDC_RA_CFG_MARGIN < predWaitBehind s 8 false [] ∧ budgetHolds s = b) ∧
    (up.on CDC_CTRL_ENABLE = false ∧ up.cdc.copies = [] ∧ ∀ n, n < 16 → up.on CDC_RBn_CTL_GO n = false ∧ up.on FCH_DEN_RING_CFG_ENABLE n = false) := by
  decide +kernel

/-- A staged sector that goes to a row of an open pSLC stripe. -/
def rowS : State :=
  let s := { fdpS with
    sys := { fdpS.sys with image := { fdpS.sys.image with fdp := false } }
    nvm := { fdpS.nvm with handles := [], ruStripe := [] }
    media := { fdpS.media with marks := [(0, ⟨[], []⟩)] } }
  writeLe s (256 * 4096) 8 1

/-- The row of that sector, sealed. -/
def rowSealed (s : State) : List (List Byte) × List StagedItem × State := sealStaged s 0 0 [fdpY]

set_option maxRecDepth 1000000 in
theorem witness_CodecWork_rows :
    (let s := rowS
     s.live = true ∧ s.on CDC_CTRL_ENABLE = true ∧ copyOfRow s 0 0 = none ∧ 0 < s.get MAP_STRIPE_COUNT_COUNT ∧
      rowFor s 0 0 = some (.pslc, [fdpY]) ∧ rowOpen s 0 0 = true ∧ s.cdc.accs = []) ∧
    (let r := rowSealed rowS
     r.2.1 ≠ [] ∧ ((startRow r.2.2 0 0 (rowPages r.2.2.cdc.rowSeq r.1) r.2.1 none).map fun u => u.cdc.accs.length) = some 1) := by
  decide +kernel

/-- That sector while every accumulator is busy. -/
def stallS : State := { rowS with cdc := { rowS.cdc with accs := List.replicate accCount ⟨1, 0, [], [], [], [], false, none, []⟩ } }

/-- A stripe that is not free is not opened again. -/
theorem openHost_used {s : State} {stripe : Nat} (h : stripeState (stripeHdr s stripe) ≠ 0) : openHost s stripe = s := by
  unfold openHost; rw [if_pos (.inr (.inl h))]

set_option maxRecDepth 1000000 in
theorem witness_CodecWork_stall :
    openHost rowS 0 = rowS ∧ openHost stallS 0 = stallS ∧ accCount ≤ stallS.cdc.accs.length ∧ copyOfRow stallS 0 0 = none ∧
      rowFor stallS 0 0 = some (.pslc, [fdpY]) ∧ rowOpen stallS 0 0 = true ∧ (rowSealed stallS).2.1 ≠ [] := by
  refine ⟨openHost_used ?_, openHost_used ?_, ?_⟩ <;> decide +kernel

theorem witness_RebuildAndCopySlots :
    (let s := writeLe (memS 1 [(CDC_RBn_ROWS_COUNT, 7, 15), (CDC_RBn_SRC_POSITION, 33, 15), (CDC_RBn_DST_DIE, 2047, 15), (FCH_DIEd_STATE, 1, 255),
        (MAP_OWNER_BASE_BASE, 1024, 0)]) (256 * 4096) 8 (1 + 4 + 7 * 16)
     s.live = true ∧ s.on CDC_RBn_CTL_GO 15 = false ∧ (rebuildOf s 15).running = false ∧ s.on CDC_CTRL_ENABLE = true ∧
      dieState { s with regs := rset s.regs FCH_DIEd_STATE 1 255 7 } 2047 = 1 ∧
      rebuildArgsOk { s with regs := rset s.regs FCH_DIEd_STATE 1 255 7 } 15 = true ∧ rebuildArgsOk s 15 = false) ∧
    (let s := { memS 1 [(CDC_RB_CFG_MAX_ROWS, 4, 0)] with cdc := { up.cdc with rebuilds := [(15, ⟨true, false, false, [], [], [], [], 0, 0, 0, 0, 0⟩)] } }
     (rebuildOf s 15).running = true ∧ (rebuildOf s 15).inRow = false ∧ rebuildRows s < s.get CDC_RB_CFG_MAX_ROWS ∧
      dieState s (s.get CDC_RBn_DST_DIE 15) = 1 ∧ ((activeMembers s (s.get CDC_RBn_SRC_STRIPE 15) (s.get CDC_RBn_SRC_POSITION 15)
          (stripeMode (stripeHdr s (s.get CDC_RBn_SRC_STRIPE 15)) = 0)).take 32).length = 32) ∧
    (let s := { memS 2 [(CDC_RB_CFG_MAX_ROWS, 4, 0)] with cdc := { up.cdc with rebuilds := [(15, ⟨true, false, false, [], [], [], [], 0, 0, 0, 0, 0⟩)] } }
     dieState s (s.get CDC_RBn_DST_DIE 15) ≠ 1) ∧
    (∀ b : Bool, let s := { w [(CDC_RBn_CTL_GO, 1, 15)] with cdc := { up.cdc with rebuilds := [(15, ⟨true, false, b, [], [], [], [], 0, 0, 0, 0, 0⟩)] } }
     s.on CDC_RBn_CTL_GO 15 = true ∧ (rebuildOf s 15).inRow = b) ∧
    (up.on CDC_CPn_CTL_GO 31 = false ∧ up.on CDC_CTRL_ENABLE = false ∧ (w [(CDC_CTRL_ENABLE, 1, 0)]).on CDC_CTRL_ENABLE = true ∧
      up.get CDC_CPn_COUNT_COUNT 31 = 0) ∧
    (let s := writeLe (memS 1 [(CDC_CPn_COUNT_COUNT, 1, 31), (CDC_CPn_LIST_ADDR, 1, 31)]) (256 * 4096) 8 (1 + 4)
     s.on CDC_CTRL_ENABLE = true ∧ s.get CDC_CPn_COUNT_COUNT 31 ≠ 0 ∧ s.get CDC_CPn_COUNT_COUNT 31 ≤ 512 ∧ s.fch.flushing = false ∧
      copyEntries s (s.get CDC_CPn_LIST_ADDR 31 * 64) (s.get CDC_CPn_COUNT_COUNT 31) = some [⟨0, 0, 0, false, 0, 0, 0⟩] ∧
      copyArgsOk s 0 (s.get CDC_CPn_DST_STRIPE 31) (s.get CDC_CPn_DST_ROW 31) [⟨0, 0, 0, false, 0, 0, 0⟩] = true ∧ dieState s (mediaDie 0) = 1) ∧
    (dieState (memS 1 []) ((memS 1 []).get CDC_CPn_DST_STRIPE 31 % 2048) = 1 ∧ dieState (memS 2 []) ((memS 2 []).get CDC_CPn_DST_STRIPE 31 % 2048) ≠ 1) ∧
    (∀ b : Bool, let y : CopySlot := ⟨0, false, 0, 0, 0, 0, [], [], true, b, []⟩
     tget ({ up with cdc := { up.cdc with copies := [(31, y)] } } : State).cdc.copies 31 = some y) := by
  decide +kernel

theorem witness_Tracking :
    (up.on TRK_CTRL_ENABLE = false ∧ (claim up 3 16).isNone = true ∧ (claim (withPool up 3 16) 3 16).isSome = true ∧
      (withPool up 3 16).on TRK_CTRL_ENABLE = false ∧ up.on TRK_CTRL_TH_ENABLE = false ∧ up.on TRK_THn_CFG_ENABLE 19 = false) ∧
    (let s := w [(TRK_CTRL_TH_ENABLE, 1, 0), (TRK_BANK_SWAP, 1, 0), (TRK_BANK_PENDING, 1, 0)]
     s.live = true ∧ s.on TRK_CTRL_TH_ENABLE = true ∧ s.on TRK_BANK_PENDING = true ∧ up.on TRK_BANK_PENDING = false) ∧
    (let s := w [(TRK_CTRL_ENABLE, 1, 0), (TRK_CMDn_ARG0_V, 65535 + 3 * 65536, 15)]
     TrkReady s 15 ∧ bits (s.get TRK_CMDn_ARG0_V 15) 0 16 = 65535 ∧ bits (s.get TRK_CMDn_ARG0_V 15) 16 2 = 3) ∧
    (let s := w [(TRK_CTRL_ENABLE, 1, 0), (TRK_CMDn_ARG0_V, 2047 + 16383 * 2048, 15)]
     TrkReady s 15 ∧ bits (s.get TRK_CMDn_ARG0_V 15) 16 2 = 3 ∧ bits (s.get TRK_CMDn_ARG0_V 15) 0 11 = 2047 ∧
      bits (s.get TRK_CMDn_ARG0_V 15) 11 14 = 16383 ∧ readByte s (ageAddr s 2047 16383) = some 0 ∧ (ageBand s 2047 16383).1 = some 0) ∧
    (let s := w [(TRK_CTRL_ENABLE, 1, 0), (TRK_CMDn_ARG0_V, 2 * 65536, 15)]
     TrkReady s 15 ∧ bits (s.get TRK_CMDn_ARG0_V 15) 16 2 ≠ 3) := by
  unfold TrkReady; decide +kernel

theorem witness_HbmWork :
    (hbmEnd - 1 < hbmEnd ∧ bits (up.get HBM_PC_FAILED_FAILED) (pcOf (hbmEnd - 1)) 1 = 0 ∧ findWin up (hbmEnd - 1) 0 16 = none) ∧
    (let s := w [(HBM_WINw_BASE_EN, 1, 15), (HBM_WINw_SIZE_PAGES, 2, 15), (HBM_WINw_PAR_PAR, 2, 15)]
     (findWin s 8191 0 16).isSome = true ∧ (findWin s 8192 0 16).isNone = true ∧ bits (s.get HBM_PC_FAILED_FAILED) (pcOf 8191) 1 = 0) ∧
    (up.live = true ∧ up.on HBM_CTRL_LOCK = false ∧ ∀ v, v < 16 → up.on HBM_WINw_BASE_EN v = false) ∧
    (let s := w [(HBM_WINw_BASE_EN, 1, 15), (HBM_WINw_SIZE_PAGES, 2, 15), (HBM_WINw_SIZE_PAGES, 1, 0), (HBM_WINw_PAR_PAR, 2, 15),
       (HBM_WINw_BASE_BASE, 1, 0), (HBM_WINw_PAR_PAR, 9, 0)]
     s.on HBM_CTRL_LOCK = false ∧ s.on HBM_WINw_BASE_EN 15 = true ∧
      (winRanges s 0).any (fun a => (winRanges s 15).any fun b => overlap a b) = true) ∧
    (∀ b : Bool, let s := { up with hbm := { up.hbm with fixed := b } }
     s.live = true ∧ s.on HBM_CTRL_ENABLE = false ∧ s.hbm.fixed = b) ∧
    (up.on HBM_CTRL_ENABLE = false ∧ (energyUnits (up.get HBM_HOLDUP_ENERGY_MJ) < 4 ∨ ceilCap up < 4) ∧
      releasable up 0 = false ∧ up.get HBM_PC_FAILED_FAILED = 0 ∧ up.on BUR_CTRL_ENABLE = false) ∧
    (let s := { mapS [] with hbm := { up.hbm with stg := [(1048575, ⟨0, 0, 0, 0, true, false, 0, 0, false⟩)] } }
     releasable s 1048575 = true) := by
  decide +kernel

/-! ## Burrow, BPM, UDM, CRY, CPR -/

/-- An enabled Burrow of 64 frames; slot 7 with arguments. -/
def burS (l : List (Fld × Nat × Nat)) : State :=
  w ([(BUR_CTRL_ENABLE, 1, 0), (MAP_RUN_LIMIT_RUN_COUNT, 100, 0), (MAP_CTRL_ENABLE, 1, 0), (BUR_FRAMES_COUNT, 64, 0), (BUR_IDX_BASE_BASE, 256, 0), (BUR_ADMIT_HAND_MAX, 8, 0)] ++ l)

/-- A segment admitted to the Burrow: its frame, filling. -/
def admitted (l : List (Fld × Nat × Nat)) (run seg : Nat) : Nat × State :=
  let r := admitSeg (burS l) run seg
  (r.1.getD 0, r.2)

theorem witness_Burrow :
    (up.on BUR_CTRL_ENABLE = false ∧ (claim up 3 16).isNone = true ∧ (claim (withPool up 3 16) 3 16).isSome = true ∧
      (withPool up 3 16).on BUR_CTRL_ENABLE = false) ∧
    ((burS []).on BUR_CTRL_ENABLE = true ∧
      (burS []).bur.agedUs + 1000000 * (burS []).get BUR_AGE_PERIOD_S ≤ ({ burS [] with timeUs := 2 ^ 60 } : State).timeUs) ∧
    (let a := admitted [] 99 31
     tget a.2.bur.fills a.1 = some ⟨99, 31, [], false, 0, none⟩ ∧ frameState (frameWord a.2 a.1) = frFilling) ∧
    (let a := admitted [] 99 31
     let x : Fill := ⟨99, 31, (List.range 16).map fun k => (k, []), false, 0, none⟩
     let s := { a.2 with bur := { a.2.bur with fills := [(a.1, x)] } }
     tget s.bur.fills a.1 = some x ∧ frameState (frameWord s a.1) = frFilling ∧ x.got.length = 16 ∧ x.pin = false) ∧
    (let s := { up with bur := { up.bur with fills := [(3, ⟨0, 0, [], false, 0, none⟩)] } }
     (tget s.bur.fills 3).isSome = true ∧ frameState (frameWord s 3) ≠ frFilling) ∧
    (let x : Ctx := { ctxIn 1 2 .running with left := 1 }
     let s := { holds (hostNs []) [(9, x)] with bur := { up.bur with readers := [(3, 9, 0)] } }
     s.bur.readers = [(3, 9, 0)] ∧ ctxOf s 9 = some x ∧ x.stage = .running ∧ (srcSector s (.host 9 0)).isSome = true ∧
      (frameSector s 3 0).isSome = true) ∧
    (let s := burS [(BUR_CMDn_ARG0_V, 99 + 31 * 2 ^ 29, 7), (BUR_CMDn_ARG1_V, 2, 7)]; burSpanBad s 7 = true) ∧
    (let s := burS [(BUR_CMDn_ARG0_V, 99 + 31 * 2 ^ 29, 7), (BUR_CMDn_ARG1_V, 1, 7)]
     burSpanBad s 7 = false ∧ (∀ y ∈ burSpan s 7, burFrame s y.1 y.2 = none) ∧ bits (s.get BUR_CMDn_ARG1_V 7) 0 29 ≠ 0 ∧
      burRun s 7 + bits (s.get BUR_CMDn_ARG1_V 7) 0 29 = s.get MAP_RUN_LIMIT_RUN_COUNT ∧ burRun s 7 < s.get MAP_RUN_LIMIT_RUN_COUNT) ∧
    (let a := admitted [(BUR_CMDn_ARG0_V, 99 + 31 * 2 ^ 29, 7), (BUR_CMDn_ARG1_V, 1, 7)] 99 31
     let s := setFrameState a.2 a.1 frValid
     burSpanBad s 7 = false ∧ burSpan s 7 = [(99, 31)] ∧ burFrame s 99 31 = some a.1 ∧ frameState (frameWord s a.1) = frValid ∧
      framePin (frameWord s a.1) = false) := by
  decide +kernel

/-- A PIN whose segment is resident ends at once, and one whose segment is being filled waits. -/
theorem witness_Pin :
    (let a := admitted [(BUR_CMDn_ARG0_V, 99 + 31 * 2 ^ 29, 7), (BUR_CMDn_ARG1_V, 1, 7), (BUR_AVAIL_COUNT, 64, 0), (BUR_PIN_LIMIT_PCT, 50, 0)] 99 31
     (let s := setFrameState a.2 a.1 frValid
      s.on BUR_CMDn_CTL_GO 7 = false ∧ burSpanBad s 7 = false ∧
        (pinAll ((s.set BUR_CMDn_CTL_OP 2 7).set BUR_CMDn_CTL_GO 1 7) (burSpan s 7)).1.gens = []) ∧
      (pinAll ((a.2.set BUR_CMDn_CTL_OP 2 7).set BUR_CMDn_CTL_GO 1 7) (burSpan a.2 7)).1.gens ≠ []) := by
  decide +kernel

theorem witness_Buffers :
    (poolsOk up = true ∧ up.on BPM_CTRL_ENABLE = false ∧ poolsOk (w [(BPM_POOLn_CFG_SIZE, 0, 3)]) = false) ∧
    (let s := withPool (w [(BPM_CTRL_ENABLE, 1, 0)]) 0 16
     s.on BPM_CTRL_ENABLE = true ∧ (bufferFor s 4096).isSome = true ∧ (poolTake s 0).isSome = true) ∧
    (let s := withPool (w [(BPM_CTRL_ENABLE, 1, 0), (BPM_POOLn_STATE_REBUILDING, 1, 2)]) 2 16
     s.on BPM_CTRL_ENABLE = true ∧ s.on BPM_POOLn_STATE_REBUILDING 2 = true ∧ (poolTake (endRebuild s 2) 2).isSome = true) ∧
    (let s := w [(BPM_CTRL_ENABLE, 1, 0)]
     s.on BPM_POOLn_STATE_REBUILDING 3 = false ∧ (bufferFor s 4096).isNone = true ∧ (allocRead s 3).isNone = true ∧ s.bpm.waiters = [] ∧ poolOf s 0 = none ∧
      poolOf s (poolBase s 1 + 1) = some 1 ∧ (poolBase s 1 + 1 - poolBase s 1) % poolSize s 1 ≠ 0) ∧
    (∀ b : Bool, let s := { w [(BPM_CTRL_ENABLE, 1, 0), (BPM_POOLn_STATE_REBUILDING, b2n b, 1)] with bpm := { up.bpm with used := [poolBase up 1] } }
     s.bpm.waiters = [] ∧ poolOf s (poolBase s 1) = some 1 ∧ (poolBase s 1 - poolBase s 1) % poolSize s 1 = 0 ∧
      s.bpm.used.contains (poolBase s 1) = true ∧ s.on BPM_POOLn_STATE_REBUILDING 1 = b ∧ up.bpm.used.contains (poolBase up 1) = false) ∧
    (let s := w [(BPM_POOLn_STATE_REBUILDING, 1, 3)]
     s.on BPM_POOLn_STATE_REBUILDING 3 = true ∧ s.bpm.freeQ = [] ∧ s.bpm.waiters = []) ∧
    (∀ m, m = 255 ∨ m = 1 → let s := { up with bpm := { up.bpm with merges := [⟨2, 8, m⟩], bad := [8] } }
     s.bpm.merges = [⟨2, 8, m⟩] ∧ 8 ∈ s.bpm.bad) ∧
    ((w [(BPM_GRPg_STATE_SWEEP, 1, 38)]).on BPM_GRPg_STATE_SWEEP 38 = true) := by
  refine ⟨?_, ?_, ?_, ?_, ?_, ?_, ?_, ?_⟩
  case refine_7 => rintro m (rfl | rfl) <;> decide +kernel
  all_goals decide +kernel

/-- Channel 127 of UDM in a state, its descriptor at address 4096 given as its first 24 bytes. -/
def udmS (st : Nat) (desc : List Nat) : State :=
  writeLe (writeLe (writeLe (w [(UDM_CTRL_ENABLE, 1, 0), (UDM_CHc_STATUS_STATE, st, 127), (UDM_CHc_RING_BASE_BASE, 128, 127),
    (UDM_CHc_RING_CFG_COUNT, 1, 127)]) 4096 8 (desc.getD 0 0)) 4104 8 (desc.getD 1 0)) 4112 8 (desc.getD 2 0)

theorem witness_UtilityDma :
    (let s := udmS 3 []
     s.on UDM_CTRL_ENABLE = true ∧ udmState s 127 = 3 ∧ udmWaiting s (127 / 16) = [] ∧ s.on UDM_ENGe_STATE_BUSY (127 / 16) = false ∧
      (w [(UDM_CTRL_ENABLE, 1, 0), (UDM_ENGe_STATE_BUSY, 1, 7)]).on UDM_ENGe_STATE_BUSY (127 / 16) = true ∧ udmState up 127 = 0) ∧
    (udmState (udmS 1 []) 127 = 1 ∧ udmState (udmS 2 []) 127 = 2) ∧
    (let s := udmS 2 []
     s.get UDM_CHc_INDEX_INDEX 127 = 0 ∧ s.get UDM_CHc_RING_CFG_COUNT 127 = 1 ∧ s.on UDM_CHc_CTL_CIRC 127 = false ∧
      s.on UDM_CHc_CTL_STOP 127 = false ∧ udmWaiting s (127 / 16) = [] ∧ s.get UDM_CHc_RING_BASE_BASE 127 * 32 = 4096 ∧ 4096 + 32 ≤ hbmEnd ∧
      readBytes s 4096 32 = some (List.replicate 32 0) ∧ findWin s (4096 + 21) 0 16 = none ∧
      bits (s.get HBM_PC_FAILED_FAILED) (pcOf (4096 + 21)) 1 = 0 ∧ udmDescOk (udmDesc (List.replicate 32 0)) = false) ∧
    (let s := udmS 2 [8, sramEnd - 8, 8 + 27 * 2 ^ 32]
     (readBytes s 4096 32).map udmDesc = some ⟨8, sramEnd - 8, 8, 3, 3, false, false⟩ ∧ 8 % 8 = 0 ∧ (sramEnd - 8) % 8 = 0 ∧
      sramBase ≤ sramEnd - 8 ∧ (readBytes s 8 8).isSome = true) := by
  decide +kernel

/-- A key slot's command 3 with its slot and address. -/
def keyS (k a : Nat) (l : List (Fld × Nat × Nat)) : State :=
  w ([(CRY_CTRL_ENABLE, 1, 0), (CRY_KCMDn_ARG0_SLOT, k, 3), (CRY_KCMDn_ARG1_ADDR, a, 3)] ++ l)

/-- What the key wrap of a blob unwraps to is opaque: the clauses of IMPORT go through each of its answers. -/
theorem witness_KeyStore :
    (∀ b : Bool, let s := keyS 4095 0 [(CRY_ENT_OK, b2n b, 0), (CRY_SLOTs_STATE_OLD_VALID, b2n b, 4095)]
     s.on CRY_CTRL_ENABLE = true ∧ keyArg s 3 = 4095 ∧ s.on CRY_ENT_OK = b ∧ s.on CRY_SLOTs_STATE_OLD_VALID 4095 = b ∧
      curPos s 4095 ≤ 1 ∧ tget s.cry.changeover 4095 = none) ∧
    (tget ({ up with cry := { up.cry with changeover := [(4095, [1])] } } : State).cry.changeover 4095 = some [1]) ∧
    (let s := keyS 4095 (hbmEnd - 160) [(CRY_SLOTs_STATE_VALID1, 1, 4095)]
     (keyValid s 4095 0 = true ∨ keyValid s 4095 1 = true) ∧ blobAddrOk (keyAddr s 3) = true ∧
      readBytes s (keyAddr s 3) 160 = some (List.replicate 160 0) ∧ leAt (List.replicate 160 0) 0 2 ≠ 0x6B59) ∧
    (blobAddrOk (keyAddr (keyS 0 (hbmEnd - 128) []) 3) = false ∧ keyValid up 4095 0 = false ∧ keyValid up 4095 1 = false) ∧
    (let s := writeLe (keyS 7 64 []) 64 8 (0x6B59 + 7 * 2 ^ 16 + 2 ^ 32)
     blobAddrOk (keyAddr s 3) = true ∧ ((readBytes s (keyAddr s 3) 160).map fun b => (leAt b 0 2, leAt b 2 2, leAt b 4 1)) = some (0x6B59, 7, 1)) ∧
    (let s := keyS 63 0 [(CRY_DKd_CFG_LABEL_LEN, 32, 63)]
     keyArg s 3 = 63 ∧ 1 ≤ s.get CRY_DKd_CFG_LABEL_LEN 63 ∧ s.get CRY_DKd_CFG_LABEL_LEN 63 = 32 ∧ dkLabel s 63 ≠ ascii "KEY-WRAP") ∧
    (keyArg (keyS 64 0 []) 3 = 64 ∧ up.get CRY_DKd_CFG_LABEL_LEN 63 = 0 ∧
      dkLabel (w [(CRY_DKd_CFG_LABEL_LEN, 8, 63), (CRY_DKd_LABEL_LABEL, leNat (ascii "KEY-WRAP"), 63)]) 63 = ascii "KEY-WRAP") := by
  decide +kernel

/-- Whether the tag in memory is the one that the opaque cipher makes is one of the two clauses of OPEN. -/
theorem witness_SealsAndEntropy :
    (let s := w [(CRY_CTRL_ENABLE, 1, 0), (CRY_GCMn_LEN_LEN, 16777217, 15)]
     s.on CRY_CTRL_ENABLE = true ∧ gcmArgsOk s 15 = false) ∧
    (let s := w [(CRY_CTRL_ENABLE, 1, 0)]; gcmArgsOk s 15 = true ∧ s.get CRY_DKd_CFG_STATE (gcmDk s 15) = 0) ∧
    (let s := w [(CRY_CTRL_ENABLE, 1, 0), (CRY_GCMn_KEY_DK, 63, 15), (CRY_DKd_CFG_STATE, 1, 63), (CRY_DKd_COUNT_COUNT, 2 ^ 32, 63)]
     gcmArgsOk s 15 = true ∧ s.get CRY_DKd_CFG_STATE (gcmDk s 15) ≠ 0 ∧ s.get CRY_DKd_COUNT_COUNT (gcmDk s 15) = 2 ^ 32) ∧
    (let s := w [(CRY_CTRL_ENABLE, 1, 0), (CRY_GCMn_KEY_DK, 63, 15), (CRY_DKd_CFG_STATE, 1, 63), (CRY_DKd_COUNT_COUNT, 2 ^ 32 - 1, 63),
        (CRY_GCMn_LEN_LEN, 32, 15), (CRY_GCMn_OUT_ADDR, 64, 15), (CRY_GCMn_TAG_ADDR, 128, 15)]
     gcmArgsOk s 15 = true ∧ s.get CRY_DKd_COUNT_COUNT (gcmDk s 15) ≠ 2 ^ 32 ∧ readBytes s (s.get CRY_GCMn_AAD_ADDR 15) (gcmAadLen s 15) = some [] ∧
      (readBytes s (s.get CRY_GCMn_IN_ADDR 15) (gcmLen s 15)).isSome = true ∧ (readBytes s (s.get CRY_GCMn_TAG_ADDR 15) 16).isSome = true) ∧
    (∀ b : Bool, ({ up with cry := { up.cry with entHeld := b } } : State).cry.entHeld = b) ∧
    (drbgLimit ≤ ({ up with cry := { up.cry with drbgReqs := drbgLimit } } : State).cry.drbgReqs) := by
  decide +kernel

theorem witness_CompressionJobs :
    (let s := w [(CPR_CTRL_ENABLE, 1, 0)]
     s.on CPR_JOBn_CTL_GO 15 = false ∧ s.on CPR_CTRL_ENABLE = true ∧ cprArgsOk (s.set CPR_JOBn_CTL_OP 1 15) 15 = false) ∧
    (∀ b : Bool, let s := w [(CPR_CTRL_ENABLE, 1, 0), (CPR_JOBn_LEN_SRC_LEN, 64, 15), (CPR_JOBn_LEN_DST_LEN, 64, 15), (CPR_JOBn_DST_ADDR, 64, 15),
        (CPR_ENG_OFF, if b then 7 else 15, 0)]
     cprArgsOk (s.set CPR_JOBn_CTL_OP 1 15) 15 = true ∧ hasEngine s 15 = b) ∧
    (let s := { w [(CPR_CTRL_ENABLE, 1, 0), (CPR_JOBn_CTL_PRIO, 1, 15)] with cpr := { up.cpr with waiting := [2, 15] } }
     engineOff s 3 = false ∧ tget s.cpr.running 3 = none ∧ nextJob s 3 = some 15) ∧
    (let s := { w [(CPR_JOBn_CTL_OP, 1, 15), (CPR_JOBn_LEN_SRC_LEN, 64, 15), (CPR_JOBn_LEN_DST_LEN, 64, 15)] with cpr := { up.cpr with running := [(3, 15)] } }
     tget s.cpr.running 3 = some 15 ∧ (jobResult s 15 true).1 = 0 ∧ (jobResult s 15 false).1 = 2 ∧ 15 ∉ s.cpr.waiting) ∧
    (let s := { w [(CPR_JOBn_CTL_OP, 1, 15), (CPR_JOBn_LEN_SRC_LEN, 1, 15), (CPR_JOBn_LEN_DST_LEN, 64, 15)] with cpr := { up.cpr with running := [(3, 15)] } }
     (jobResult s 15 true).1 ≠ 0 ∧ (jobResult s 15 true).1 ≠ 2) ∧
    (cprBusy (w [(CPR_JOBn_CTL_GO, 1, 15)]) = true ∧ cprBusy up = false ∧ tableOk (ltabLens up 7) = false ∧
      tableOk (ltabLens (w [(CPR_LTABt_W_LEN, 1, 7)]) 7) = true) := by
  decide +kernel

theorem witness_CompressionRoundTrip : 3 < 4 ∧ 4095 < 4096 ∧ 1 ≤ ([7] : List Byte).length ∧ ([7] : List Byte).length ≤ 1048576 ∧
    (cprDecode [] 0 (cprEncode 3 0 4095 [] 0 [7])).toOption = some [7] := by
  decide +kernel

/-- The three states the TAP's statement names, each with a step that leaves the shift states. -/
theorem witness_TapController :
    (let s := { up with tap := { up.tap with st := .shiftDr, drShift := [true, false] } }
     s.tap.st = .shiftDr ∧ ∃ t, exec (.tckRisingEdge true true []) s = .next t ∧ t.tap.drShift = [true, true] ∧
       t.tap.st ≠ .shiftDr ∧ t.tap.st ≠ .shiftIr) ∧
    (let s := { up with tap := { up.tap with st := .captureDr, ir := 0x01 } }
     s.tap.st = .captureDr ∧ s.tap.ir = 0x01) ∧
    (let s := { up with tap := { up.tap with st := .captureDr, ir := 0xFF } }
     s.tap.st = .captureDr ∧ (s.tap.ir = 0xFF ∨ 0x0A ≤ s.tap.ir)) ∧
    (let s := { up with tap := { up.tap with st := .captureDr, ir := 0x0A } }
     s.tap.st = .captureDr ∧ (s.tap.ir = 0xFF ∨ 0x0A ≤ s.tap.ir)) := by
  refine ⟨⟨by decide +kernel, _, rfl, ?_⟩, ?_⟩ <;> decide +kernel

/-! ## MBX, OOB, FLT, registers -/

/-- A mailbox channel 255 bound between core 0 and a receiver. -/
def mbxS (rcv full : Nat) : State :=
  w [(MBX_CTRL_ENABLE, 1, 0), (MBX_BINDc_VALID, 1, 255), (MBX_BINDc_SENDER, 0x100, 255), (MBX_BINDc_RECEIVER, rcv, 255),
    (MBX_BINDc_DB_BIT, 31, 255), (MBX_BINDc_TMO, 100, 255), (MBX_CHc_STATE_FULL, full, 255)]

theorem witness_Mailboxes :
    (let s := mbxS 0x13F 1
     s.on MBX_CTRL_ENABLE = true ∧ maySend s 0x100 255 = true ∧ s.on MBX_CHc_STATE_FULL 255 = true ∧ mayTake s 0x13F 255 = true ∧
      maySend s 0x101 255 = false ∧ mayTake s 0x101 255 = false) ∧
    (let s := mbxS 0x13F 0
     s.on MBX_CHc_STATE_FULL 255 = false ∧ receiverGone s (chReceiver s 255) = false ∧ dbIndex (chReceiver s 255) = some 63 ∧
      s.get MBX_BINDc_DB_BIT 255 < 32 ∧ mayTake s 0x13F 255 = true) ∧
    (let s := mbxS 255 0
     maySend s 0x100 255 = true ∧ s.on MBX_CHc_STATE_FULL 255 = false ∧ receiverGone s (chReceiver s 255) = true ∧
      (let s := (mbxS 0 0).set HIF_FNf_STATE_PRESENT 1 0; receiverGone s (chReceiver s 255) = false ∧ chReceiver s 255 = 0)) ∧
    (up.on MBX_CTRL_ENABLE = false) ∧
    (∀ b : Bool, let s := { mbxS 0x13F (b2n b) with mbx := { up.mbx with timers := [(255, 5)] } }
     tget s.mbx.timers 255 = some 5 ∧ s.on MBX_CHc_STATE_FULL 255 = b ∧ s.timeUs < 5 ∧ 5 ≤ ({ s with timeUs := 5 } : State).timeUs) := by
  decide +kernel

theorem witness_Cores :
    (let s := w [(MBX_COREn_CTL_STATE, 2, 63), (MBX_COREn_CTL_STATE, 2, 0), (MBX_COREn_WDOG_PERIOD, 1, 63)]
     coreState s 63 = 2 ∧ s.get MBX_COREn_WDOG_PERIOD 63 ≠ 0 ∧ wdogUs s 63 < s.get MBX_COREn_WDOG_PERIOD 63 ∧
      s.get MBX_COREn_WDOG_PERIOD 63 ≤ 2 * wdogUs { s with timeUs := 1 } 63 ∧
      s.get MBX_COREn_WDOG_PERIOD 63 ≤ wdogUs { s with timeUs := 1 } 63 ∧ nextRunning s 63 = some 0 ∧ wdogRuns s 63 = true) ∧
    (let s := w [(MBX_COREn_CTL_STATE, 2, 63)]; coreState s 63 = 2 ∧ nextRunning s 63 = none) ∧
    (let s := w [(MBX_COREn_CTL_STATE, 3, 63)]; coreState s 63 = 3) ∧
    (let s := w [(MBX_COREn_CTL_STATE, 1, 63)]
     coreState s 63 = 1 ∧ s.get MBX_COREn_IMAGE_BASE 63 * 4096 + 0x80000 ≤ hbmEnd ∧
      readByte s (s.get MBX_COREn_IMAGE_BASE 63 * 4096 + 0x7FFFF) = some 0) := by
  decide +kernel

/-- Bytes from numbers. -/
def bs (l : List Nat) : List Byte := l.map fun k => BitVec.ofNat 8 k

/-- An endpoint that answers on both ports, and one packet of one message. -/
def oobS (l : List (Fld × Nat × Nat)) : State :=
  w ([(SYS_BOOT_STAGE, 6, 0), (OOB_CFG_SMB_EN, 1, 0), (OOB_CFG_VDM_EN, 1, 0), (OOB_ADDR_SMB_ADDR, 0x1D, 0), (OOB_ADDR_EID0, 9, 0),
    (OOB_ADDR_EID1, 10, 0), (HIF_LINKl_STATUS_UP, 1, 7)] ++ l)
def aPacket (dst : Nat) : List Nat := [1, dst, 8, 0xC8, 0x84]
def anSmb (dst : Nat) : List Byte := let b := bs ([0x3A, 0x0F, 6, 0x21] ++ aPacket dst); b ++ natLe (crc8 b) 1

/-- A message of NVMe-MI with its check, and one without it: kind, opcode, two data words, and the request that holds it. -/
def miMsg (kind op d0 d1 : Nat) : List Byte := bs [0x84, kind * 8, 0, 0, op, 0, 0, 0] ++ natLe d0 4 ++ natLe d1 4
def sealed (m : List Byte) : List Byte := m ++ natLe (crc32c m) 4
def aReqOf (m : List Byte) : OobReq := ⟨0, 8, 0, m, none, 0⟩
def wholeS (l : List (Fld × Nat × Nat)) (port : Nat) (m : List Byte) (slots : Tbl OobReq) : State :=
  { oobS l with oob := { up.oob with whole := [(port, aReqOf m)], slots := slots } }

theorem witness_OobMessages :
    (smbUp (oobS []) = true ∧ 9 ≤ (anSmb 9).length ∧ byteAt (anSmb 9) 0 = (oobS []).get OOB_ADDR_SMB_ADDR * 2 ∧
      (∀ d, d ∈ [0, 9] → crc8 ((anSmb d).take ((anSmb d).length - 1)) = byteAt (anSmb d) ((anSmb d).length - 1) ∧ byteAt (anSmb d) 1 = 0x0F ∧
        byteAt (anSmb d) 2 = (anSmb d).length - 4 ∧ ((anSmb d).drop 4).take ((anSmb d).length - 5) = bs (aPacket d)) ∧
      5 ≤ (bs (aPacket 9)).length ∧ byteAt (bs (aPacket 9)) 0 % 16 = 1 ∧ byteAt (bs (aPacket 9)) 1 = oobEid (oobS []) 0 ∧
      bits (byteAt (bs (aPacket 9)) 3) 3 1 = 1 ∧ 128 ≤ byteAt (bs (aPacket 9)) 3 ∧ bits (byteAt (bs (aPacket 9)) 3) 6 1 = 1 ∧
      byteAt (bs (aPacket 9)) 4 % 128 = 4) ∧
    (let b := (anSmb 9).take 9 ++ natLe (crc8 ((anSmb 9).take 9) + 1) 1
     9 ≤ b.length ∧ byteAt b 0 = (oobS []).get OOB_ADDR_SMB_ADDR * 2 ∧ crc8 (b.take (b.length - 1)) ≠ byteAt b (b.length - 1)) ∧
    (oobUp (oobS []) = true ∧ (oobS []).on OOB_CFG_VDM_EN = true ∧ (oobS []).on HIF_LINKl_STATUS_UP 7 = true ∧
      byteAt (bs (aPacket 10)) 1 = oobEid (oobS []) 1 ∧ (2 ≠ 0 ∧ (2 ≠ 2 ∨ false = false))) ∧
    (let m := miMsg 1 1 0 0
     let s := wholeS [(OOB_CTRL_FW_READY, 1, 0)] 1 (sealed m) []
     oobEid s 1 ≠ 0 ∧ byteAt (sealed m) 0 % 128 = 4 ∧ 12 ≤ (sealed m).length ∧ 128 ≤ byteAt (sealed m) 0 ∧
      (sealed m).take ((sealed m).length - 4) = m ∧ crc32c m = fieldAt (sealed m) ((sealed m).length - 4) 4 ∧ byteAt m 1 < 128 ∧
      miSlot s 1 m = some 2 ∧ s.on OOB_CTRL_FW_READY = true ∧ miStatus m = 0 ∧ miStatus (miMsg 1 9 0 0) ≠ 0 ∧
      (oobS []).on OOB_CTRL_FW_READY = false) ∧
    (let m := miMsg 1 1 0 0
     let s := wholeS [] 1 (sealed m) [(2, aReqOf m), (3, aReqOf m)]
     miSlot s 1 m = none) ∧
    (let m := miMsg 1 1 0 0; let x := m ++ natLe (crc32c m + 1) 4
     x.take (x.length - 4) = m ∧ 12 ≤ x.length ∧ 128 ≤ byteAt x 0 ∧ byteAt x 0 % 128 = 4 ∧ crc32c m ≠ fieldAt x (x.length - 4) 4) := by
  decide +kernel

theorem witness_OobControl :
    (∀ c, c ∈ [1, 2, 4, 5] → let s := wholeS [] 1 (bs [0, 0x80, c, 0, 254]) []
     s.oob.whole = [(1, aReqOf (bs [0, 0x80, c, 0, 254]))] ∧ byteAt (bs [0, 0x80, c, 0, 254]) 0 % 128 = 0 ∧
      byteAt (bs [0, 0x80, c, 0, 254]) 2 = c) ∧
    (byteAt (bs [0, 0x80, 1, 1, 254]) 3 % 4 < 2 ∧ 8 ≤ byteAt (bs [0, 0x80, 1, 1, 254]) 4 ∧ byteAt (bs [0, 0x80, 1, 1, 254]) 4 < 255 ∧
      byteAt (bs [0, 0x80, 1, 1, 255]) 4 = 255 ∧ byteAt (bs [0, 0x80, 1, 1, 7]) 4 < 8 ∧ 2 ≤ byteAt (bs [0, 0x80, 1, 2, 9]) 3 % 4 ∧
      byteAt (bs [0, 0x80, 4, 1]) 3 ∉ [0, 4, 0xFF]) ∧
    (let s := { oobS [(OOB_CFG_BASIC_ADDR, 0x6A, 0)] with oob := { up.oob with alert := true } }
     smbUp s = true ∧ s.get OOB_CFG_BASIC_ADDR ≠ 0 ∧ s.oob.alert = true) ∧
    (up.on OOB_STATUS_SMB_SWAPPED = false ∧ (w [(OOB_STATUS_SMB_SWAPPED, 1, 0)]).on OOB_STATUS_SMB_SWAPPED = true) := by
  decide +kernel

/-- A machine whose slot 3 holds a request. -/
def slotS (l : List (Fld × Nat × Nat)) (r : OobReq) : State := { oobS l with oob := { up.oob with slots := [(3, r)] } }

/-- A tunnelled admin command for a controller. -/
def tunMsg (op cntl : Nat) : List Byte := bs [0x84, 0x10, 0, 0, op, 0] ++ natLe cntl 2 ++ List.replicate 60 0

theorem witness_OobSlots :
    (∀ op, op ∈ [0, 1, 2, 3, 4, 5, 6, 7] → let r := aReqOf (miMsg 1 op 0 0)
     let s := slotS [] r
     tget s.oob.slots 3 = some r ∧ miKind r.msg = 1 ∧ miOp r.msg = op) ∧
    (bits (reqD1 (aReqOf (miMsg 1 1 0 0))) 31 1 = 0 ∧ bits (reqD1 (aReqOf (miMsg 1 1 0 (2 ^ 31)))) 31 1 = 1) ∧
    (let r := aReqOf (miMsg 1 4 (3 + 2 ^ 24) 0)
     (miGet (slotS [] r) (reqD0 r)).isSome = true ∧ miGet (slotS [] r) (reqD0 (aReqOf (miMsg 1 4 (3 + 2 * 2 ^ 24) 0))) = none) ∧
    (let r := aReqOf (miMsg 1 3 (3 + 2 ^ 24) 1024)
     setBefore (slotS [] r) r = false ∧ (miSet (slotS [] r) (reqD0 r) (reqD1 r)).isSome = true ∧
      (miSet (slotS [] r) (reqD0 r) 1025).isSome = false ∧ setBefore (slotS [] r) { r with arrived := 1 } = true) ∧
    (let r := aReqOf (miMsg 1 5 255 1)
     (miVpdRead (slotS [] r) (reqD0 r) (reqD1 r)).isSome = true ∧ miVpdRead (slotS [] r) 255 2 = none) ∧
    (let r := aReqOf (tunMsg 6 225)
     let s := slotS [(HIF_FNf_STATE_PRESENT, 1, 224), (NVME_CC_EN, 1, 224), (CMD_FWQ_CFG_ENABLE, 1, 0)] r
     let x : Ctx := { ctx0 224 0 0 with
       sqe := tunnelSqe r.msg, seq := s.cmd.seq, stage := .running, tunnel := some 3, left := 0, got := [(0, r.msg.drop 68)] }
     tget s.oob.slots 3 = some r ∧ miKind r.msg = 2 ∧ r.ctx = none ∧ fieldAt r.msg 6 2 = 225 ∧ fnPresent s (225 - 1) = true ∧
      s.on NVME_CC_EN (225 - 1) = true ∧ tunnelRefused (tunnelSqe r.msg) = false ∧ tfree s.cmd.ctxs ctxTunnel 8 = some ctxTunnel ∧
      entryStatus s ctxTunnel x = 0 ∧ miOp r.msg ≠ 8 ∧ fwqRoom s = true ∧ fwqRoom (slotS [] r) = false) ∧
    (let r := aReqOf (tunMsg 0x55 225)
     let s := slotS [(HIF_FNf_STATE_PRESENT, 1, 224), (NVME_CC_EN, 1, 224)] r
     let x : Ctx := { ctx0 224 0 0 with
       sqe := tunnelSqe r.msg, seq := s.cmd.seq, stage := .running, tunnel := some 3, left := 0, got := [(0, r.msg.drop 68)] }
     tunnelRefused (tunnelSqe r.msg) = false ∧ entryStatus s ctxTunnel x ≠ 0) ∧
    (let r := aReqOf (tunMsg 6 257); fieldAt r.msg 6 2 = 257 ∧ 256 < fieldAt r.msg 6 2) ∧
    (let r : OobReq := { aReqOf (tunMsg 6 225) with ctx := some ctxTunnel }
     let x : Ctx := { ctx0 224 0 0 with stage := .committed, tunnel := some 3 }
     let s := holds (slotS [] r) [(ctxTunnel, x)]
     tget s.oob.slots 3 = some r ∧ miKind r.msg = 2 ∧ ctxOf s ctxTunnel = some x ∧ x.stage = .committed) := by
  decide +kernel

theorem witness_FaultMonitor :
    (elemClass 0x0980 = some 6 ∧ elemClass 0x0986 = some 9 ∧ elemClass 0x0987 = none) ∧
    (let s := w [(FLT_CLASSc_CFG_N, 1, 6), (FLT_CLASSc_CFG_N, 0, 9), (FLT_ELEMe_LASTING, 1, 0x0984)]
     s.get FLT_CLASSc_CFG_N 6 = 1 ∧ s.get FLT_CLASSc_CFG_N 9 = 0 ∧ s.on FLT_ELEMe_LASTING 0x0984 = true ∧ s.on FLT_ELEMe_LASTING 0x0983 = false ∧
      s.get FLT_ELEMe_WIN_CNT 0x0983 = 0) ∧
    ((w [(FLT_LOG_SEQ_SEQ, 2 ^ 32 - 1, 0)]).get FLT_LOG_SEQ_SEQ = 2 ^ 32 - 1) := by
  decide +kernel

theorem witness_RegisterWrites :
    (FullMaster 0x100 ∧ FullMaster 0x13F ∧ FullMaster 0x1C0) ∧
    (up.get MAP_RUN_LIMIT_RUN_COUNT < 2 ^ 29 ∧ up.on MAP_CTRL_LOCK = false ∧ 483183616 ≤ 483183616 ∧ 483183616 < 483183617 % 2 ^ 29 ∧
      (w [(MAP_CTRL_LOCK, 1, 0)]).on MAP_CTRL_LOCK = true ∧ bits 2 1 1 = 1 ∧ bits 128 7 1 = 1) ∧
    (isMem (hbmEnd - 8) 8 = true ∧ isMem (hbmEnd - 8) 9 = false ∧ isWindow 0xF003000FF8 = true ∧ 0xF003000FF8 % 8 = 0 ∧ regAt 0xF003000FF8 = none ∧
      (w [(MBX_COREn_CTL_STATE, 2, 63)]).get MBX_COREn_CTL_STATE (0x13F - 0x100) = 2) ∧
    (memOn up 255 = false ∧ 65528 + 8 ≤ 65536 ∧ 65528 + 8 ≤ bar0Bytes up 255 ∧
      (∀ b : Bool, let s := w ([(HIF_LINKl_STATUS_UP, 1, 0)] ++ if b then [(HIF_CTRL_ENABLE, 1, 0), (HIF_PORTp_CFG_ENABLE, 1, 0), (HIF_FNf_STATE_PRESENT, 1, 0)] else [])
       s.on HIF_LINKl_STATUS_UP (linkOf s 0) = true ∧ fnPresent s 0 = b ∧ isPf s 0 = true ∧ s.on HIF_FNf_STATE_FLR_BUSY 0 = false ∧
        tgetD s.hif.perstUs (0 / 64) 0 ≤ s.timeUs ∧ (s.set HIF_FNf_STATE_FLR_BUSY 1 0).on HIF_FNf_STATE_FLR_BUSY 0 = true ∧
        s.timeUs < tgetD ({ s with hif := { s.hif with perstUs := [(0, 20000)] } } : State).hif.perstUs (0 / 64) 0) ∧
      (let s := w [(HIF_CTRL_ENABLE, 1, 0), (HIF_FNf_STATE_PRESENT, 1, 0), (HIF_FNf_STATE_MSE, 1, 0), (HIF_PORTp_CFG_ENABLE, 1, 0),
         (HIF_LINKl_CFG_MSIX_PF, 2048, 0)]
       memOn s 0 = true ∧ s.get NVME_AQA_ASQS 0 < 2 ^ 12 ∧ s.get NVME_AQA_ACQS 0 < 2 ^ 12 ∧ bits (1 + 4095 * 65536) 0 12 = 1 ∧
        bits (1 + 4095 * 65536) 16 12 = 4095 ∧ vecCount s 0 = 2048 ∧ fnPresent s 0 = true ∧ isPf s 0 = true)) := by
  unfold FullMaster; decide +kernel

end Sys2Proof.Tests
end

section
/-! SUPPORT. Proofs of the family 01_architecture.md: the idle step, the power-fail flush, and the reads of one sector. The layers
in between say what a lookup sees and leaves, and what serving a sector does to its command; they hold for every sector of a
command. -/

namespace Sys2Proof.Proofs.Architecture

open Sys2Proof Sys2Proof.Machine Sys2Proof.Safety

/-! ## The idle step -/

/-- Settles O2: an empty queue leaves only the idle step, which moves the timer clock. -/
theorem idleStep : Obligations.IdleStep := by
  intro s hs
  refine ⟨idle s, ?_, rfl, rfl⟩
  rw [step, hs]

/-! ## The power-fail flush: what a hold keeps -/

/-- A fold of steps that each keep a part of the state keeps it. -/
theorem foldl_keeps {α β : Type} (p : State → β) (f : State → α → State) (hf : ∀ s x, p (f s x) = p s) (l : List α)
    (s : State) : p (l.foldl f s) = p s :=
  List.foldlRecOn l f (motive := fun t => p t = p s) rfl fun t ht x _ => (hf t x).trans ht

theorem setWp_sys (s : State) (den : Nat) (level : Bool) : (setWp s den level).sys = s.sys := by
  unfold setWp
  split <;> rfl

@[simp] theorem wpLow_sys (s : State) : (wpLow s).sys = s.sys :=
  foldl_keeps State.sys _ (fun s d => setWp_sys s d false) _ _

@[simp] theorem countOpenErases_sys (s : State) : (countOpenErases s).sys = s.sys := by
  unfold countOpenErases
  split
  · rfl
  · exact foldl_keeps State.sys (fun s key => wearAdd s key 2) (fun _ _ => rfl) _ _

@[simp] theorem alertOff_sys (s : State) : (alertOff s).sys = s.sys := by
  unfold alertOff
  split <;> rfl

/-- A hold keeps whether the Sett is clean (R52). -/
@[simp] theorem resetBlocks_clean (s : State) : (resetBlocks s).sys.sett.clean = s.sys.sett.clean := by
  simp [resetBlocks, keptSett, keepPages]

/-- The hold that ends a flush, before THERM_TRIP_N (R391). -/
def flushHeld (s : State) : State := updPs (holdBlocks (s.set PWR_STATE_FLUSH_ACTIVE 0))

/-- What a thermal shutdown adds at the end of a flush lies in the output and in PWR's own state. -/
theorem tripped_keeps (t : State) (b : Bool) (p : PwrSt) {u : State}
    (h : u = if b then tripOn { t with pwr := p } else { t with pwr := p }) : u.phase = t.phase ∧ u.regs = t.regs ∧ u.sys = t.sys := by
  subst h
  cases b <;> exact ⟨rfl, rfl, rfl⟩

/-- The end of a flush is that hold, whatever a thermal shutdown adds. -/
theorem endFlush_keeps (s : State) : (endFlush s).phase = (flushHeld s).phase ∧ (endFlush s).regs = (flushHeld s).regs ∧
    (endFlush s).sys = (flushHeld s).sys := tripped_keeps (flushHeld s) s.pwr.thermal _ rfl

theorem holdBlocks_regs (s : State) : (holdBlocks s).regs = (resetBlocks s).regs := by rw [holdBlocks]

theorem updPs_regs (s : State) : (updPs s).regs = rset s.regs PWR_STATE_PS (effState s) 0 0 := rfl

/-- PWR_STATE.PS is a register of PWR. -/
theorem keptCell_ps (v : Nat) : keptCell ⟨PWR_STATE_PS.id, 0, 0, v⟩ = true := by
  change keptCell ⟨PWR_STATE_PS.id, 0, 0, 0⟩ = true
  decide

theorem flushHeld_phase (s : State) : (flushHeld s).phase = .held := by
  rw [flushHeld, updPs, State.set_phase, holdBlocks]

theorem flushHeld_clean (s : State) : (flushHeld s).sys.sett.clean = s.sys.sett.clean := by
  rw [flushHeld, updPs, State.set_sys, holdBlocks, resetBlocks_clean, State.set_sys]

/-- Only SYS and PWR cells differ from reset: those that the hold leaves, and PWR_STATE.PS. -/
theorem flushHeld_kept (s : State) : ∀ c ∈ (flushHeld s).regs, keptCell c = true := by
  rw [flushHeld, updPs_regs, holdBlocks_regs]
  intro c hc
  rcases mem_rset _ _ _ _ _ _ hc with hps | hold
  · rw [hps, keptCell_ps]
  · exact resetBlocks_kept _ _ hold

@[simp] theorem endFlush_phase (s : State) : (endFlush s).phase = .held :=
  (endFlush_keeps s).1.trans (flushHeld_phase s)

@[simp] theorem endFlush_clean (s : State) : (endFlush s).sys.sett.clean = s.sys.sett.clean := by
  obtain ⟨_, _, hsys⟩ := endFlush_keeps s
  rw [hsys, flushHeld_clean]

theorem endFlush_kept (s : State) : ∀ c ∈ (endFlush s).regs, keptCell c = true := by
  obtain ⟨_, hregs, _⟩ := endFlush_keeps s
  rw [hregs]
  exact flushHeld_kept s

/-- The blocks are held, and every register outside the SYS and PWR windows is at its reset value. -/
def HeldClean (t : State) : Prop := t.phase = .held ∧ ∀ c ∈ t.regs, keptCell c = true

/-- The end of a flush within the reach of a hold. -/
theorem heldClean_endFlush (s u : State) : HeldClean (confine .reset s (endFlush u)) := by
  refine ⟨endFlush_phase u, fun c hc => ?_⟩
  rcases mem_blend _ _ _ _ hc with hc | ⟨_, hc⟩
  · exact endFlush_kept u c hc
  · rw [reset_reg] at hc
    exact Bool.noConfusion hc

/-- A flush that ends without a SHUTDOWN page leaves the Sett not clean (R391). -/
theorem endFlush_noShutdownPage (s u : State) : (confine .reset s (endFlush (noShutdownPage u))).sys.sett.clean = false :=
  endFlush_clean _

/-! ## The power-fail flush: starts -/

/-- A flush runs from a cause: it is active, its cause is recorded, and its energy starts from 0 (R389, R390). -/
structure FlushRuns (t : State) (cause : Nat) : Prop where
  active : t.get PWR_STATE_FLUSH_ACTIVE = 1
  recorded : t.get PWR_STATE_CAUSE = cause
  flagged : t.get PWR_STATUS_FLUSH = 1
  energy : t.get PWR_FLUSH_ENERGY_MJ = 0

/-- Where no flush runs, a trigger starts one with its cause. -/
theorem flushRuns_startFlush (s : State) (cause : Nat) (hc : cause < 4) (h : s.on PWR_STATE_FLUSH_ACTIVE = false) :
    FlushRuns (startFlush s cause) cause := by
  rw [startFlush, if_neg (by simp [h])]
  constructor <;> simp only [State.get_eq, State.set_regs]
  case active => exact rget_rset_same _ _ _ _ _
  case recorded =>
    rw [rget_rset_id _ _ _ _ (by decide), rget_rset_same]
    exact Nat.mod_eq_of_lt hc
  case flagged => rw [rget_rset_id _ _ _ _ (by decide), rget_rset_id _ _ _ _ (by decide), rget_rset_same]; rfl
  case energy =>
    rw [rget_rset_id _ _ _ _ (by decide), rget_rset_id _ _ _ _ (by decide), rget_rset_id _ _ _ _ (by decide), rget_rset_same]; rfl

/-- The registers of PWR lie in the reach of the start of a flush. -/
theorem flushRuns_confine (s t : State) (cause : Nat) (h : FlushRuns t cause) : FlushRuns (confine .flushStart s t) cause where
  active := (rget_blend_in _ _ _ _ _ _ (by decide)).trans h.active
  recorded := (rget_blend_in _ _ _ _ _ _ (by decide)).trans h.recorded
  flagged := (rget_blend_in _ _ _ _ _ _ (by decide)).trans h.flagged
  energy := (rget_blend_in _ _ _ _ _ _ (by decide)).trans h.energy

/-- A trigger during a flush joins it: only PWR's own state may change. -/
theorem startFlush_joins (s : State) (cause : Nat) (h : s.on PWR_STATE_FLUSH_ACTIVE = true) :
    ∃ p, startFlush s cause = { s with pwr := p } := by
  rw [startFlush, if_pos h]
  exact ⟨_, rfl⟩

/-- A command whose effect is none changes nothing. -/
theorem within_confine_self (r q : Reach) (s : State) : Within q s (confine r s s) := by
  constructor
  case regs =>
    intro f i j _
    rw [State.get_eq, confine_regs, rget_blend, ite_self]; rfl
  all_goals simp

/-- PFAIL_N with the rails in range (R389). -/
theorem exec_pfailAssert (s : State) (h : s.phase ≠ .off) :
    exec .pfailAssert s = .next (confine .flushStart s (if s.phase = .running then startFlush s 1 else s)) :=
  actPwr_on _ _ _ h

/-- The loss of REFCLK_MAIN while the cores run (R20). -/
theorem exec_clockLoss (s : State) (h : s.phase = .running) :
    exec .clockLoss s = .next (confine .flushStart s (startFlush (s.set SYS_STATUS_CLK_LOSS 1) 2)) := by
  have hs : (s.set SYS_STATUS_CLK_LOSS 1).phase = .running := h
  change execClockLoss s = _
  rw [execClockLoss, actPwr_on _ _ _ (by simp [h])]
  exact congrArg (fun u => Host.Outcome.next (confine .flushStart s u)) (if_pos hs)

/-- DONE of a flush that runs (R391). -/
theorem exec_flushDone (s : State) (h : s.phase ≠ .off) (ha : s.on PWR_STATE_FLUSH_ACTIVE = true) :
    exec .flushDone s = .next (confine .reset s (endFlush (exportKeys (saveHealth (s.set PWR_FLUSH_CTL_DONE 1))))) := by
  refine (actPwr_on _ _ _ h).trans ?_
  rw [if_pos ha]

/-- FLUSH_LIMIT ms of a flush that runs (R391). -/
theorem exec_flushLimit (s : State) (h : s.phase ≠ .off) (ha : s.on PWR_STATE_FLUSH_ACTIVE = true)
    (ht : s.pwr.flushUs + 1000 * s.get PWR_CFG_FLUSH_LIMIT ≤ s.timeUs) :
    exec .flushLimit s = .next (confine .reset s (endFlush (noShutdownPage s))) := by
  refine (actPwr_on _ _ _ h).trans ?_
  rw [if_pos ⟨ha, ht⟩]

/-- The end of holdover of a flush that the loss of the clock caused (R20, R391). -/
theorem exec_holdoverEnd (s : State) (h : s.phase ≠ .off) (ha : s.on PWR_STATE_FLUSH_ACTIVE = true)
    (hc : s.get PWR_STATE_CAUSE = 2) (ht : s.pwr.flushUs + 30000 ≤ s.timeUs) :
    exec .holdoverEnd s = .next (confine .reset s (endFlush (noShutdownPage s))) := by
  refine (actPwr_on _ _ _ h).trans ?_
  rw [if_pos ⟨ha, hc, ht⟩]

/-- PFAIL_N starts a flush while the cores run (R389). -/
theorem pfailAssert_starts (s : State) (hr : s.phase = .running) (hf : s.on PWR_STATE_FLUSH_ACTIVE = false) :
    ∃ t, exec .pfailAssert s = .next t ∧ FlushRuns t 1 ∧ t.phase = .running := by
  refine ⟨_, exec_pfailAssert s (by simp [hr]), ?_, hr⟩
  rw [if_pos hr]
  exact flushRuns_confine _ _ _ (flushRuns_startFlush s 1 (by decide) hf)

/-- The loss of REFCLK_MAIN starts a flush while the cores run (R20, R389). -/
theorem clockLoss_starts (s : State) (hr : s.phase = .running) (hf : s.on PWR_STATE_FLUSH_ACTIVE = false) :
    ∃ t, exec .clockLoss s = .next t ∧ FlushRuns t 2 ∧ t.phase = .running := by
  refine ⟨_, exec_clockLoss s hr, flushRuns_confine _ _ _ (flushRuns_startFlush _ 2 (by decide) ?_), hr⟩
  rw [State.on_eq, State.set_regs, rget_rset_id _ _ _ _ (by decide)]
  exact hf

/-- PFAIL_N during a flush joins it (R389). -/
theorem pfailAssert_joins (s : State) (hr : s.phase = .running) (hf : s.on PWR_STATE_FLUSH_ACTIVE = true) :
    ∃ t, exec .pfailAssert s = .next t ∧ OnlyFields [] s t ∧ t.mem = s.mem ∧ t.out = s.out ∧ t.phase = .running := by
  obtain ⟨p, hp⟩ := startFlush_joins s 1 hf
  refine ⟨_, exec_pfailAssert s (by simp [hr]), ?_⟩
  rw [if_pos hr, hp]
  exact ⟨onlyFields_confine _ _ _ _ fun _ _ _ _ => rfl, rfl, rfl, hr⟩

/-- Settles O11: a trigger while the cores run starts a flush or joins the one that runs, PFAIL_N is ignored until they run,
and each of the three ends of a flush is the hold of `heldClean_endFlush`. -/
theorem powerFailFlush : Obligations.PowerFailFlush := by
  refine ⟨fun s hr hf => ⟨?_, ?_⟩, fun s hon => ⟨pfailAssert_joins s, fun hr => ?_⟩, fun s hon ha => ⟨?_, ?_, ?_⟩⟩
  · obtain ⟨t, ht, ⟨h1, h2, h3, h4⟩, hp⟩ := pfailAssert_starts s hr hf
    exact ⟨t, ht, h1, h2, h3, h4, hp⟩
  · obtain ⟨t, ht, ⟨h1, h2, h3, h4⟩, hp⟩ := clockLoss_starts s hr hf
    exact ⟨t, ht, h1, h2, h3, h4, hp⟩
  · refine ⟨_, exec_pfailAssert s hon, ?_⟩
    rw [if_neg hr]
    exact within_confine_self _ _ s
  · exact ⟨_, exec_flushDone s hon ha, heldClean_endFlush _ _⟩
  · intro ht
    obtain ⟨hp, hk⟩ := heldClean_endFlush s (noShutdownPage s)
    exact ⟨_, exec_flushLimit s hon ha ht, hp, endFlush_noShutdownPage s s, hk⟩
  · intro hc ht
    obtain ⟨hp, hk⟩ := heldClean_endFlush s (noShutdownPage s)
    exact ⟨_, exec_holdoverEnd s hon ha hc ht, hp, endFlush_noShutdownPage s s, hk⟩

/-! ## What the walker sees (R32)

A lookup reads the registers, memory and what MAP and FCH keep. States that agree on these have the same answer. -/

/-- Two states agree on memory as a reader gets it: the bytes, what makes one unreadable, and the parity windows (R163 to R165,
R299, R304). -/
structure SameReads (s t : State) : Prop where
  mem : t.mem = s.mem
  stale : t.stale = s.stale
  hbm : t.hbm = s.hbm
  bpm : t.bpm = s.bpm
  udm : t.udm = s.udm
  failed : t.get HBM_PC_FAILED_FAILED = s.get HBM_PC_FAILED_FAILED
  wins : winOf t = winOf s

section
variable {s t : State} (h : SameReads s t)
include h

theorem SameReads.lineBad : lineBad t = lineBad s := by
  funext a
  rw [Machine.lineBad, Machine.lineBad, h.hbm, h.failed]

theorem SameReads.findWin : findWin t = findWin s := by
  funext a w n
  induction n generalizing w with
  | zero => rfl
  | succ n ih => rw [Machine.findWin, Machine.findWin, h.wins, ih]

theorem SameReads.hbmByte : hbmByte t = hbmByte s := by
  funext a
  rw [Machine.hbmByte, Machine.hbmByte, h.lineBad, h.findWin, h.mem]

theorem SameReads.readByte : readByte t = readByte s := by
  funext a
  rw [Machine.readByte, Machine.readByte, staleByte, staleByte, h.hbmByte, h.mem, h.stale, h.bpm, h.udm]

/-- A read of memory has the same bytes. -/
theorem SameReads.readBytes : readBytes t = readBytes s := by
  funext a n
  induction n generalizing a with
  | zero => rfl
  | succ n ih => rw [Machine.readBytes, Machine.readBytes, h.readByte, ih]

end

/-- Two states agree on everything that a lookup reads. -/
structure SameWalk (s t : State) : Prop where
  regs : t.regs = s.regs
  mem : t.mem = s.mem
  stale : t.stale = s.stale
  hbm : t.hbm = s.hbm
  bpm : t.bpm = s.bpm
  udm : t.udm = s.udm
  map : t.map = s.map
  fch : t.fch = s.fch

section
variable {s t : State} (h : SameWalk s t)
include h

theorem SameWalk.get : @State.get t = @State.get s := by
  funext f i j
  rw [State.get, State.get, h.regs]

theorem SameWalk.on : @State.on t = @State.on s := by
  funext f i j
  rw [State.on, State.on, h.get]

theorem SameWalk.sameReads : SameReads s t where
  mem := h.mem
  stale := h.stale
  hbm := h.hbm
  bpm := h.bpm
  udm := h.udm
  failed := by rw [h.get]
  wins := by funext w; rw [winOf, winOf, h.get, h.on]

theorem SameWalk.readBytes : readBytes t = readBytes s := h.sameReads.readBytes

theorem SameWalk.readLe : readLe t = readLe s := by
  funext a n
  rw [Machine.readLe, Machine.readLe, h.readBytes]

theorem SameWalk.readLeD : readLeD t = readLeD s := by
  funext a n
  rw [Machine.readLeD, Machine.readLeD, h.readLe]

/-! Each function of the walk reads the state through the ones before it. -/

theorem SameWalk.bWord : bWord t = bWord s := by delta Machine.bWord; rw [h.readLeD]

theorem SameWalk.chainChecked : chainChecked t = chainChecked s := by
  funext p run b fuel
  induction fuel generalizing b with
  | zero => rfl
  | succ n ih =>
    rw [Machine.chainChecked, Machine.chainChecked, h.readBytes, h.bWord, h.on]
    simp only [ih]

/-- The body of the recursion reads the state through `readBytes` and `bWord` alone. It is opened with `delta`: its equation
lemma would have the kernel evaluate the hash of `homeOf` on a variable. -/
theorem SameWalk.probeStaging : probeStaging t = probeStaging s := by
  delta Machine.probeStaging Machine.probeStaging._f
  rw [h.readBytes, h.bWord]

theorem SameWalk.entriesOf : entriesOf t = entriesOf s := by delta Machine.entriesOf; rw [h.bWord]
theorem SameWalk.stgPool : stgPool t = stgPool s := by delta Machine.stgPool; rw [h.get]
theorem SameWalk.excPool : excPool t = excPool s := by delta Machine.excPool; rw [h.get]
theorem SameWalk.walkStaging : walkStaging t = walkStaging s := by
  delta Machine.walkStaging
  rw [h.stgPool, h.probeStaging, h.chainChecked, h.entriesOf]
theorem SameWalk.burSet : burSet t = burSet s := by delta Machine.burSet; rw [h.get]
theorem SameWalk.tagAddr : tagAddr t = tagAddr s := by delta Machine.tagAddr; rw [h.get]
theorem SameWalk.findTag : findTag t = findTag s := by delta Machine.findTag; rw [h.burSet, h.tagAddr, h.readLeD]
theorem SameWalk.burFrame : burFrame t = burFrame s := by delta Machine.burFrame; rw [h.findTag]
theorem SameWalk.frameAddr : frameAddr t = frameAddr s := by delta Machine.frameAddr; rw [h.get]
theorem SameWalk.frameWord : frameWord t = frameWord s := by delta Machine.frameWord; rw [h.frameAddr, h.readLeD]
theorem SameWalk.burHolds : burHolds t = burHolds s := by delta Machine.burHolds; rw [h.burFrame, h.frameWord, h.get, h.on]
theorem SameWalk.dieState : dieState t = dieState s := by delta Machine.dieState; rw [h.get]
theorem SameWalk.dieModel : dieModel t = dieModel s := by delta Machine.dieModel; rw [h.get]
theorem SameWalk.chanOf : chanOf t = chanOf s := by delta Machine.chanOf; rw [h.fch]
theorem SameWalk.denPopulated : denPopulated t = denPopulated s := by delta Machine.denPopulated; rw [h.chanOf]
theorem SameWalk.mediaValid : mediaValid t = mediaValid s := by delta Machine.mediaValid; rw [h.denPopulated, h.dieState, h.dieModel, h.get]
theorem SameWalk.mediaResult : mediaResult t = mediaResult s := by delta Machine.mediaResult; rw [h.mediaValid, h.on]
theorem SameWalk.cachedDesc : cachedDesc t = cachedDesc s := by delta Machine.cachedDesc; rw [h.map]
theorem SameWalk.stripeAddr : stripeAddr t = stripeAddr s := by delta Machine.stripeAddr; rw [h.get]
theorem SameWalk.walkerDesc : walkerDesc t = walkerDesc s := by delta Machine.walkerDesc; rw [h.cachedDesc, h.stripeAddr, h.readBytes]
theorem SameWalk.descOk : descOk t = descOk s := by delta Machine.descOk; rw [h.get]
theorem SameWalk.baseResult : baseResult t = baseResult s := by
  delta Machine.baseResult
  rw [h.get, h.on, h.walkerDesc, h.descOk, h.mediaResult]
theorem SameWalk.excResult : excResult t = excResult s := by
  delta Machine.excResult
  rw [h.on, h.excPool, h.chainChecked, h.entriesOf, h.mediaResult, h.baseResult]
theorem SameWalk.runAddr : runAddr t = runAddr s := by delta Machine.runAddr; rw [h.get]

/-- The walker's answer is the same. -/
theorem SameWalk.translate : @translate t = @translate s := by
  delta Machine.translate
  rw [h.runAddr, h.readLe, h.walkStaging, h.burHolds, h.excResult]

end

/-- A command's context is nothing that the walker reads. -/
theorem sameWalk_setCtx (s : State) (c : Nat) (x : Ctx) : SameWalk s (setCtx s c x) := ⟨rfl, rfl, rfl, rfl, rfl, rfl, rfl, rfl⟩

/-! ## What a lookup leaves (R11, R33, R165) -/

/-- The counters and status fields that reads of memory and a lookup advance. -/
def lookupFields : List Fld :=
  [MAP_LOOKUP_CNT_COUNT, MAP_MULTI_CNT_COUNT, BUR_CNTn_COUNT, HBM_STATUS_RECON, HBM_STATUS_LINE_UNCORR, HBM_CNTn_COUNT,
   BPM_STATUS_UE, BPM_CNTn_COUNT, BPM_GRPg_STATE_UE_CNT, BPM_ERR_ADDR, BPM_ERR_GROUP, BPM_ERR_POISON]

/-- `t` is `s` after reads: counters and status fields, and what MAP keeps of its lookups, may differ. -/
structure Noted (s t : State) : Prop where
  rest : ∃ r m, t = { s with regs := r, map := m }
  fields : OnlyFields lookupFields s t

theorem Noted.refl (s : State) : Noted s s := ⟨⟨_, _, rfl⟩, fun _ _ _ _ => rfl⟩

theorem Noted.trans {s t u : State} (h : Noted s t) (h' : Noted t u) : Noted s u where
  rest := by
    obtain ⟨_, _, ht⟩ := h.rest
    obtain ⟨_, _, hu⟩ := h'.rest
    exact ⟨_, _, by rw [hu, ht]⟩
  fields f i j hf := (h'.fields f i j hf).trans (h.fields f i j hf)

theorem Noted.foldl {α : Type} {f : State → α → State} (hf : ∀ s x, Noted s (f s x)) (l : List α) (s : State) :
    Noted s (l.foldl f s) :=
  List.foldlRecOn l f (motive := Noted s) (.refl s) fun t ht x _ => ht.trans (hf t x)

theorem Noted.set {s t : State} (h : Noted s t) {f : Fld} (v i j : Nat) (hf : f.id ∈ lookupFields.map Fld.id) :
    Noted s (t.set f v i j) :=
  h.trans ⟨⟨_, _, rfl⟩, fun _ _ _ hg => rget_rset_id _ _ _ _ fun e => hg (e ▸ hf)⟩

theorem Noted.bump {s t : State} (h : Noted s t) {f : Fld} (i n j : Nat) (hf : f.id ∈ lookupFields.map Fld.id) :
    Noted s (t.bump f i n j) := h.set _ _ _ hf

theorem Noted.map {s t : State} (h : Noted s t) (m : MapSt) : Noted s { t with map := m } :=
  h.trans ⟨⟨_, _, rfl⟩, fun _ _ _ _ => rfl⟩

/-- A counter that advances only on a condition. -/
theorem Noted.bumpIf {s t : State} (h : Noted s t) (c : Bool) {f : Fld} (i n j : Nat) (hf : f.id ∈ lookupFields.map Fld.id) :
    Noted s (if c then t.bump f i n j else t) := by
  cases c
  · exact h
  · exact h.bump i n j hf

theorem noted_noteWord (s : State) (w : Nat) : Noted s (noteWord s w) :=
  ((((((Noted.refl s).set _ _ _ (by decide)).bump _ _ _ (by decide)).bump _ _ _ (by decide)).set _ _ _ (by decide)).set _ _ _
    (by decide)).set _ _ _ (by decide)

theorem noted_noteLine (s : State) (a : Nat) : Noted s (noteLine s a) := by
  unfold noteLine
  split
  · exact .refl s
  · split <;> exact ((Noted.refl s).set _ _ _ (by decide)).bump _ _ _ (by decide)

theorem noted_noteLines (s : State) (a n : Nat) : Noted s (noteLines s a n) := by
  unfold noteLines
  split
  · exact .foldl noted_noteWord _ _
  · exact .foldl (fun _ _ => noted_noteLine _ _) _ _

/-- The reads of a descriptor, where a lookup makes them. -/
theorem Noted.noteDesc {s t : State} (h : Noted s t) (d : Option Nat) (a : Nat → Nat) (n : Nat) :
    Noted s (match d with | some st => noteLines t (a st) n | none => t) := by
  cases d with
  | none => exact h
  | some st => exact h.trans (noted_noteLines t _ _)

theorem noted_noteAll (s : State) (l : List Nat) : Noted s (noteAll s l) := .foldl noted_noteLine l s

theorem noted_cacheStripe (s : State) (x : Option Nat) : Noted s (cacheStripe s x) := by
  unfold cacheStripe
  split
  · exact .refl s
  · split
    · exact .refl s
    · exact (Noted.refl s).map _

section
variable {s t : State} (h : Noted s t)
include h

theorem Noted.cmd : t.cmd = s.cmd := by obtain ⟨_, _, e⟩ := h.rest; rw [e]
theorem Noted.bur : t.bur = s.bur := by obtain ⟨_, _, e⟩ := h.rest; rw [e]
theorem Noted.nvm : t.nvm = s.nvm := by obtain ⟨_, _, e⟩ := h.rest; rw [e]
theorem Noted.fch : t.fch = s.fch := by obtain ⟨_, _, e⟩ := h.rest; rw [e]

/-- A field that no read records reads as before. -/
theorem Noted.get {f : Fld} (hf : f.id ∉ lookupFields.map Fld.id) (i j : Nat) : t.get f i j = s.get f i j :=
  h.fields f i j hf

theorem Noted.on {f : Fld} (hf : f.id ∉ lookupFields.map Fld.id) (i j : Nat) : t.on f i j = s.on f i j := by
  rw [State.on, State.on, h.get hf]

/-- What reads record changes no later read. -/
theorem Noted.sameReads : SameReads s t where
  mem := by obtain ⟨_, _, e⟩ := h.rest; rw [e]
  stale := by obtain ⟨_, _, e⟩ := h.rest; rw [e]
  hbm := by obtain ⟨_, _, e⟩ := h.rest; rw [e]
  bpm := by obtain ⟨_, _, e⟩ := h.rest; rw [e]
  udm := by obtain ⟨_, _, e⟩ := h.rest; rw [e]
  failed := h.get (by decide) _ _
  wins := by
    funext w
    rw [winOf, winOf, h.on (by decide), h.get (by decide), h.get (by decide), h.get (by decide)]

theorem Noted.nsFmt (n : Nat) : nsFmt t n = nsFmt s n := by
  rw [Machine.nsFmt, Machine.nsFmt, nsLba4k, nsLba4k, h.nvm, h.on (by decide)]

end

/-- An answer that records no error of the map (R11, R33). -/
def Sound : Xlat → Prop
  | .corrupt | .badMedia _ => False
  | _ => True

/-- A lookup answers what the walker finds, and a sound one leaves only what it has counted. -/
theorem lookup_sound (s : State) (run q : Nat) (bypass : Bool) {x : Xlat} (hx : translate s run q bypass = x) (hs : Sound x) :
    ∃ t, lookup s run q bypass = (x, t) ∧ Noted s t := by
  have lines : Noted s (noteAll (s.bump MAP_LOOKUP_CNT_COUNT) (walkLines s run q bypass)) :=
    ((Noted.refl s).bump _ _ _ (by decide)).trans (noted_noteAll _ _)
  have counts := ((lines.noteDesc (descRead s run q bypass) (stripeAddr s) 152).bumpIf (lookupMulti s run q bypass)
    (f := MAP_MULTI_CNT_COUNT) 0 1 0 (by decide)).bumpIf (burrowIdle s run) (f := BUR_CNTn_COUNT) 7 1 0 (by decide)
  have cached := fun m => (counts.map m).trans (noted_cacheStripe _ (descRead s run q bypass))
  rw [lookup, hx]
  cases x
  case corrupt => exact hs.elim
  case badMedia => exact hs.elim
  all_goals exact ⟨_, rfl, cached _⟩

/-! ## Contexts -/

@[simp] theorem ctxOf_setCtx_same (s : State) (c : Nat) (x : Ctx) : ctxOf (setCtx s c x) c = some x := tget_tput_same _ _ _

/-- A state with the same commands has the same contexts. -/
theorem ctxOf_congr {s t : State} (h : t.cmd = s.cmd) (c : Nat) : ctxOf t c = ctxOf s c := by rw [ctxOf, ctxOf, h]

theorem updCtx_held {s : State} {c : Nat} {x : Ctx} (h : ctxOf s c = some x) (g : Ctx → Ctx) :
    updCtx s c g = setCtx s c (g x) := by rw [updCtx, h]

theorem ctxGot_held {s : State} {c : Nat} {x : Ctx} (h : ctxOf s c = some x) (k : Nat) (d : List Byte) :
    ctxGot s c k d = setCtx s c { x with got := tput x.got k d } := updCtx_held h _

theorem ctxErr_held {s : State} {c : Nat} {x : Ctx} (h : ctxOf s c = some x) (he : x.err = 0) (st : Nat) :
    ctxErr s c st = setCtx s c { x with err := st } := by
  rw [ctxErr, updCtx_held h, if_pos he]

/-- An internal operation of a running command ends: one less is left (R221). -/
theorem opEnd_held {s : State} {c : Nat} {x : Ctx} (h : ctxOf s c = some x) (hr : x.stage = .running) :
    opEnd s c = setCtx s c { x with left := x.left - 1 } := by
  rw [opEnd, h]
  exact if_neg fun hd => absurd (hr.symm.trans hd.1) (by decide)

/-- The same of a context that was just set. -/
theorem ctxOf_opEnd_setCtx (s : State) (c : Nat) {x : Ctx} (hr : x.stage = .running) :
    ctxOf (opEnd (setCtx s c x) c) c = some { x with left := x.left - 1 } := by
  rw [opEnd_held (ctxOf_setCtx_same s c x) hr, ctxOf_setCtx_same]

/-- Where no fill is under way, no fill takes a command's data (R176). -/
theorem hostFill_none {s : State} (h : s.bur.fills = []) (c run q : Nat) (d : Option (List Byte)) : hostFill s c run q d = s := by
  rw [hostFill, h]; rfl

/-- A sector's data kept for a running command while no fill is under way: it has the data, and one operation less is left. -/
theorem ctxOf_gotNow {s : State} {c : Nat} {x : Ctx} (h : ctxOf s c = some x) (hr : x.stage = .running) (hf : s.bur.fills = [])
    (k run q : Nat) (d : List Byte) :
    ctxOf (gotNow s c k run q d) c = some { x with got := tput x.got k d, left := x.left - 1 } := by
  rw [gotNow, ctxGot_held h, hostFill_none (s := setCtx s c _) hf, ctxOf_opEnd_setCtx _ _ (by exact hr)]

/-! ## A sector served (R12, R32) -/

/-- The walker's answer for sector `k` of a command. -/
def sectorOfCmd (s : State) (x : Ctx) (k : Nat) (bypass : Bool) : Xlat :=
  translate s (secRun s (cmdNs x) (secBase s x + k)) (secQ (secBase s x + k)) bypass

/-- The command of a sector's read, and its data so far. -/
theorem srcSector_host {s : State} {c : Nat} {x : Ctx} (h : ctxOf s c = some x) (k : Nat) :
    srcSector s (.host c k) = some (cmdNs x, secRun s (cmdNs x) (secBase s x + k), secQ (secBase s x + k)) := by
  rw [srcSector, h]; rfl

/-- A staging sector that can be read. -/
theorem readStaged_noted (s : State) (i : Nat) {d m : List Byte} (hd : readBytes s (stgAddr s i) 4096 = some d)
    (hm : readBytes s (stgMeta s i) 64 = some m) : ∃ t, readStaged s i = (some (d ++ m), t) ∧ Noted s t := by
  rw [readStaged, hd, hm]
  exact ⟨_, rfl, (noted_noteLines _ _ _).trans (noted_noteLines _ _ _)⟩

/-- While read-around is off, no read is decided for it (R102). -/
theorem raDecide_off {s : State} (h : s.on CDC_RA_CFG_ENABLE = false) (die : Nat) (o : MOp) (q : List MOp) :
    raDecide s die o q = (none, s) := by
  rw [raDecide, if_pos (.inl (by rw [h]; rfl))]

/-- Out of the flush a read joins the queue of its die (R80). -/
theorem qPush_read {s : State} (h : s.fch.flushing = false) (die : Nat) (o : MOp) :
    qPush s die o = setDieSt s die { dieOf s die with queue := (dieOf s die).queue ++ [{ o with queuedUs := s.timeUs }] } := by
  rw [qPush, if_neg (by simp [flushDrops, h]), flushRaise, if_neg (by simp [h])]

@[simp] theorem dieOf_setDieSt_same (s : State) (die : Nat) (d : DieSt) : dieOf (setDieSt s die d) die = d := by
  rw [dieOf, tgetD, setDieSt, tget_tput_same]; rfl

/-- A read of an active die is queued there while read-around is off and no flush runs (R78, R102). -/
theorem queueRead_active {s : State} {o : MOp} (hd : dieState s (mediaDie o.media) = 1) (ha : s.on CDC_RA_CFG_ENABLE = false)
    (hf : s.fch.flushing = false) :
    (queueRead s o).cmd = s.cmd ∧ { o with queuedUs := s.timeUs } ∈ (dieOf (queueRead s o) (mediaDie o.media)).queue := by
  rw [queueRead, if_neg (by simp [hd])]
  simp only [raDecide_off ha, qPush_read hf, ite_self, dieOf_setDieSt_same]
  exact ⟨rfl, List.mem_append_right _ List.mem_cons_self⟩

section
variable {s : State} {c k : Nat} {x : Ctx} {bypass : Bool}
variable (h : ctxOf s c = some x) (hr : x.stage = .running) (hf : s.bur.fills = [])
include h hr hf

/-- A sector that holds nothing: its zeros are with the command (R12, R32). -/
theorem serveSector_zeros (hx : sectorOfCmd s x k bypass = .zeros) :
    ctxOf (serveSector s c k bypass) c =
      some { x with got := tput x.got k (zeroSector (nsFmt s (cmdNs x))), left := x.left - 1 } := by
  obtain ⟨t, hl, ht⟩ := lookup_sound s _ _ bypass hx trivial
  have hc : ctxOf t c = some x := (ctxOf_congr ht.cmd c).trans h
  rw [serveSector, srcSector_host h]
  simp only [hl]
  rw [ctxOf_gotNow hc hr (by rw [ht.bur, hf]), ht.nsFmt]

/-- A staged sector: its data and metadata are with the command (R12, R32, R167). -/
theorem serveSector_staging {i : Nat} {d m : List Byte} (hx : sectorOfCmd s x k bypass = .staging i)
    (hd : readBytes s (stgAddr s i) 4096 = some d) (hm : readBytes s (stgMeta s i) 64 = some m) :
    ctxOf (serveSector s c k bypass) c = some { x with got := tput x.got k (d ++ m), left := x.left - 1 } := by
  obtain ⟨t, hl, ht⟩ := lookup_sound s _ _ bypass hx trivial
  obtain ⟨u, hrd, hu⟩ := readStaged_noted t i (d := d) (m := m)
    (by rw [ht.sameReads.readBytes, stgAddr, ht.get (by decide)]; exact hd)
    (by rw [ht.sameReads.readBytes, stgMeta, ht.get (by decide)]; exact hm)
  have hs := ht.trans hu
  rw [serveSector, srcSector_host h]
  simp only [hl, hrd]
  exact ctxOf_gotNow ((ctxOf_congr hs.cmd c).trans h) hr (by rw [hs.bur, hf]) _ _ _ _

/-- A lost sector: the command has the status Unrecovered Read Error (R32). -/
theorem serveSector_unrecovered (he : x.err = 0) (hx : sectorOfCmd s x k bypass = .unrecovered) :
    ctxOf (serveSector s c k bypass) c = some { x with err := stUnrecovered, left := x.left - 1 } := by
  obtain ⟨t, hl, ht⟩ := lookup_sound s _ _ bypass hx trivial
  have hc : ctxOf t c = some x := (ctxOf_congr ht.cmd c).trans h
  rw [serveSector, srcSector_host h]
  simp only [hl]
  rw [hostFill_none (by rw [ht.bur, hf]), ctxErr_held hc he, ctxOf_opEnd_setCtx _ _ (by exact hr)]

end

/-- A sector on media: its sense is queued on its die, and the command waits for it (R12, R78). -/
theorem serveSector_media {s : State} {c k a kg : Nat} {x : Ctx} {bypass : Bool} {row : Option (Nat × Nat)}
    (h : ctxOf s c = some x) (hx : sectorOfCmd s x k bypass = .media a kg row)
    (hd : dieState s (mediaDie a) = 1) (ha : s.on CDC_RA_CFG_ENABLE = false) (hfl : s.fch.flushing = false) :
    ctxOf (serveSector s c k bypass) c = some x ∧
      ∃ o ∈ (dieOf (serveSector s c k bypass) (mediaDie a)).queue, o.media = a ∧ o.src = .host c k ∧ o.kind = .read ∧ o.cls = 1 := by
  obtain ⟨t, hl, ht⟩ := lookup_sound s _ _ bypass hx trivial
  have queued (o : MOp) (e : o.media = a) :
      (queueRead t o).cmd = t.cmd ∧ { o with queuedUs := t.timeUs } ∈ (dieOf (queueRead t o) (mediaDie a)).queue := by
    subst e
    exact queueRead_active (by rw [dieState, ht.get (by decide)]; exact hd) (by rw [ht.on (by decide), ha]) (by rw [ht.fch, hfl])
  rw [serveSector, srcSector_host h]
  simp only [hl]
  exact ⟨(ctxOf_congr ((queued _ rfl).1.trans ht.cmd) c).trans h, _, (queued _ rfl).2, rfl, rfl, rfl, rfl⟩

/-! ## Commands that read (R12, R246) -/

/-- While the Burrow is disabled no segment is counted or admitted (R175). -/
theorem touchSeg_off {s : State} (h : s.on BUR_CTRL_ENABLE = false) (run seg hint : Nat) (whole : Option Nat) :
    touchSeg s run seg hint whole = s := by
  rw [touchSeg, if_pos (.inl (by simp [h]))]

/-- A read command begun: it has started, and waits for its sectors. -/
def begun (x : Ctx) (n : Nat) : Ctx := { x with started := true, left := x.left + n }

/-- With the Burrow disabled a command of one sector begins, and its sector is served. -/
theorem readSectors_one {s : State} {c : Nat} {x : Ctx} (h : ctxOf s c = some x) (hn : cmdSectors s x = 1)
    (hb : s.on BUR_CTRL_ENABLE = false) (hint : Nat) (bypass : Bool) :
    readSectors s c hint bypass = serveSector (setCtx s c (begun x 1)) c 0 bypass := by
  rw [readSectors, h]
  simp only [hn]
  have touched (l : List (Nat × Nat × Nat)) : l.foldl (fun t g => touchSeg t g.1 g.2.1 hint
      (if g.2.2 = 16 ∧ segPlain t g.1 g.2.1 = true then some c else none)) (setCtx s c (begun x 1)) = setCtx s c (begun x 1) :=
    List.foldlRecOn l _ (motive := fun t => t = setCtx s c (begun x 1)) rfl fun t e g _ => by
      rw [e, touchSeg_off (s := setCtx s c (begun x 1)) hb]
  cases bypass
  · exact congrArg (fun t => serveSector t c 0 false) (touched _)
  · rfl

/-- A ready command runs as its row says. -/
theorem cmdRun_ready {s : State} {c op : Nat} {x : Ctx} (h : Ready s c x op) (g : State → Ctx → State) : cmdRun s c op g = g s x := by
  obtain ⟨hheld, hstage, hfresh, hio, hop, hknown, hbme⟩ := h
  rw [cmdRun, hheld]
  subst hop
  have hby : byCmd x = true := by rw [byCmd, if_neg hio]; exact hknown
  simp [hstage, hfresh, hio, hby, hbme]

/-- A request for host data leaves what a command has read. -/
theorem sendReq_cmd (s : State) (r : Req) : (sendReq s r).cmd = s.cmd := by
  unfold sendReq
  split
  · rfl
  · split
    · rfl
    · simp only [countReads]
      split <;> rfl

theorem ctxReq_got {s : State} {c : Nat} {x : Ctx} (h : ctxOf s c = some x) (kind : ReqKind) (a n : Nat) :
    ∃ y, ctxOf (ctxReq s c kind a n) c = some y ∧ y.started = x.started ∧ y.got = x.got := by
  rw [ctxReq, h]
  exact ⟨_, (ctxOf_congr (sendReq_cmd _ _) c).trans (ctxOf_setCtx_same _ _ _), rfl, rfl⟩

/-- The host's data asked for: the command goes on as it was, with more to wait for. -/
theorem askData_got {s : State} {c : Nat} {x : Ctx} (h : ctxOf s c = some x) :
    ∃ y, ctxOf (askData s c) c = some y ∧ y.started = x.started ∧ y.got = x.got := by
  rw [askData, h]
  refine List.foldlRecOn _ _ (motive := fun t => ∃ y, ctxOf t c = some y ∧ y.started = x.started ∧ y.got = x.got) ⟨x, h, rfl, rfl⟩ ?_
  rintro t ⟨y, hy, hst, hgot⟩ r _
  obtain ⟨z, hz, hzs, hzg⟩ := ctxReq_got hy (.data c r.1) r.2.1 r.2.2
  exact ⟨z, hz, hzs.trans hst, hzg.trans hgot⟩

section
variable {s : State} {c : Nat} {x : Ctx} (hl : s.live = true) (hn : cmdSectors s x = 1) (hb : s.on BUR_CTRL_ENABLE = false)
include hl hn hb

/-- A Read of one sector (R12). -/
theorem exec_read_one (h : Ready s c x 2) :
    exec (.read c) s = .next (confine .io s (serveSector (setCtx s c (begun x 1)) c 0 false)) := by
  change execRead c s = _
  rw [execRead, act_live _ _ _ hl, cmdRun_ready h, readSectors_one h.held hn hb]

/-- A Verify of one sector (R246). -/
theorem exec_verify_one (h : Ready s c x 0x0C) :
    exec (.verify c) s = .next (confine .io s (serveSector (setCtx s c (begun x 1)) c 0 true)) := by
  change execVerify c s = _
  rw [execVerify, act_live _ _ _ hl, cmdRun_ready h, readSectors_one h.held hn hb]

/-- A Compare of one sector (R246): the host's data is asked for besides. -/
theorem exec_compare_one (h : Ready s c x 5) : ∃ t, exec (.compare c) s = .next (confine .io s t) ∧
    (t = serveSector (setCtx s c (begun x 1)) c 0 false ∨ t = askData (serveSector (setCtx s c (begun x 1)) c 0 false) c) := by
  change ∃ t, execCompare c s = _ ∧ _
  rw [execCompare, act_live _ _ _ hl, cmdRun_ready h, readSectors_one h.held hn hb]
  refine ⟨_, rfl, ?_⟩
  cases dmaReady x
  · exact .inl rfl
  · exact .inr rfl

end

/-- The walker's answer for a sector of a command that has begun. -/
theorem sectorOfCmd_begun (s : State) (c n k : Nat) (x : Ctx) (bypass : Bool) :
    sectorOfCmd (setCtx s c (begun x n)) (begun x n) k bypass = sectorOfCmd s x k bypass := by
  rw [sectorOfCmd, (sameWalk_setCtx s c (begun x n)).translate]; rfl

/-- Settles O22: each command begins and serves its one sector by `serveSector_zeros`, `serveSector_staging`,
`serveSector_media` or `serveSector_unrecovered`. -/
theorem sectorReads : Obligations.SectorReads := by
  intro c op x s hl h hn hb hf _
  have held : ctxOf (setCtx s c (begun x 1)) c = some (begun x 1) := ctxOf_setCtx_same _ _ _
  have running : (begun x 1).stage = .running := h.stage
  have answer (b : Bool) : sectorOfCmd (setCtx s c (begun x 1)) (begun x 1) 0 b =
      translate s (secRun s (cmdNs x) (secBase s x)) (secQ (secBase s x)) b := sectorOfCmd_begun s c 1 0 x b
  refine ⟨?read, ?staged, ?media, ?lost, ?compare, ?verify⟩
  case read =>
    rintro rfl hx
    exact ⟨_, exec_read_one hl hn hb h, _, serveSector_zeros held running hf ((answer false).trans hx), rfl, rfl, tget_tput_same _ _ _⟩
  case staged =>
    rintro i d m rfl hx hd hm
    exact ⟨_, exec_read_one hl hn hb h, _, serveSector_staging held running hf ((answer false).trans hx)
      (by rw [(sameWalk_setCtx s c (begun x 1)).readBytes]; exact hd) (by rw [(sameWalk_setCtx s c (begun x 1)).readBytes]; exact hm),
      rfl, rfl, tget_tput_same _ _ _⟩
  case media =>
    rintro a kg row rfl hx hd ha hfl
    obtain ⟨hctx, o, ho, hprops⟩ := serveSector_media held ((answer false).trans hx) hd ha hfl
    exact ⟨_, exec_read_one hl hn hb h, ⟨_, hctx, rfl, rfl⟩, o, ho, hprops⟩
  case lost =>
    rintro rfl he hx
    exact ⟨_, exec_read_one hl hn hb h, _, serveSector_unrecovered held running hf he ((answer false).trans hx), rfl, rfl, rfl⟩
  case compare =>
    rintro rfl hx
    have zeros := serveSector_zeros held running hf ((answer false).trans hx)
    obtain ⟨t, ht, rfl | rfl⟩ := exec_compare_one hl hn hb h
    · exact ⟨_, ht, _, zeros, rfl, tget_tput_same _ _ _⟩
    · obtain ⟨y, hy, hst, hgot⟩ := askData_got zeros
      exact ⟨_, ht, y, hy, hst, by rw [hgot]; exact tget_tput_same _ _ _⟩
  case verify =>
    rintro rfl hx
    exact ⟨_, exec_verify_one hl hn hb h, _, serveSector_zeros held running hf ((answer true).trans hx), rfl, rfl, tget_tput_same _ _ _⟩

end Sys2Proof.Proofs.Architecture
end
